-- ==== Sys2Proof/Word.lean ====
section
/-! DEFINITION. The word types of the ULPICO LG40 and the two named chains of the line (spec/00_scope.md,
Conventions; spec/03, "the pre chain is chain 0 and the main chain is chain 1"). -/

namespace Sys2Proof

/-- One byte of a link frame, of a probe reply or of a store block. -/
abbrev Byte := BitVec 8

/-- A 32-bit quantity: a line clock value in ticks of 10 ms, a rod number, a lot id, a notice detail
(spec/00_scope.md, Units and ranges). Arithmetic on it wraps modulo 2^32. -/
abbrev Word32 := BitVec 32

/-- The two chains: the pre chain is chain 0, the main chain is chain 1 (spec/03). -/
inductive Chain where
  | pre
  | main
  deriving DecidableEq, Repr

end Sys2Proof
end

