-- ==== Sys2Proof/Syntax.lean ====
section
/-! DEFINITION. The commands of the part: one constructor of `Instr` per row of spec/opcode_table.json, with the operands the
row's rule gives it. A host request carries its payload fields at their widths on the link (R198, table of
request codes); a field event carries what the part samples when it takes the event. -/

namespace Sys2Proof

/-- The six bytes a probe clocks out after it acknowledged its address (R153): temperature high and low, humidity high
and low, status byte, check byte. -/
structure ProbeReply where
  tempHigh : Byte
  tempLow  : Byte
  humHigh  : Byte
  humLow   : Byte
  status   : Byte
  check    : Byte
  deriving DecidableEq, Repr

/-- The first reflection that passes the detection threshold after the test pulse, with its distance count in steps
of 0.5 m (R162). -/
inductive Reflection where
  /-- No reflection passed the threshold within a count of 511. -/
  | nothing
  /-- A reflection of the same sense as the pulse. -/
  | sameSense (count : Nat)
  /-- A reflection of the opposite sense to the pulse. -/
  | oppositeSense (count : Nat)
  deriving DecidableEq, Repr

/-- A request frame whose CRC was correct: address, request code and payload (R191). -/
structure Frame where
  address : Byte
  code    : Byte
  payload : List Byte
  deriving DecidableEq, Repr

/-- The commands. The docstring of a constructor names its row of spec/opcode_table.json and its rule. -/
inductive Instr where
  /-- IDENTIFY (R195). -/
  | identify
  /-- STATUS (R196). -/
  | status
  /-- TIME_SET (R197): the clock value. -/
  | timeSet (value : Word32)
  /-- BROADCAST_TIME_SET (R193): the clock value. -/
  | broadcastTimeSet (value : Word32)
  /-- TIME_READ (R197). -/
  | timeRead
  /-- RESET (R149). -/
  | reset
  /-- SOFT_RESET (R149): the levels of the ADDR and BAUD straps as sampled (R190). -/
  | softReset (addr : BitVec 4) (baud : BitVec 2)
  /-- POWER_ON_RESET (R150): the levels of the ADDR and BAUD straps as sampled (R190). -/
  | powerOnReset (addr : BitVec 4) (baud : BitVec 2)
  /-- LINE_START (R140). -/
  | lineStart
  /-- LINE_HOLD (R142): the hold mask, bit n for zone n. -/
  | lineHold (mask : BitVec 16)
  /-- BROADCAST_LINE_HOLD (R143): the mask the frame carries (the node does not use it). -/
  | broadcastLineHold (mask : BitVec 16)
  /-- LINE_RELEASE (R145). -/
  | lineRelease
  /-- LINE_RUN_OUT (R146). -/
  | lineRunOut
  /-- LINE_SHUTDOWN (R148). -/
  | lineShutdown
  /-- ZONE_READ (R90): the zone. -/
  | zoneRead (zone : Byte)
  /-- ZONE_RESTART (R89): the zone. -/
  | zoneRestart (zone : Byte)
  /-- CHAIN_READ (R63): the chain code. -/
  | chainRead (chain : Byte)
  /-- CHAIN_CLEAR (R60): the chain code and the moved flag (0 no, 1 yes). -/
  | chainClear (chain moved : Byte)
  /-- CAPTURE_READ (R43). -/
  | captureRead
  /-- LOT_OPEN (R123): lot id, profile, gap. -/
  | lotOpen (id : Word32) (profile gap : Byte)
  /-- LOT_CLOSE (R126). -/
  | lotClose
  /-- LOT_READ (R129): lot id. -/
  | lotRead (id : Word32)
  /-- ROD_READ (R18): rod number. -/
  | rodRead (number : Word32)
  /-- ROD_MARK (R19): rod number. -/
  | rodMark (number : Word32)
  /-- TRAIN_READ (R21): part code, first place, count. -/
  | trainRead (part : Byte) (first : BitVec 16) (count : Byte)
  /-- REPORT_READ (R187). -/
  | reportRead
  /-- REPORT_RELEASE (R188): the count n. -/
  | reportRelease (count : Byte)
  /-- NOTICE_FETCH (R182). -/
  | noticeFetch
  /-- NOTICE_ENABLE (R180): the set, bit k for kind k. -/
  | noticeEnable (kinds : BitVec 32)
  /-- PROFILE_READ (R176): the slot. -/
  | profileRead (slot : Byte)
  /-- PROFILE_WRITE (R167): the slot and the profile image of 215 bytes. -/
  | profileWrite (slot : Byte) (image : List Byte)
  /-- PROFILE_ERASE (R168): the slot. -/
  | profileErase (slot : Byte)
  /-- TABLE_READ (R176): the row. -/
  | tableRead (row : Byte)
  /-- TABLE_WRITE (R169): the row and its 21 entries, column 0 first. -/
  | tableWrite (row : Byte) (entries : List (BitVec 16))
  /-- LAYOUT_READ (R176). -/
  | layoutRead
  /-- LAYOUT_WRITE (R170): the layout image of 63 bytes. -/
  | layoutWrite (image : List Byte)
  /-- PROBE_READ (R164): the probe address. -/
  | probeRead (address : Byte)
  /-- LINE_CHECK (R161). -/
  | lineCheck
  /-- LINE_CHECK_RESULT (R163). -/
  | lineCheckResult
  /-- UNKNOWN_REQUEST (R192): a request code that is not in the table of request codes. -/
  | unknownRequest (code : Byte)
  /-- FRAME_DISCARDED (R191): a closed frame dropped silently. -/
  | frameDiscarded
  /-- BYTE_GAP (R191). -/
  | byteGap
  /-- REPLY_END (R192). -/
  | replyEnd
  /-- HANG (R25): a rising edge of HANG. -/
  | hang
  /-- CUT (R26): a rising edge of CUT. -/
  | cut
  /-- CURTAIN_PULSE (R29): the channel. -/
  | curtainPulse (channel : Nat)
  /-- STEP_DONE (R51): the chain whose STEP DONE rose. -/
  | stepDone (chain : Chain)
  /-- STRIP_READY_CHANGE (R48): the new level, true for a rise. -/
  | stripReadyChange (level : Bool)
  /-- INTERVAL_EXPIRY (R47). -/
  | intervalExpiry (chain : Chain)
  /-- STEP_TIMEOUT (R57). -/
  | stepTimeout (chain : Chain)
  /-- BLOCK_LIMIT (R49). -/
  | blockLimit (chain : Chain)
  /-- ZONE_TICK (R105): the zone. -/
  | zoneTick (zone : Nat)
  /-- ECONOMY_TIMER_EXPIRY (R81): the zone. -/
  | economyTimerExpiry (zone : Nat)
  /-- RAMP_LIMIT_EXPIRY (R79): the zone. -/
  | rampLimitExpiry (zone : Nat)
  /-- PURGE_TIMER_EXPIRY (R87): the zone. -/
  | purgeTimerExpiry (zone : Nat)
  /-- SPACING_TIMER_EXPIRY (R75). -/
  | spacingTimerExpiry
  /-- POLL (R153): the level of PROBE DATA as the master finds it when it is about to send start (true high). -/
  | poll (dataHigh : Bool)
  /-- POLL_STOP (R154): what the probe answered, or none where it did not acknowledge its address. -/
  | pollStop (reply : Option ProbeReply)
  /-- BUS_FAULT (R159). -/
  | busFault
  /-- RECOVERY_ATTEMPT (R160): the sampled level of PROBE CLK (true high). -/
  | recoveryAttempt (clkHigh : Bool)
  /-- LINE_CHECK_BEGIN (R161): the level of PROBE CLK when the quiet command's start condition is due (true high). -/
  | lineCheckBegin (clkHigh : Bool)
  /-- QUIET_WINDOW_EDGE (R162). -/
  | quietWindowEdge
  /-- QUIET_WINDOW_END (R162). -/
  | quietWindowEnd
  /-- LINE_CHECK_END (R162): the first reflection past the threshold. -/
  | lineCheckEnd (reflection : Reflection)
  /-- STORE_POLL_ACK (R172). -/
  | storePollAck
  /-- STORE_POLL_TIMEOUT (R173). -/
  | storePollTimeout
  /-- STORE_TRANSFER_NACK (R172). -/
  | storeTransferNack
  /-- LOAD_BLOCK_READ (R175): the 512 bytes clocked in. -/
  | loadBlockRead (bytes : List Byte)
  /-- LOAD_POLL_TIMEOUT (R175). -/
  | loadPollTimeout
  /-- LINK_BYTE (R191): the byte received on the link. -/
  | linkByte (byte : Byte)
  /-- FRAME_HELD_PENDING (R192): the frame that completes while a request is being served. -/
  | frameHeldPending (frame : Frame)
  /-- QUIET_COMMAND_FAILED (R162). -/
  | quietCommandFailed
  /-- LOAD_TRANSFER_NACK (R175). -/
  | loadTransferNack
  deriving DecidableEq, Repr

end Sys2Proof
end

