-- ==== Sys2Proof/Decode.lean ====
section
/-! DEFINITION. The decoder over spec/opcode_table.json's bits. No row of this part's table gives bits (every row's "fields" is
empty and no row has "fixed"): its commands are requests, edges and timer events, not words. -/

namespace Sys2Proof

/-- The command that a word spells by the table's bits: none, since no row of spec/opcode_table.json gives bits. -/
def decodeTableWord (_nbits _w : Nat) : Option Instr := none

end Sys2Proof
end

