-- ==== Sys2Proof/Machine/Bytes.lean ====
section
/-! DEFINITION. Byte order, two's complement and the CRC of the link frames and store blocks (R171, R191, R198). -/

namespace Sys2Proof.Machine

/-- `v` as `width` bytes, most significant byte first, modulo 256^width (R198). -/
def beBytes : (width : Nat) → (v : Nat) → List Byte
  | 0, _ => []
  | width + 1, v => beBytes width (v / 256) ++ [BitVec.ofNat 8 v]

/-- A 32-bit quantity as four bytes, most significant byte first (R198). -/
def be32 (w : Word32) : List Byte := beBytes 4 w.toNat

/-- The number that bytes spell, most significant byte first (R198). -/
def beNat (bytes : List Byte) : Nat := bytes.foldl (fun acc b => acc * 256 + b.toNat) 0

/-- A signed quantity as two bytes, two's complement (R198). -/
def beSigned (v : Int) : List Byte := beBytes 2 (v % 65536).toNat

/-- The signed value of a 16-bit two's-complement number (R153, R198). -/
def signed16 (n : Nat) : Int := if n < 32768 then (n : Int) else (n : Int) - 65536

/-- The bytes of a field: `width` bytes from byte offset `at_`. -/
def fieldBytes (bytes : List Byte) (at_ width : Nat) : List Byte := (bytes.drop at_).take width

/-- An unsigned field of an image. -/
def fieldNat (bytes : List Byte) (at_ width : Nat) : Nat := beNat (fieldBytes bytes at_ width)

/-- A signed 2-byte field of an image. -/
def fieldSigned (bytes : List Byte) (at_ : Nat) : Int := signed16 (fieldNat bytes at_ 2)

/-- One bit of the CRC: shift left, and add the polynomial 0x1021 where a 1 is shifted out (R171). -/
def crcBit (crc : BitVec 16) : BitVec 16 := if crc.msb then (crc <<< 1) ^^^ 0x1021#16 else crc <<< 1

/-- One byte of the CRC, most significant bit first (R171). -/
def crcByte (crc : BitVec 16) (b : Byte) : BitVec 16 :=
  crcBit (crcBit (crcBit (crcBit (crcBit (crcBit (crcBit (crcBit (crc ^^^ (b.setWidth 16 <<< 8)))))))))

/-- The CRC-16 of the link and of the store: polynomial 0x1021, initial value 0xFFFF, no final inversion (R171, R191). -/
def crc16 (bytes : List Byte) : BitVec 16 := bytes.foldl crcByte 0xFFFF#16

/-- The two CRC bytes, high byte first. -/
def crcBytes (bytes : List Byte) : List Byte := beBytes 2 (crc16 bytes).toNat

/-- A flag as one byte, 0 or 1. -/
def flagByte (b : Bool) : Byte := if b then 1 else 0

/-- A bit set as a number: bit n of the result is the n-th flag (R198). -/
def flagBits : List Bool → Nat
  | [] => 0
  | b :: rest => (if b then 1 else 0) + 2 * flagBits rest

/-- `bytes` padded with `fill` to `length` bytes. -/
def padTo (length : Nat) (fill : Byte) (bytes : List Byte) : List Byte :=
  bytes ++ List.replicate (length - bytes.length) fill

end Sys2Proof.Machine
end

