-- ==== Sys2Proof/Machine/State.lean ====
section
/-! DEFINITION. The state of the part as plain data, block by block in the order of the functional blocks table of
spec/00_scope.md, the outcomes' reasons, and the state right after power-on reset. Levels that a rule makes
a function of other state (SPREADER HOLD, ATTENTION, PRE STEP, MAIN STEP, LINK DE, the ramp slots in use) are not stored: they
are defined in Machine/Flags.lean. -/

namespace Sys2Proof.Machine

/-! ## Reasons -/

/-- The faults of the machine: there are none. The part has no behaviour its manual leaves without an effect:
every refused request is an answer of the link (R194), and every failure is a notice (R178). -/
inductive Fault where
  deriving DecidableEq, Repr

/-- The refusals of the model. -/
inductive Refusal where
  /-- Raised by exec's arm of a command that has no meaning yet. Safe: the model stops. -/
  | notModelled (mnemonic : String)
  /-- Raised by the meaning of a command whose term is ill-formed (`Instr.wellFormed`): no event of the part. Safe. -/
  | illFormed (mnemonic : String)
  deriving DecidableEq, Repr

/-! ## Line state machine (R131) -/

/-- The eight line states, in code order (spec/07). -/
inductive LineState where
  | init | unconfigured | cold | starting | running | hold | runOut | shutdown
  deriving DecidableEq, Repr

/-- The start-up phases of INIT (R133). -/
inductive StartPhase where
  | loadLayout | loadProfiles | loadTable | probeScan
  deriving DecidableEq, Repr

/-- The source of the hold in force (R131). -/
inductive HoldOrigin where
  | noHold | host | broadcast | jam (chain : Chain)
  deriving DecidableEq, Repr

/-- The line-level state (R131). The hold mask is a set of zone indices 0..9. -/
structure Line where
  state      : LineState
  phase      : Option StartPhase
  holdMask   : BitVec 10
  holdOrigin : HoldOrigin
  entered    : Word32
  deriving DecidableEq, Repr

/-! ## Rod table and train (spec/01) -/

/-- The place of a live rod (R4). -/
inductive Location where
  | landing (index : Nat) | pre (position : Nat) | buffer (index : Nat) | main (position : Nat)
  deriving DecidableEq, Repr

/-- The set of marks of a rod (R3). -/
structure Marks where
  overflow      : Bool
  noCut         : Bool
  shortCurtain  : Bool
  estimated     : Bool
  unconditioned : Bool
  outOfBand     : Bool
  crossProfile  : Bool
  operator      : Bool
  deriving DecidableEq, Repr

/-- A rod record (table Rod record fields; R1). An absent charge is `none` (R2). -/
structure Rod where
  number       : Word32
  lotSlot      : Nat
  hangTime     : Word32
  cutTime      : Word32
  counts       : List Nat
  charge       : Option Nat
  moisture     : Nat
  stress       : Nat
  heat         : Nat
  lastAccounted : Word32
  marks        : Marks
  location     : Location
  deriving DecidableEq, Repr

/-! ## Capture unit (spec/02) -/

/-- The capture states (R24). -/
inductive CaptureState where
  | disarmed | idle | hanging
  deriving DecidableEq, Repr

/-- One CURTAIN channel: prescale divider, curtain counter, overflow flag, trim counter (R29, R30, R31). -/
structure Channel where
  divider  : Nat
  count    : Nat
  overflow : Bool
  trim     : Nat
  deriving DecidableEq, Repr

/-- The rod in the birth latch (R33). -/
structure Latch where
  number   : Word32
  hangTime : Word32
  cutTime  : Word32
  counts   : List Nat
  overflow : List Bool
  noCut    : Bool
  deriving DecidableEq, Repr

/-- The capture unit. `channels` has six entries; `rodCounter` is the next rod number (R8). -/
structure Capture where
  state      : CaptureState
  hangTime   : Word32
  channels   : List Channel
  latch      : Option Latch
  rodCounter : Word32
  deriving DecidableEq, Repr

/-! ## Chain sequencers (spec/03) -/

/-- The chain states (table Chain states). -/
inductive ChainState where
  | stopped | idle | blocked | stepping | jammed
  deriving DecidableEq, Repr

/-- A chain sequencer. A timer is the number of line clock ticks it has left, or none while it is stopped (R197). -/
structure Sequencer where
  state         : ChainState
  intervalTimer : Option Nat
  stepTimer     : Option Nat
  blockedTimer  : Option Nat
  lateApplied   : Bool
  shiftCount    : Word32
  lastShift     : Word32
  entered       : Word32
  deriving DecidableEq, Repr

/-! ## Zone controllers and ramp arbiter (spec/04) -/

/-- The zone states, in code order. -/
inductive ZoneState where
  | off | waiting | ramping | conditioned | economy | holding | purging | failed
  deriving DecidableEq, Repr

/-- A profile's entry for one zone (R66, R166): working targets, bands, k, G, hold targets, economy offset. -/
structure ZoneEntry where
  workTemp      : Int
  workHum       : Nat
  tempBand      : Nat
  humBand       : Nat
  coefficient   : Nat
  gradientLimit : Nat
  holdTemp      : Int
  holdHum       : Nat
  economyOffset : Nat
  deriving DecidableEq, Repr

/-- The governing profile number of a zone with the zone's copy of that profile's entry (R65). -/
structure Governing where
  profile : Nat
  entry   : ZoneEntry
  deriving DecidableEq, Repr

/-- A zone controller (R65). `heat` is HEAT n on, `vent` is VENT n open. -/
structure Zone where
  state        : ZoneState
  startPending : Bool
  governing    : Option Governing
  latch        : Bool
  tickTimer    : Option Nat
  economyTimer : Option Nat
  rampTimer    : Option Nat
  purgeTimer   : Option Nat
  heat         : Bool
  vent         : Bool
  entered      : Word32
  deriving DecidableEq, Repr

/-- The ramp arbiter (spec/04, The ramp arbiter). The queue's head is the list's head. -/
structure Arbiter where
  queue     : List Nat
  granted   : Bool
  lastGrant : Word32
  spacing   : Option Nat
  deriving DecidableEq, Repr

/-! ## Grading unit and lot table (spec/06) -/

/-- The dispositions, in lane code order (R115). -/
inductive Disposition where
  | accept | review | rework | reject
  deriving DecidableEq, Repr

/-- The states of a lot in the table (R118). -/
inductive LotState where
  | opened | closed
  deriving DecidableEq, Repr

/-- A lot record (table Lot record fields). Counts that advance modulo 2^32 are 32-bit words, saturating ones Nats. -/
structure Lot where
  id             : Word32
  profile        : Nat
  state          : LotState
  gapPending     : Nat
  born           : Word32
  scrapped       : Word32
  inTrain        : Nat
  accepted       : Word32
  reviewed       : Word32
  reworked       : Word32
  rejected       : Word32
  acceptedCharge : Nat
  trimTotal      : Nat
  firstRod       : Word32
  lastRod        : Word32
  reportsLost    : Nat
  deriving DecidableEq, Repr

/-! ## Probe bus master (spec/08) -/

/-- A valid reading as the probe record keeps it (R151). -/
structure Reading where
  temp    : Int
  hum     : Nat
  clamped : Bool
  time    : Word32
  deriving DecidableEq, Repr

/-- The reasons of a miss, in test order (R154). -/
inductive MissReason where
  | noAck | check | sensor | rangeT | rangeH
  deriving DecidableEq, Repr

/-- The last miss of a probe (R151). -/
structure Miss where
  reason : MissReason
  time   : Word32
  deriving DecidableEq, Repr

/-- A probe record (R151). `reading` is none until a valid reading has been taken since the last reset. -/
structure Probe where
  reading  : Option Reading
  misses   : Nat
  lastMiss : Option Miss
  deriving DecidableEq, Repr

/-- The results of a line check, in code order (R162). -/
inductive CheckCode where
  | noCheck | normal | openEnd | short | invalid
  deriving DecidableEq, Repr

/-- The result of the last completed line check (R162). -/
structure CheckResult where
  code     : CheckCode
  distance : Nat
  time     : Word32
  deriving DecidableEq, Repr

/-- The stages of a running line check (R161, R162): accepted and waiting for the poll in flight to end, the quiet
command and the quiet window, the test pulse sent. -/
inductive CheckStage where
  | accepted | quiet | pulse
  deriving DecidableEq, Repr

/-- The probe bus master. `records` has eleven entries: index n for zone n's probe at 0x20 + n, index 10 for the hall
probe at 0x2F. `fault` holds the time of a standing bus fault, `faultAge` the ticks since it was taken, from which the
recovery attempts are counted (R160), 0 while none stands. `inFlight` is the record index of the poll in
flight. `roundOnStop` says that a new round begins at that poll's stop (R158). -/
structure ProbeBus where
  records     : List Probe
  pollTimer   : Option Nat
  nextSlot    : Nat
  roundStart  : Word32
  inFlight    : Option Nat
  roundOnStop : Bool
  fault       : Option Word32
  faultAge    : Nat
  recovery    : Option Nat
  check       : Option CheckStage
  result      : CheckResult
  deriving DecidableEq, Repr

/-! ## Profile store controller (spec/09) -/

/-- The working copy of the layout (R170), units as the table gives them. -/
structure Layout where
  zoneCount    : Nat
  preZones     : Nat
  positions    : List Nat
  preInterval  : Nat
  mainInterval : Nat
  stepTimeout  : Nat
  blockLimit   : Nat
  rampSlots    : Nat
  rampSpacing  : Nat
  rampLimit    : Nat
  purgeTime    : Nat
  economyDelay : Nat
  wakeLead     : Nat
  tickPeriod   : Nat
  pollPeriod   : Nat
  defaultMask  : Nat
  prescales    : List Nat
  massFactors  : List Nat
  hallTemp     : Int
  hallHum      : Nat
  deriving DecidableEq, Repr

/-- A profile's working copy (R166); `zones` has ten entries. -/
structure Profile where
  name            : List Byte
  initialMoisture : Nat
  exitMin         : Nat
  exitMax         : Nat
  stressLimit     : Nat
  heatThreshold   : Int
  minHeat         : Nat
  minCurtain      : Nat
  zones           : List ZoneEntry
  deriving DecidableEq, Repr

/-- A profile slot with its working copy when VALID (R166). -/
inductive ProfileSlot where
  | empty | valid (profile : Profile) | corrupt
  deriving DecidableEq, Repr

/-- The store status of a block, in code order (R173, R174). -/
inductive StoreStatus where
  | current | newer | damaged
  deriving DecidableEq, Repr

/-- The request kind of a store job. -/
inductive JobKind where
  | profileWrite | profileErase | tableWrite | layoutWrite
  deriving DecidableEq, Repr

/-- A running store job (R172): block number, request kind, the block's 512-byte image, the page in progress. -/
structure Job where
  block : Nat
  kind  : JobKind
  image : List Byte
  page  : Nat
  deriving DecidableEq, Repr

/-- The profile store controller. `slots` has eight entries, `status` ten; `loadBlock` is the block that start-up
loading reads next (R175). -/
structure Store where
  job       : Option Job
  layout    : Option Layout
  slots     : List ProfileSlot
  status    : List StoreStatus
  loadBlock : Nat
  deriving DecidableEq, Repr

/-! ## Notice unit and report queue (spec/10) -/

/-- The record of a pending notice kind (R178): occurrence count, first detail, first time. A kind that is not
pending has no record: its count, detail and time read 0. -/
structure Notice where
  count  : Nat
  detail : Word32
  time   : Word32
  deriving DecidableEq, Repr

/-- The notice unit: twenty kind records and the enable set, bit k for kind k. -/
structure NoticeUnit where
  records : List (Option Notice)
  enabled : BitVec 20
  deriving DecidableEq, Repr

/-- The reason of a ROD_SCRAP report, in code order (R198). -/
inductive ScrapReason where
  | overrun | noLot
  deriving DecidableEq, Repr

/-- The body of a report (R117, R38, R39, R128). A lot id of 0 names no lot. -/
inductive ReportBody where
  | rodExit (number lot : Word32) (disposition : Disposition) (moisture stress heat : Nat) (marks : Marks)
      (charge : Option Nat) (hangTime exitTime : Word32)
  | rodScrap (number lot : Word32) (reason : ScrapReason) (cutTime : Word32)
  | lotSummary (slot : Nat) (lot : Lot) (drainTime : Word32)
  deriving DecidableEq, Repr

/-- A report in the queue, with its sequence number (R184). -/
structure Report where
  sequence : BitVec 16
  body     : ReportBody
  deriving DecidableEq, Repr

/-- The report queue, oldest report first, and the report sequence counter. -/
structure ReportQueue where
  reports      : List Report
  nextSequence : BitVec 16
  deriving DecidableEq, Repr

/-! ## Link port (spec/11) -/

/-- The status codes of a reply, in code order (R194). -/
inductive Status where
  | ok | badLength | unknown | badValue | notNow | notReady | busy | notFound | tableFull | duplicate | inUse | noLot
  | badProfile | badTable | inProgress
  deriving DecidableEq, Repr

/-- The contents of a reply: the request code as received, the status, the payload (R192). -/
structure Reply where
  code    : Byte
  status  : Status
  payload : List Byte
  deriving DecidableEq, Repr

/-- The receiver (R191): hunting, or collecting a frame with the bytes received after 0xA5 and the time of the last. -/
inductive Receiver where
  | hunting
  | collecting (bytes : List Byte) (lastByte : Word32)
  deriving DecidableEq, Repr

/-- The serving side of the port (R192): idle; a request taken whose reply has not begun, with the ticks waited; a
reply being sent, with LINK DE asserted. -/
inductive Port where
  | idle
  | preparing (reply : Reply) (waited : Nat)
  | sending (reply : Reply)
  deriving DecidableEq, Repr

/-- The kind of the last reset (R190). -/
inductive ResetKind where
  | powerOn | soft
  deriving DecidableEq, Repr

/-- The link port. `held` is the pending request; `resetAtEnd` says that the reply to RESET is outstanding, at whose end
the soft reset is taken (R149). -/
structure Link where
  address       : BitVec 4
  rate          : BitVec 2
  receiver      : Receiver
  port          : Port
  held          : Option Frame
  resetAtEnd    : Bool
  lastResetKind : ResetKind
  lastResetTime : Word32
  deriving DecidableEq, Repr

/-! ## Input pins -/

/-- The levels at the input pins the part samples: straps, STRIP READY, and the two probe bus lines as the part last found
them (true is high). -/
structure Pins where
  addr      : BitVec 4
  baud      : BitVec 2
  stripReady : Bool
  probeClk  : Bool
  probeData : Bool
  deriving DecidableEq, Repr

/-! ## The whole state -/

/-- The state of the part, with the queue of waiting commands and the model's own counter of free values read. -/
structure State where
  clock       : Word32
  line        : Line
  capture     : Capture
  rods        : List Rod
  landing     : List Word32
  preChain    : List (Option Word32)
  buffer      : List Word32
  mainChain   : List (Option Word32)
  preSeq      : Sequencer
  mainSeq     : Sequencer
  zones       : List Zone
  arbiter     : Arbiter
  table       : List Nat
  tableLoaded : Bool
  divert      : Disposition
  lots        : List (Option Lot)
  probeBus    : ProbeBus
  store       : Store
  notices     : NoticeUnit
  reports     : ReportQueue
  link        : Link
  pins        : Pins
  pending     : List Instr
  freeCount   : Nat
  deriving DecidableEq, Repr

/-! ## Reset values -/

/-- An empty set of marks. -/
def Marks.empty : Marks := ⟨false, false, false, false, false, false, false, false⟩

/-- The line at a reset taken at clock value `now` (R150). -/
def Line.atReset (now : Word32) : Line :=
  { state := .init, phase := some .loadLayout, holdMask := 0, holdOrigin := .noHold, entered := now }

/-- A curtain channel after reset (R44). -/
def Channel.cleared : Channel := { divider := 0, count := 0, overflow := false, trim := 0 }

/-- The capture unit after either reset (R44). -/
def Capture.atReset : Capture :=
  { state := .disarmed, hangTime := 0, channels := List.replicate 6 Channel.cleared, latch := none, rodCounter := 1 }

/-- A chain sequencer at a reset taken at clock value `now` (R64). -/
def Sequencer.atReset (now : Word32) : Sequencer :=
  { state := .stopped, intervalTimer := none, stepTimer := none, blockedTimer := none, lateApplied := false,
    shiftCount := 0, lastShift := 0, entered := now }

/-- A zone controller as a reset or a new layout sets it up, entered at `now` (R91, R137). -/
def Zone.fresh (now : Word32) : Zone :=
  { state := .off, startPending := false, governing := none, latch := false, tickTimer := none, economyTimer := none,
    rampTimer := none, purgeTimer := none, heat := false, vent := false, entered := now }

/-- The ramp arbiter after either reset (R91). -/
def Arbiter.atReset : Arbiter := { queue := [], granted := false, lastGrant := 0, spacing := none }

/-- A probe record after either reset (R165). -/
def Probe.atReset : Probe := { reading := none, misses := 0, lastMiss := none }

/-- The probe bus master after either reset (R165). The table says only that the poll schedule is stopped: that its next slot
reads 0 then, as the start of the round does, is the model's choice (DESIGN CHOICE, assumption log 18). -/
def ProbeBus.atReset : ProbeBus :=
  { records := List.replicate 11 Probe.atReset, pollTimer := none, nextSlot := 0, roundStart := 0, inFlight := none,
    roundOnStop := false, fault := none, faultAge := 0, recovery := none, check := none,
    result := { code := .noCheck, distance := 0, time := 0 } }

/-- The profile store controller after either reset (R177). -/
def Store.atReset : Store :=
  { job := none, layout := none, slots := List.replicate 8 .empty, status := List.replicate 10 .current, loadBlock := 0 }

/-- The node address an ADDR strap value gives: 0 is taken as 1 (R190). -/
def strapAddress (addr : BitVec 4) : BitVec 4 := if addr = 0 then 1 else addr

/-- The link port after a reset of kind `kind` taken at `now` with the straps at `addr` and `baud` (R190, R199). -/
def Link.atReset (kind : ResetKind) (now : Word32) (addr : BitVec 4) (baud : BitVec 2) : Link :=
  { address := strapAddress addr, rate := baud, receiver := .hunting, port := .idle, held := none, resetAtEnd := false,
    lastResetKind := kind, lastResetTime := now }

/-- The input pins before anything has driven them: straps 0, STRIP READY low, probe bus lines pulled high (DESIGN CHOICE,
assumption log 1). -/
def Pins.initial : Pins := { addr := 0, baud := 0, stripReady := false, probeClk := true, probeData := true }

/-- The state right after power-on reset (R150 and the reset table of each chapter), nothing commanded. -/
def State.reset : State :=
  { clock := 0
    line := Line.atReset 0
    capture := Capture.atReset
    rods := []
    landing := []
    preChain := []
    buffer := []
    mainChain := []
    preSeq := Sequencer.atReset 0
    mainSeq := Sequencer.atReset 0
    zones := []
    arbiter := Arbiter.atReset
    table := List.replicate 168 0
    tableLoaded := false
    divert := .accept
    lots := List.replicate 16 none
    probeBus := ProbeBus.atReset
    store := Store.atReset
    notices := { records := List.replicate 20 none, enabled := BitVec.allOnes 20 }
    reports := { reports := [], nextSequence := 0 }
    link := Link.atReset .powerOn 0 0 0
    pins := Pins.initial
    pending := []
    freeCount := 0 }

end Sys2Proof.Machine
end

