-- ==== Sys2Proof/Machine/Ops.lean ====
section
/-! DEFINITION. The named operations over State: one update per block, the notice unit's raising (R179), the report queue's
offering (R184 to R186), the lot table's lookups, and the small arithmetic of timers and saturating counters. -/

namespace Sys2Proof.Machine

/-! ## Arithmetic -/

/-- `v` clamped to `lo..hi` (spec/00_scope.md, Arithmetic). -/
def clampInt (lo hi v : Int) : Int := if v < lo then lo else if hi < v then hi else v

/-- A counter that holds at its maximum (spec/00_scope.md, Arithmetic). -/
def satAdd (max a b : Nat) : Nat := min (a + b) max

/-- The largest value of a 32-bit saturating total. -/
def max32 : Nat := 4294967295

/-- The largest value of a curtain counter (R30). -/
def maxCurtain : Nat := 1048575

/-- Seconds as ticks of 10 ms. -/
def secondTicks (s : Nat) : Nat := s * 100

/-- Minutes as ticks of 10 ms. -/
def minuteTicks (m : Nat) : Nat := m * 6000

/-- A running timer's remaining time in whole seconds, 0 where it is not running (R90). -/
def timerSeconds (t : Option Nat) : Nat := t.getD 0 / 100

/-- One tick of a timer (R197: timers count ticks of the line clock). -/
def timerTick (t : Option Nat) : Option Nat := t.map (· - 1)

/-- The timer has run its time and its expiry has not been taken. -/
def timerDue (t : Option Nat) : Bool := t == some 0

/-! ## Codes -/

/-- Line state codes (table Line states, spec/07). -/
def LineState.code : LineState → Nat
  | .init => 0 | .unconfigured => 1 | .cold => 2 | .starting => 3 | .running => 4 | .hold => 5 | .runOut => 6
  | .shutdown => 7

/-- Start-up phase codes (R198, STATUS). -/
def StartPhase.code : StartPhase → Nat
  | .loadLayout => 1 | .loadProfiles => 2 | .loadTable => 3 | .probeScan => 4

/-- Chain codes: 0 pre, 1 main. -/
def chainCode : Chain → Nat
  | .pre => 0 | .main => 1

/-- Hold origin codes (R198, STATUS). -/
def HoldOrigin.code : HoldOrigin → Nat
  | .noHold => 0 | .host => 1 | .broadcast => 2 | .jam c => 3 + chainCode c

/-- Chain state codes (R198, STATUS). -/
def ChainState.code : ChainState → Nat
  | .stopped => 0 | .idle => 1 | .blocked => 2 | .stepping => 3 | .jammed => 4

/-- Zone state codes (R198, table Code values). -/
def ZoneState.code : ZoneState → Nat
  | .off => 0 | .waiting => 1 | .ramping => 2 | .conditioned => 3 | .economy => 4 | .holding => 5 | .purging => 6
  | .failed => 7

/-- Capture state codes (R198, CAPTURE READ). -/
def CaptureState.code : CaptureState → Nat
  | .disarmed => 0 | .idle => 1 | .hanging => 2

/-- Lane codes (R115): DIV1 is bit 1, DIV0 bit 0. -/
def Disposition.laneCode : Disposition → Nat
  | .accept => 0 | .review => 1 | .rework => 2 | .reject => 3

/-- Lot state codes (R198). -/
def LotState.code : LotState → Nat
  | .opened => 0 | .closed => 1

/-- Slot state codes (R198). -/
def ProfileSlot.code : ProfileSlot → Nat
  | .empty => 0 | .valid _ => 1 | .corrupt => 2

/-- Store status codes (R198). -/
def StoreStatus.code : StoreStatus → Nat
  | .current => 0 | .newer => 1 | .damaged => 2

/-- Miss reason codes, 0 for none (R198). -/
def MissReason.code : MissReason → Nat
  | .noAck => 1 | .check => 2 | .sensor => 3 | .rangeT => 4 | .rangeH => 5

/-- Line check result codes (R162). -/
def CheckCode.code : CheckCode → Nat
  | .noCheck => 0 | .normal => 1 | .openEnd => 2 | .short => 3 | .invalid => 4

/-- Scrap reason codes (R198). -/
def ScrapReason.code : ScrapReason → Nat
  | .overrun => 0 | .noLot => 1

/-- Reset kind codes (R198, STATUS). -/
def ResetKind.code : ResetKind → Nat
  | .powerOn => 0 | .soft => 1

/-- Status codes (R194). -/
def Status.code : Status → Byte
  | .ok => 0x00 | .badLength => 0x01 | .unknown => 0x02 | .badValue => 0x03 | .notNow => 0x04 | .notReady => 0x05
  | .busy => 0x06 | .notFound => 0x07 | .tableFull => 0x08 | .duplicate => 0x09 | .inUse => 0x0A | .noLot => 0x0B
  | .badProfile => 0x0C | .badTable => 0x0D | .inProgress => 0x0E

/-- The marks as a byte (R198, ROD READ). -/
def Marks.bits (m : Marks) : Nat :=
  flagBits [m.overflow, m.noCut, m.shortCurtain, m.estimated, m.unconditioned, m.outOfBand, m.crossProfile, m.operator]

/-! ## One update per block -/

/-- Replace the line-level state. -/
def State.setLine (s : State) (v : Line) : State := { s with line := v }
/-- Replace the capture unit's state. -/
def State.setCapture (s : State) (v : Capture) : State := { s with capture := v }
/-- Replace the rod table. -/
def State.setRods (s : State) (v : List Rod) : State := { s with rods := v }
/-- Replace the zone controllers. -/
def State.setZones (s : State) (v : List Zone) : State := { s with zones := v }
/-- Replace the ramp arbiter's state. -/
def State.setArbiter (s : State) (v : Arbiter) : State := { s with arbiter := v }
/-- Replace the lot table. -/
def State.setLots (s : State) (v : List (Option Lot)) : State := { s with lots := v }
/-- Replace the probe bus master's state. -/
def State.setProbeBus (s : State) (v : ProbeBus) : State := { s with probeBus := v }
/-- Replace the profile store controller's state. -/
def State.setStore (s : State) (v : Store) : State := { s with store := v }
/-- Replace the notice unit's state. -/
def State.setNotices (s : State) (v : NoticeUnit) : State := { s with notices := v }
/-- Replace the report queue. -/
def State.setReports (s : State) (v : ReportQueue) : State := { s with reports := v }
/-- Replace the link port's state. -/
def State.setLink (s : State) (v : Link) : State := { s with link := v }
/-- Replace the pin levels. -/
def State.setPins (s : State) (v : Pins) : State := { s with pins := v }

/-- The sequencer of a chain. -/
def State.seq (s : State) : Chain → Sequencer
  | .pre => s.preSeq
  | .main => s.mainSeq

/-- Replace the sequencer of a chain. -/
def State.setSeq (s : State) (c : Chain) (q : Sequencer) : State :=
  match c with
  | .pre => { s with preSeq := q }
  | .main => { s with mainSeq := q }

/-- The positions of a chain, position 0 first. -/
def State.positions (s : State) : Chain → List (Option Word32)
  | .pre => s.preChain
  | .main => s.mainChain

/-- Change one zone controller. -/
def State.modZone (s : State) (z : Nat) (f : Zone → Zone) : State := s.setZones (s.zones.modify z f)

/-- Run an operation for every zone index in order. -/
def State.eachZone (s : State) (f : State → Nat → State) : State := (List.range s.zones.length).foldl f s

/-! ## Notices (R178, R179) -/

/-- The notice kinds (table Notice kinds). -/
inductive NoticeKind where
  | chainJam | zoneFailed | storeFault | probeBusFault | rodScrapped | bandLost | zoneBlind | chainBlocked | lateStep
  | landingFull | counterOverflow | strayEdge | reportLost | reportHigh | lotDrained | lineState | initDone | storeDone
  | lineCheckDone | zoneConditioned
  deriving DecidableEq, Repr

/-- Kind numbers (table Notice kinds). -/
def NoticeKind.number : NoticeKind → Nat
  | .chainJam => 0 | .zoneFailed => 1 | .storeFault => 2 | .probeBusFault => 3 | .rodScrapped => 4 | .bandLost => 5
  | .zoneBlind => 6 | .chainBlocked => 7 | .lateStep => 8 | .landingFull => 9 | .counterOverflow => 10 | .strayEdge => 11
  | .reportLost => 12 | .reportHigh => 13 | .lotDrained => 14 | .lineState => 15 | .initDone => 16 | .storeDone => 17
  | .lineCheckDone => 18 | .zoneConditioned => 19

/-- The group of a kind number (table Notice kinds), 3 the highest. -/
def noticeGroup (k : Nat) : Nat := if k < 4 then 3 else if k < 12 then 2 else if k < 16 then 1 else 0

/-- A kind record after one more occurrence (R179). -/
def Notice.occur (now detail : Word32) : Option Notice → Notice
  | none => { count := 1, detail := detail, time := now }
  | some n => { n with count := satAdd 255 n.count 1 }

/-- Raise a notice kind with a detail: one occurrence at the event's line clock value (R179). -/
def State.raise (s : State) (k : NoticeKind) (detail : Word32) : State :=
  s.setNotices { s.notices with
    records := s.notices.records.modify k.number fun r => some (Notice.occur s.clock detail r) }

/-- Raise a kind whose detail is a small number. -/
def State.raiseNat (s : State) (k : NoticeKind) (detail : Nat) : State := s.raise k (BitVec.ofNat 32 detail)

/-- A kind is pending (R178). -/
def State.noticePending (s : State) (k : Nat) : Bool := (s.notices.records.getD k none).isSome

/-! ## Lots -/

/-- The slot of the OPEN lot (R119: at most one lot is OPEN). -/
def State.openSlot (s : State) : Option Nat :=
  s.lots.findIdx? fun l => match l with
    | some lot => lot.state == .opened
    | none => false

/-- The lot in a slot. -/
def State.lot (s : State) (slot : Nat) : Option Lot := s.lots.getD slot none

/-- The OPEN lot. -/
def State.openLot (s : State) : Option Lot := s.openSlot.bind s.lot

/-- The id of the lot in a slot, as reports and reads carry it; 0 without a lot (R118). -/
def State.lotIdOf (s : State) (slot : Nat) : Word32 :=
  match s.lot slot with
  | some l => l.id
  | none => 0

/-- The id of the OPEN lot, 0 where none is OPEN (R118). -/
def State.openLotId (s : State) : Word32 :=
  match s.openLot with
  | some l => l.id
  | none => 0

/-- Change the lot in a slot. -/
def State.modLot (s : State) (slot : Nat) (f : Lot → Lot) : State := s.setLots (s.lots.modify slot (Option.map f))

/-- The slot of the live lot with an id (R119: no two lots share an id). -/
def State.lotSlotOf (s : State) (id : Word32) : Option Nat :=
  s.lots.findIdx? fun l => match l with
    | some lot => lot.id == id
    | none => false

/-- A profile slot is named by a live lot, OPEN or CLOSED (R167). -/
def State.profileNamed (s : State) (p : Nat) : Bool :=
  s.lots.any fun l => match l with
    | some lot => lot.profile == p
    | none => false

/-- The profile in a VALID profile slot. -/
def State.profile (s : State) (p : Nat) : Option Profile :=
  match s.store.slots.getD p .empty with
  | .valid prof => some prof
  | .empty => none
  | .corrupt => none

/-- The lot profile of a rod: the number its lot names, and the working copy (R20). -/
def State.rodProfileNumber (s : State) (r : Rod) : Option Nat := (s.lot r.lotSlot).map (·.profile)

/-! ## Reports (R184 to R186) -/

/-- The capacity of the report queue (R184). -/
def reportCapacity : Nat := 256

/-- The high mark of the report queue (R185). -/
def reportHighMark : Nat := 192

/-- Join a report at the tail; a rise to the high mark raises REPORT_HIGH (R184, R185). -/
def State.joinReport (s : State) (body : ReportBody) : State :=
  let s1 := s.setReports { reports := s.reports.reports ++ [{ sequence := s.reports.nextSequence, body := body }]
                           nextSequence := s.reports.nextSequence + 1 }
  if s1.reports.reports.length = reportHighMark then s1.raiseNat .reportHigh reportHighMark else s1

/-- Discard a report that meets a full queue: its sequence number is used, the lot it names counts it, and REPORT_LOST is
raised with the lot id (R186). `slot` is the slot of the live lot it names. -/
def State.loseReport (s : State) (slot : Option Nat) (lotId : Word32) : State :=
  let s1 := s.setReports { s.reports with nextSequence := s.reports.nextSequence + 1 }
  let s2 := match slot with
    | some i => s1.modLot i fun l => { l with reportsLost := satAdd 65535 l.reportsLost 1 }
    | none => s1
  s2.raise .reportLost lotId

/-- Offer a report to the queue: it takes the next sequence number and is kept or discarded (R184, R186). -/
def State.offerReport (s : State) (body : ReportBody) (slot : Option Nat) (lotId : Word32) : State :=
  if s.reports.reports.length < reportCapacity then s.joinReport body else s.loseReport slot lotId

/-! ## Rods -/

/-- The live rod with a number (R7). -/
def State.rod (s : State) (number : Word32) : Option Rod := s.rods.find? fun r => r.number == number

/-! ## Answers of a request (R192, R194) -/

/-- The outcome of an owning block for a request: status and payload. -/
structure Answer where
  status  : Status
  payload : List Byte
  deriving DecidableEq, Repr

/-- A refusal without payload. -/
def Answer.refuse (st : Status) : Answer := { status := st, payload := [] }

/-- BAD_VALUE with its field index (R194). -/
def Answer.badValue (index : Nat) : Answer := { status := .badValue, payload := beBytes 1 index }

/-- OK with a payload. -/
def Answer.ok (payload : List Byte) : Answer := { status := .ok, payload := payload }

/-- Put a request's answer into the reply buffer: the reply is prepared and the receiver is hunting (R191, R192). -/
def State.answer (s : State) (code : Byte) (a : Answer) : State :=
  s.setLink { s.link with
    port := .preparing { code := code, status := a.status, payload := a.payload } 0
    receiver := .hunting }

/-- Serve a request that is taken in INIT too: the owning block's operation, then its answer (R135, R192). -/
def State.serveAlways (s : State) (code : Byte) (op : State → State × Answer) : State :=
  (op s).1.answer code (op s).2

/-- Serve a request that INIT refuses NOT_READY before the owning block's own checks (R135, R192). -/
def State.serve (s : State) (code : Byte) (op : State → State × Answer) : State :=
  if s.line.state = .init then s.answer code (.refuse .notReady) else s.serveAlways code op

end Sys2Proof.Machine
end

