-- ==== Sys2Proof/Machine/Operands.lean ====
section
/-! DEFINITION. The structured operands: profile, layout and table images with their byte layouts (R198), their field
checks with the field indices (R166, R169, R170), and the 512-byte store blocks (R171). -/

namespace Sys2Proof.Machine

/-- A temperature lies in −400..1500 (spec/00_scope.md, Units and ranges). -/
def tempInRange (t : Int) : Bool := decide (-400 ≤ t ∧ t ≤ 1500)

/-- A number lies in lo..hi. -/
def inRange (lo hi v : Nat) : Bool := decide (lo ≤ v ∧ v ≤ hi)

/-- The index of the first failing check of a list of indexed checks. -/
def firstFailing : List (Nat × Bool) → Option Nat
  | [] => none
  | (i, ok) :: rest => if ok then firstFailing rest else some i

/-! ## Profiles -/

/-- The bytes of a zone entry in a profile image. -/
def zoneEntryWidth : Nat := 18

/-- Read the zone entry at a byte offset (R198, block 1..8). -/
def readZoneEntry (bytes : List Byte) (at_ : Nat) : ZoneEntry :=
  { workTemp := fieldSigned bytes at_
    workHum := fieldNat bytes (at_ + 2) 2
    tempBand := fieldNat bytes (at_ + 4) 2
    humBand := fieldNat bytes (at_ + 6) 2
    coefficient := fieldNat bytes (at_ + 8) 2
    gradientLimit := fieldNat bytes (at_ + 10) 2
    holdTemp := fieldSigned bytes (at_ + 12)
    holdHum := fieldNat bytes (at_ + 14) 2
    economyOffset := fieldNat bytes (at_ + 16) 2 }

/-- Read a profile image of 215 bytes (R198). -/
def readProfile (bytes : List Byte) : Profile :=
  { name := fieldBytes bytes 0 12
    initialMoisture := fieldNat bytes 12 4
    exitMin := fieldNat bytes 16 4
    exitMax := fieldNat bytes 20 4
    stressLimit := fieldNat bytes 24 1
    heatThreshold := fieldSigned bytes 25
    minHeat := fieldNat bytes 27 4
    minCurtain := fieldNat bytes 31 4
    zones := (List.range 10).map fun n => readZoneEntry bytes (35 + zoneEntryWidth * n) }

/-- The image of a zone entry. -/
def zoneEntryImage (e : ZoneEntry) : List Byte :=
  beSigned e.workTemp ++ beBytes 2 e.workHum ++ beBytes 2 e.tempBand ++ beBytes 2 e.humBand ++ beBytes 2 e.coefficient
    ++ beBytes 2 e.gradientLimit ++ beSigned e.holdTemp ++ beBytes 2 e.holdHum ++ beBytes 2 e.economyOffset

/-- The image of a profile, 215 bytes (R198). -/
def profileImage (p : Profile) : List Byte :=
  p.name ++ beBytes 4 p.initialMoisture ++ beBytes 4 p.exitMin ++ beBytes 4 p.exitMax ++ beBytes 1 p.stressLimit
    ++ beSigned p.heatThreshold ++ beBytes 4 p.minHeat ++ beBytes 4 p.minCurtain ++ p.zones.flatMap zoneEntryImage

/-- The checks of zone n's entry, with the field indices 8 + 9n + 0 .. 8 (R166). -/
def zoneEntryChecks (n : Nat) (e : ZoneEntry) : List (Nat × Bool) :=
  [ (8 + 9 * n + 0, tempInRange e.workTemp),
    (8 + 9 * n + 1, inRange 0 1000 e.workHum),
    (8 + 9 * n + 2, inRange 1 200 e.tempBand),
    (8 + 9 * n + 3, inRange 1 300 e.humBand),
    (8 + 9 * n + 4, inRange 0 8191 e.coefficient),
    (8 + 9 * n + 5, inRange 0 65535 e.gradientLimit),
    (8 + 9 * n + 6, tempInRange e.holdTemp),
    (8 + 9 * n + 7, inRange 0 1000 e.holdHum),
    (8 + 9 * n + 8, inRange 0 300 e.economyOffset) ]

/-- The field checks of a profile in index order (R166). -/
def profileChecks (p : Profile) : List (Nat × Bool) :=
  [ (0, p.name.all fun b => inRange 0x20 0x7E b.toNat),
    (1, inRange 10000 80000 p.initialMoisture),
    (2, inRange 0 100000 p.exitMin),
    (3, inRange p.exitMin 100000 p.exitMax),
    (4, inRange 0 255 p.stressLimit),
    (5, tempInRange p.heatThreshold),
    (6, inRange 0 16777215 p.minHeat),
    (7, inRange 0 1048575 p.minCurtain) ]
  ++ p.zones.zipIdx.flatMap fun (e, n) => zoneEntryChecks n e

/-- The field index of the first field of a profile that is out of range (R167). -/
def profileFault (p : Profile) : Option Nat := firstFailing (profileChecks p)

/-! ## Layouts -/

/-- Read a layout image of 63 bytes (R198). -/
def readLayout (bytes : List Byte) : Layout :=
  { zoneCount := fieldNat bytes 0 1
    preZones := fieldNat bytes 1 1
    positions := (List.range 10).map fun n => fieldNat bytes (2 + 2 * n) 2
    preInterval := fieldNat bytes 22 2
    mainInterval := fieldNat bytes 24 2
    stepTimeout := fieldNat bytes 26 1
    blockLimit := fieldNat bytes 27 2
    rampSlots := fieldNat bytes 29 1
    rampSpacing := fieldNat bytes 30 2
    rampLimit := fieldNat bytes 32 1
    purgeTime := fieldNat bytes 33 1
    economyDelay := fieldNat bytes 34 1
    wakeLead := fieldNat bytes 35 1
    tickPeriod := fieldNat bytes 36 2
    pollPeriod := fieldNat bytes 38 1
    defaultMask := fieldNat bytes 39 2
    prescales := (List.range 6).map fun c => fieldNat bytes (41 + c) 1
    massFactors := (List.range 6).map fun c => fieldNat bytes (47 + 2 * c) 2
    hallTemp := fieldSigned bytes 59
    hallHum := fieldNat bytes 61 2 }

/-- The image of a layout, 63 bytes (R198). -/
def layoutImage (l : Layout) : List Byte :=
  beBytes 1 l.zoneCount ++ beBytes 1 l.preZones ++ l.positions.flatMap (beBytes 2) ++ beBytes 2 l.preInterval
    ++ beBytes 2 l.mainInterval ++ beBytes 1 l.stepTimeout ++ beBytes 2 l.blockLimit ++ beBytes 1 l.rampSlots
    ++ beBytes 2 l.rampSpacing ++ beBytes 1 l.rampLimit ++ beBytes 1 l.purgeTime ++ beBytes 1 l.economyDelay
    ++ beBytes 1 l.wakeLead ++ beBytes 2 l.tickPeriod ++ beBytes 1 l.pollPeriod ++ beBytes 2 l.defaultMask
    ++ l.prescales.flatMap (beBytes 1) ++ l.massFactors.flatMap (beBytes 2) ++ beSigned l.hallTemp ++ beBytes 2 l.hallHum

/-- P, the number of pre-chain positions (R10). -/
def Layout.preCount (l : Layout) : Nat := (l.positions.take l.preZones).sum

/-- Q, the number of main-chain positions (R12). -/
def Layout.mainCount (l : Layout) : Nat := ((l.positions.take l.zoneCount).drop l.preZones).sum

/-- The field checks of a layout in index order, with the chain totals after index 11 (R170). A default hold mask is a set
of zones 0..9: a bit above 9 names no zone (DEDUCED, assumption log 7). -/
def layoutChecks (l : Layout) : List (Nat × Bool) :=
  [ (0, inRange 2 10 l.zoneCount),
    (1, inRange 1 2 l.preZones && decide (l.preZones < l.zoneCount)) ]
  ++ (l.positions.zipIdx.map fun (n, z) => (2 + z, decide (l.zoneCount ≤ z) || decide (10 ≤ n)))
  ++ [ (2 + (l.preZones - 1), inRange 20 400 l.preCount),
       (2 + (l.zoneCount - 1), inRange 100 3600 l.mainCount),
       (2 + (l.zoneCount - 1), decide (l.preCount + l.mainCount ≤ 4000)),
       (12, inRange 10 6000 l.preInterval),
       (13, inRange 10 6000 l.mainInterval),
       (14, inRange 1 60 l.stepTimeout),
       (15, inRange 10 600 l.blockLimit),
       (16, inRange 1 4 l.rampSlots),
       (17, inRange 0 600 l.rampSpacing),
       (18, inRange 5 120 l.rampLimit),
       (19, inRange 0 30 l.purgeTime),
       (20, inRange 1 120 l.economyDelay),
       (21, inRange 1 200 l.wakeLead),
       (22, inRange 10 600 l.tickPeriod),
       (23, inRange 2 60 l.pollPeriod),
       (24, inRange 0 1023 l.defaultMask) ]
  ++ (l.prescales.zipIdx.map fun (p, c) => (25 + c, p == 1 || p == 4 || p == 16 || p == 64))
  ++ (l.massFactors.zipIdx.map fun (f, c) => (31 + c, inRange 0 65535 f))
  ++ [ (37, tempInRange l.hallTemp), (38, inRange 0 1000 l.hallHum) ]

/-- The field index that a LAYOUT WRITE of this layout is refused with (R170). -/
def layoutFault (l : Layout) : Option Nat := firstFailing (layoutChecks l)

/-! ## The sorption table -/

/-- The number of table columns (R169). -/
def tableColumns : Nat := 21

/-- The number of table entries (R97). -/
def tableEntries : Nat := 168

/-- Read a table image of 336 bytes: row 0 first, column 0 first within each row (R198). -/
def readTable (bytes : List Byte) : List Nat := (List.range tableEntries).map fun i => fieldNat bytes (2 * i) 2

/-- The image of a table. -/
def tableImage (t : List Nat) : List Byte := t.flatMap (beBytes 2)

/-- An entry lies in 0..10,000 (R169). -/
def tableEntryOk (n : Nat) : Bool := inRange 0 10000 n

/-- The field index that a row's entries are refused with: 1 + the column of the first entry above 10,000 (R169). -/
def tableRowFault (entries : List Nat) : Option Nat :=
  firstFailing (entries.zipIdx.map fun (e, c) => (1 + c, tableEntryOk e))

/-- The table with one row replaced (R169). -/
def tableWithRow (t : List Nat) (row : Nat) (entries : List Nat) : List Nat :=
  t.take (tableColumns * row) ++ entries ++ t.drop (tableColumns * (row + 1))

/-- The entries of one row. -/
def tableRow (t : List Nat) (row : Nat) : List Nat := (t.drop (tableColumns * row)).take tableColumns

/-! ## Store blocks (R171) -/

/-- The image of a block: content padded with 0x00 to byte 509, then the CRC over bytes 0..509, high byte first. -/
def blockImage (content : List Byte) : List Byte :=
  padTo 510 0x00 content ++ crcBytes (padTo 510 0x00 content)

/-- The blank block: 512 bytes of 0xFF. -/
def blankImage : List Byte := List.replicate 512 0xFF

/-- What start-up loading finds in a block (R175). -/
inductive Judged (α : Type) where
  | blank
  | invalid
  | valid (content : α)
  deriving DecidableEq, Repr

/-- Judge a block that was read: blank, wrong CRC, failing field checks, or valid, in that order (R175). -/
def judgeBlock {α : Type} (content : List Byte → Option α) (bytes : List Byte) : Judged α :=
  if bytes = blankImage then .blank
  else if crcBytes (bytes.take 510) ≠ (bytes.drop 510).take 2 then .invalid
  else match content bytes with
    | none => .invalid
    | some a => .valid a

/-- The layout of a layout block's content, where it passes its checks. -/
def layoutContent (bytes : List Byte) : Option Layout :=
  if (layoutFault (readLayout bytes)).isNone then some (readLayout bytes) else none

/-- The profile of a profile block's content, where it passes its checks. -/
def profileContent (bytes : List Byte) : Option Profile :=
  if (profileFault (readProfile bytes)).isNone then some (readProfile bytes) else none

/-- The table of a table block's content, where it passes its checks. -/
def tableContent (bytes : List Byte) : Option (List Nat) :=
  if (readTable bytes).all tableEntryOk then some (readTable bytes) else none

end Sys2Proof.Machine
end

