-- ==== Sys2Proof/Machine/Flags.lean ====
section
/-! DEFINITION. The outputs and conditions that the rules make a function of other state: the tiling of zones (R13), holding,
blindness (R70, R95), bands (R67), the take condition (R48), SPREADER HOLD (R41), ATTENTION (R181), the empty-upstream conditions (R50, R86),
the wake condition (R82), the completion of a run-out (R147). -/

namespace Sys2Proof.Machine

/-! ## Line (R24, R46, R73) -/

/-- The capture unit is armed in RUNNING, HOLD and RUN_OUT (R24). -/
def LineState.arms : LineState → Bool
  | .running => true | .hold => true | .runOut => true
  | .init => false | .unconfigured => false | .cold => false | .starting => false | .shutdown => false

/-- The line allows steps in RUNNING and RUN_OUT (R46). -/
def LineState.steps : LineState → Bool
  | .running => true | .runOut => true
  | .init => false | .unconfigured => false | .cold => false | .starting => false | .hold => false | .shutdown => false

/-- The tick timers run in STARTING, RUNNING, HOLD, RUN_OUT and SHUTDOWN (R73). -/
def LineState.ticks : LineState → Bool
  | .starting => true | .running => true | .hold => true | .runOut => true | .shutdown => true
  | .init => false | .unconfigured => false | .cold => false

/-! ## Zones on the chains (R13) -/

/-- The chain of a zone: the pre-chain zones come first (R13). -/
def Layout.zoneChain (l : Layout) (z : Nat) : Chain := if z < l.preZones then .pre else .main

/-- The first position of a zone on its chain (R13). -/
def Layout.zoneFirst (l : Layout) (z : Nat) : Nat :=
  if z < l.preZones then (l.positions.take z).sum else ((l.positions.take z).drop l.preZones).sum

/-- The number of positions of a zone. -/
def Layout.zoneSize (l : Layout) (z : Nat) : Nat := l.positions.getD z 0

/-- A location belongs to a zone: its positions, and the transfer buffer for the last pre-chain zone (R13). -/
def Layout.zoneHas (l : Layout) (z : Nat) : Location → Bool
  | .landing _ => false
  | .pre p => decide (z < l.preZones ∧ l.zoneFirst z ≤ p ∧ p < l.zoneFirst z + l.zoneSize z)
  | .buffer _ => decide (z + 1 = l.preZones)
  | .main q => decide (l.preZones ≤ z ∧ l.zoneFirst z ≤ q ∧ q < l.zoneFirst z + l.zoneSize z)

/-- The positions of a zone, in order. -/
def State.zonePositions (s : State) (l : Layout) (z : Nat) : List (Option Word32) :=
  ((s.positions (l.zoneChain z)).drop (l.zoneFirst z)).take (l.zoneSize z)

/-- The number of rods in a row of positions. -/
def rodCount (ps : List (Option Word32)) : Nat := ps.countP Option.isSome

/-- Every position of a row is a gap. -/
def allGaps (ps : List (Option Word32)) : Bool := ps.all Option.isNone

/-- The number of rods a zone holds, counting the transfer buffer for the last pre-chain zone (R13). -/
def State.zoneRods (s : State) (z : Nat) : Nat :=
  match s.store.layout with
  | none => 0
  | some l => rodCount (s.zonePositions l z) + (if z + 1 = l.preZones then s.buffer.length else 0)

/-- A zone holds rods (R13). -/
def State.zoneHolds (s : State) (z : Nat) : Bool := decide (0 < s.zoneRods z)

/-! ## Probes (R70, R95) -/

/-- The index of the hall probe's record. -/
def hallIndex : Nat := 10

/-- The record of a probe. -/
def State.probe (s : State) (i : Nat) : Probe := s.probeBus.records.getD i Probe.atReset

/-- A probe is trusted: fewer than 3 consecutive misses, no bus fault, a valid reading since reset (R70, R95). -/
def State.probeFresh (s : State) (i : Nat) : Bool :=
  decide ((s.probe i).misses < 3) && s.probeBus.fault.isNone && (s.probe i).reading.isSome

/-- A zone is blind (R70). -/
def State.blind (s : State) (z : Nat) : Bool := !s.probeFresh z

/-- The indices of the configured probes in poll order: the zone probes, then the hall probe (R151, R152). -/
def State.configured (s : State) : List Nat :=
  match s.store.layout with
  | none => [hallIndex]
  | some l => List.range l.zoneCount ++ [hallIndex]

/-! ## Targets and bands (R66, R67) -/

/-- The targets in force of a zone: a temperature, and a humidity where one is held (R66). -/
def Zone.targets (zn : Zone) : Option (Int × Option Nat) :=
  match zn.governing with
  | none => none
  | some g =>
    match zn.state with
    | .waiting => some (g.entry.workTemp, some g.entry.workHum)
    | .ramping => some (g.entry.workTemp, some g.entry.workHum)
    | .conditioned => some (g.entry.workTemp, some g.entry.workHum)
    | .holding => some (g.entry.holdTemp, some g.entry.holdHum)
    | .economy => some (g.entry.workTemp - g.entry.economyOffset, none)
    | .off => none
    | .purging => none
    | .failed => none

/-- A reading is in band against a pair of targets (R67). -/
def inBandOf (tBand hBand : Nat) (target : Int × Nat) (r : Reading) : Bool :=
  decide ((r.temp - target.1).natAbs ≤ tBand) && decide (((r.hum : Int) - target.2).natAbs ≤ hBand)

/-- A reading is in band against the zone's targets in force; false where no humidity target is held (R67). -/
def Zone.inBand (zn : Zone) (r : Reading) : Bool :=
  match zn.governing, zn.targets with
  | some g, some (t, some h) => inBandOf g.entry.tempBand g.entry.humBand (t, h) r
  | _, _ => false

/-- The zone is in a state that keeps an in-band latch: CONDITIONED or HOLDING (R72). -/
def ZoneState.latches : ZoneState → Bool
  | .conditioned => true | .holding => true
  | .off => false | .waiting => false | .ramping => false | .economy => false | .purging => false | .failed => false

/-! ## Arbiter -/

/-- The ramp slots in use: the number of zones in RAMPING (R74). -/
def State.slotsInUse (s : State) : Nat := s.zones.countP fun zn => zn.state == .ramping

/-! ## Chains (R48, R50) -/

/-- The rod at a chain's last position (R48). -/
def lastRod (ps : List (Option Word32)) : Option Word32 := ps.getLast?.join

/-- The capacity of the transfer buffer (R11). -/
def bufferCapacity : Nat := 8

/-- The capacity of the landing queue (R9). -/
def landingCapacity : Nat := 4

/-- The take condition of a chain (R48). A chain without positions has no rod at its last position (DEDUCED, assumption
log 8). -/
def State.takeCondition (s : State) : Chain → Bool
  | .pre => (lastRod s.preChain).isNone || decide (s.buffer.length < bufferCapacity)
  | .main => (lastRod s.mainChain).isNone || s.pins.stripReady

/-- The STEP output of a chain: asserted in STEPPING (R45). -/
def State.stepOut (s : State) (c : Chain) : Bool := (s.seq c).state == .stepping

/-- A chain is empty with its upstream (R50). -/
def State.emptyUpTo (s : State) : Chain → Bool
  | .pre => allGaps s.preChain && s.landing.isEmpty && s.capture.latch.isNone
  | .main => allGaps s.preChain && s.landing.isEmpty && s.capture.latch.isNone && s.buffer.isEmpty && allGaps s.mainChain

/-! ## Zone conditions (R82, R86) -/

/-- The positions of the wake lead just before a zone's first position on its chain (R82). -/
def State.lookAhead (s : State) (l : Layout) (z : Nat) : List (Option Word32) :=
  ((s.positions (l.zoneChain z)).take (l.zoneFirst z)).drop (l.zoneFirst z - l.wakeLead)

/-- The wake condition of a zone (R82). -/
def State.wakeCondition (s : State) (z : Nat) : Bool :=
  match s.store.layout with
  | none => false
  | some l =>
    !allGaps (s.lookAhead l z)
      || (decide (z = l.preZones) && !s.buffer.isEmpty)
      || (decide (z = 0) && !s.landing.isEmpty)
      || !allGaps (s.zonePositions l z)

/-- Everything upstream of a zone is empty: the birth latch, the landing queue, the positions of the zones with a lower index,
and for a main-chain zone the transfer buffer (R86). -/
def State.upstreamEmpty (s : State) (l : Layout) (z : Nat) : Bool :=
  s.capture.latch.isNone && s.landing.isEmpty &&
    match l.zoneChain z with
    | .pre => allGaps (s.preChain.take (l.zoneFirst z))
    | .main => allGaps s.preChain && s.buffer.isEmpty && allGaps (s.mainChain.take (l.zoneFirst z))

/-- The run-out condition of a zone (R86). -/
def State.runOutCondition (s : State) (z : Nat) : Bool :=
  match s.store.layout with
  | none => false
  | some l => !s.zoneHolds z && s.upstreamEmpty l z

/-- Every zone of the working layout is in a state. -/
def State.allZones (s : State) (st : ZoneState) : Bool := s.zones.all fun zn => zn.state == st

/-- The train is empty and the birth latch is free (R147). -/
def State.trainEmpty (s : State) : Bool := s.emptyUpTo .main

/-- The completion condition of a run-out (R147). -/
def State.runOutDone (s : State) : Bool :=
  s.trainEmpty && s.preSeq.state == .stopped && s.mainSeq.state == .stopped && s.allZones .off

/-! ## Outputs -/

/-- A lot gap is pending: the OPEN lot's gap pending count is above 0 (R41). -/
def State.gapPending (s : State) : Bool :=
  match s.openLot with
  | none => false
  | some l => decide (0 < l.gapPending)

/-- The level of SPREADER HOLD (R41). -/
def State.spreaderHold (s : State) : Bool :=
  s.line.state != .running || decide (3 ≤ s.landing.length) || s.gapPending || s.openLot.isNone

/-- Kind k is in the enable set. -/
def State.noticeEnabled (s : State) (k : Nat) : Bool := s.notices.enabled.getLsbD k

/-- The number of pending kinds in the enable set. -/
def State.enabledPending (s : State) : Nat :=
  (List.range 20).countP fun k => s.noticePending k && s.noticeEnabled k

/-- The number of pending kinds out of the enable set. -/
def State.disabledPending (s : State) : Nat :=
  (List.range 20).countP fun k => s.noticePending k && !s.noticeEnabled k

/-- The ATTENTION output is driven low while an enabled kind is pending (R181). -/
def State.attention (s : State) : Bool := decide (0 < s.enabledPending)

/-- LINK DE is asserted while a reply is being sent (R190). -/
def State.linkDe (s : State) : Bool :=
  match s.link.port with
  | .sending _ => true
  | .idle => false
  | .preparing _ _ => false

/-- HEAT n; a line beyond the zone count stays off (spec/00_scope.md, Signals). -/
def State.heat (s : State) (n : Nat) : Bool :=
  match s.zones[n]? with
  | some zn => zn.heat
  | none => false

/-- VENT n; a line beyond the zone count stays closed (spec/00_scope.md, Signals). -/
def State.vent (s : State) (n : Nat) : Bool :=
  match s.zones[n]? with
  | some zn => zn.vent
  | none => false

end Sys2Proof.Machine
end

