-- ==== Sys2Proof/Machine/Tracker.lean ====
section
/-! DEFINITION. The moisture tracker (spec/05): elapsed time, working climate, sorption lookup, moisture update, stress and
heat tests, marks of zone condition, and the accounting of one rod by one zone. -/

namespace Sys2Proof.Machine

/-- The elapsed time e of an accounting: the clock difference modulo 2^32 in whole seconds, clamped to 3,600 (R93). -/
def elapsedSeconds (now last : Word32) : Nat := min ((now - last).toNat / 100) 3600

/-- The row of the sorption lookup: floor((T − 300) / 100) clamped to 0..7 (R98). -/
def sorptionRow (t : Int) : Nat := (clampInt 0 7 ((t - 300) / 100)).toNat

/-- Entry E[r][c] of the sorption table (R97). -/
def sorptionEntry (table : List Nat) (r c : Nat) : Nat := table.getD (tableColumns * r + c) 0

/-- The equilibrium moisture of a climate, in counts (R98, R99). -/
def equilibrium (table : List Nat) (t : Int) (h : Nat) : Nat :=
  let r := sorptionRow t
  let c := min h 1000 / 50
  let f := min h 1000 % 50
  let e0 : Int := sorptionEntry table r c
  let e1 : Int := sorptionEntry table r (c + 1)
  if c = 20 then 10 * sorptionEntry table r 20 else (10 * (e0 + ((e1 - e0) * f).tdiv 50)).toNat

/-- 4,096 × 3,600, the divisor of the moisture change (R100). -/
def changeDivisor : Int := 14745600

/-- The change of moisture Δ for distance D, coefficient k and elapsed time e, clamped to D (R100, R101). -/
def moistureChange (d : Int) (k e : Nat) : Int :=
  let delta := (d * k * e).tdiv changeDivisor
  if d.natAbs < delta.natAbs then d else delta

/-- The stress test: Δ > 0 and Δ × 60 > G × e (R102). -/
def stressed (delta : Int) (g e : Nat) : Bool := decide (0 < delta ∧ (g * e : Int) < delta * 60)

/-- What a zone brings to the accountings of one pass (R92): its state, its latch, its governing profile number, k and G of
its copy, the working climate and whether that climate is estimated (R96). -/
structure ZoneAir where
  state         : ZoneState
  latch         : Bool
  profile       : Nat
  coefficient   : Nat
  gradientLimit : Nat
  temp          : Int
  hum           : Nat
  estimated     : Bool
  deriving DecidableEq, Repr

/-- The climate of the production hall: the hall probe's last valid reading while it is fresh, else the layout's default
(R96). -/
def State.hallClimate (s : State) (l : Layout) : Int × Nat :=
  match s.probeFresh hallIndex, (s.probe hallIndex).reading with
  | true, some r => (r.temp, r.hum)
  | true, none => (l.hallTemp, l.hallHum)
  | false, _ => (l.hallTemp, l.hallHum)

/-- The climate used for a blind zone (R96). -/
def State.blindClimate (s : State) (l : Layout) (st : ZoneState) (e : ZoneEntry) : Int × Nat :=
  match st with
  | .conditioned => (e.workTemp, e.workHum)
  | .ramping => (e.workTemp, e.workHum)
  | .waiting => (e.workTemp, e.workHum)
  | .holding => (e.holdTemp, e.holdHum)
  | .economy => (e.workTemp - e.economyOffset, e.workHum)
  | .off => s.hallClimate l
  | .purging => s.hallClimate l
  | .failed => s.hallClimate l

/-- The working climate of a zone: its last valid reading while its probe is fresh, else the blind climate (R96). -/
def State.workingClimate (s : State) (l : Layout) (z : Nat) (st : ZoneState) (e : ZoneEntry) : Int × Nat :=
  match s.probeFresh z, (s.probe z).reading with
  | true, some r => (r.temp, r.hum)
  | true, none => s.blindClimate l st e
  | false, _ => s.blindClimate l st e

/-- What zone z brings to its accountings with the latch at `latch`. None without a layout, a controller or a governing
profile: no rod is accounted then (R106). -/
def State.zoneAir (s : State) (z : Nat) (latch : Bool) : Option ZoneAir :=
  match s.store.layout, s.zones[z]? with
  | some l, some zn =>
    match zn.governing with
    | some g =>
      some { state := zn.state, latch := latch, profile := g.profile, coefficient := g.entry.coefficient,
             gradientLimit := g.entry.gradientLimit,
             temp := (s.workingClimate l z zn.state g.entry).1, hum := (s.workingClimate l z zn.state g.entry).2,
             estimated := s.blind z }
    | none => none
  | _, _ => none

/-- A zone's state marks its rods UNCONDITIONED (R104). -/
def ZoneState.unconditioned : ZoneState → Bool
  | .off => true | .purging => true | .failed => true
  | .waiting => false | .ramping => false | .conditioned => false | .economy => false | .holding => false

/-- A zone's state and latch mark its rods OUT_OF_BAND (R104). -/
def ZoneState.outOfBand (st : ZoneState) (latch : Bool) : Bool :=
  match st with
  | .waiting => true | .ramping => true | .economy => true
  | .conditioned => !latch | .holding => !latch
  | .off => false | .purging => false | .failed => false

/-- The marks after an accounting: the conditions found are added (R96, R104, R3). -/
def Marks.accounted (m : Marks) (air : ZoneAir) (rodProfile : Option Nat) : Marks :=
  { m with
    unconditioned := m.unconditioned || air.state.unconditioned
    outOfBand := m.outOfBand || air.state.outOfBand air.latch
    crossProfile := m.crossProfile || decide (rodProfile ≠ some air.profile)
    estimated := m.estimated || air.estimated }

/-- The heat test: the working temperature is at or above the threshold of the rod's lot profile (R103). -/
def heatTest (t : Int) : Option Int → Bool
  | some threshold => decide (threshold ≤ t)
  | none => false

/-- The largest heat seconds (R103). -/
def maxHeat : Nat := 16777215

/-- One accounting of a rod (R92 to R104): with e = 0 the marks alone, else moisture, stress, heat, marks and last
accounted together, every step from the values before. -/
def accountRod (table : List Nat) (air : ZoneAir) (now : Word32) (rodProfile : Option Nat) (threshold : Option Int)
    (r : Rod) : Rod :=
  let e := elapsedSeconds now r.lastAccounted
  let marks := r.marks.accounted air rodProfile
  let delta := moistureChange ((r.moisture : Int) - equilibrium table air.temp air.hum) air.coefficient e
  if e = 0 then { r with marks := marks }
  else
    { r with
      moisture := ((r.moisture : Int) - delta).toNat
      stress := if stressed delta air.gradientLimit e then satAdd 255 r.stress 1 else r.stress
      heat := if heatTest air.temp threshold then satAdd maxHeat r.heat e else r.heat
      lastAccounted := now
      marks := marks }

/-- The working copy of a rod's lot profile (R20). -/
def State.rodProfile (s : State) (r : Rod) : Option Profile := (s.rodProfileNumber r).bind s.profile

/-- A rod accounted by zone z at `now` with the latch value `latch` (R92). -/
def State.accounted (s : State) (z : Nat) (latch : Bool) (now : Word32) (r : Rod) : Rod :=
  match s.zoneAir z latch with
  | none => r
  | some air => accountRod s.table air now (s.rodProfileNumber r) ((s.rodProfile r).map (·.heatThreshold)) r

/-- A rod belongs to zone z by its location (R13). -/
def State.rodInZone (s : State) (z : Nat) (r : Rod) : Bool :=
  match s.store.layout with
  | none => false
  | some l => l.zoneHas z r.location

/-- The accounting pass of zone z over the rods (R105): each rod of the zone, with one latch value for all. -/
def State.accountPass (s : State) (z : Nat) (latch : Bool) : State :=
  s.setRods (s.rods.map fun r => if s.rodInZone z r then s.accounted z latch s.clock r else r)

end Sys2Proof.Machine
end

