-- ==== Sys2Proof/Machine/Lots.lean ====
section
/-! DEFINITION. The lot table (R118 to R130): counting births, closing, draining, opening, and the requests LOT OPEN, LOT CLOSE and
LOT READ. -/

namespace Sys2Proof.Machine

/-! ## Counting births (R120) -/

/-- The first and last rod numbers after a birth is counted (R120). -/
def Lot.countRod (l : Lot) (number : Word32) : Lot :=
  { l with born := l.born + 1, firstRod := if l.born = 0 then number else l.firstRod, lastRod := number }

/-- A completing write-out counts into born and in-train (R35, R120). -/
def Lot.countBirth (l : Lot) (number : Word32) : Lot :=
  { l.countRod number with inTrain := l.inTrain + 1 }

/-- An OVERRUN scrap counts into born and scrapped (R38, R120). -/
def Lot.countScrap (l : Lot) (number : Word32) : Lot :=
  { l.countRod number with scrapped := l.scrapped + 1 }

/-- A graded rod counts into the exit count of its disposition; an accepted rod's charge into the total (R116). -/
def Lot.countExit (l : Lot) (d : Disposition) (charge : Option Nat) : Lot :=
  match d with
  | .accept => { l with accepted := l.accepted + 1, acceptedCharge := satAdd max32 l.acceptedCharge (charge.getD 0) }
  | .review => { l with reviewed := l.reviewed + 1 }
  | .rework => { l with reworked := l.reworked + 1 }
  | .reject => { l with rejected := l.rejected + 1 }

/-! ## Draining (R127) -/

/-- The drain of a lot: its LOT_SUMMARY is offered, LOT_DRAINED raised, its slot freed (R127, R128). -/
def State.drainLot (s : State) (slot : Nat) (l : Lot) : State :=
  let s1 := s.offerReport (.lotSummary slot l s.clock) (some slot) l.id
  let s2 := s1.raise .lotDrained l.id
  s2.setLots (s2.lots.set slot none)

/-- The drain check of a lot: a CLOSED lot whose in-train count is 0 drains (R127). -/
def State.drainCheck (s : State) (slot : Nat) : State :=
  match s.lot slot with
  | some l => if l.state = .closed ∧ l.inTrain = 0 then s.drainLot slot l else s
  | none => s

/-! ## Closing (R125) -/

/-- Close the OPEN lot, where there is one, and make its drain check (R125). -/
def State.closeOpenLot (s : State) : State :=
  match s.openSlot with
  | none => s
  | some slot => (s.modLot slot fun l => { l with state := .closed }).drainCheck slot

/-! ## LOT OPEN (R122, R123) -/

/-- A new lot as LOT OPEN writes it (R123). -/
def Lot.new (id : Word32) (profile gap : Nat) : Lot :=
  { id := id, profile := profile, state := .opened, gapPending := gap, born := 0, scrapped := 0, inTrain := 0,
    accepted := 0, reviewed := 0, reworked := 0, rejected := 0, acceptedCharge := 0, trimTotal := 0, firstRod := 0,
    lastRod := 0, reportsLost := 0 }

/-- The lowest-numbered free slot (R123). -/
def State.freeSlot (s : State) : Option Nat := s.lots.findIdx? Option.isNone

/-- Write a new lot into the lowest free slot (R123 step 2). -/
def State.putLot (s : State) (l : Lot) : State :=
  match s.freeSlot with
  | none => s
  | some slot => s.setLots (s.lots.set slot (some l))

/-- The line states in which LOT OPEN is refused NOT_NOW: UNCONFIGURED and RUN_OUT (R122). -/
def LineState.refusesLotOpen : LineState → Bool
  | .unconfigured => true | .runOut => true
  | .init => false | .cold => false | .starting => false | .running => false | .hold => false | .shutdown => false

/-- The refusal of a LOT OPEN by the first failing check of R122 after the INIT check; none where it is taken. Bad values carry
the byte offset of the parameter: lot id 0, profile 4 (R194); a one-byte gap is never above 255. With both parameters bad the
lot id's offset is given (DEDUCED, assumption log 14). -/
def State.lotOpenRefusal (s : State) (id : Word32) (profile : Byte) : Option Answer :=
  if s.line.state.refusesLotOpen then some (.refuse .notNow)
  else if id = 0 then some (.badValue 0)
  else if 7 < profile.toNat then some (.badValue 4)
  else if (s.profile profile.toNat).isNone then some (.refuse .badProfile)
  else if (s.lotSlotOf id).isSome then some (.refuse .duplicate)
  else if s.freeSlot.isNone then some (.refuse .tableFull)
  else none

/-- LOT OPEN (R122, R123): close any OPEN lot, write the new lot, reply with its slot. -/
def lotOpenOp (id : Word32) (profile gap : Byte) (s : State) : State × Answer :=
  match s.lotOpenRefusal id profile with
  | some a => (s, a)
  | none =>
    let s1 := s.closeOpenLot
    (s1.putLot (Lot.new id profile.toNat gap.toNat), .ok (beBytes 1 (s1.freeSlot.getD 0)))

/-! ## LOT CLOSE (R126) -/

/-- LOT CLOSE (R126): the reply carries the closed lot's id and whether it drained within the request. -/
def lotCloseOp (s : State) : State × Answer :=
  match s.openLot with
  | none => (s, .refuse .notFound)
  | some l => (s.closeOpenLot, .ok (be32 l.id ++ [flagByte (l.inTrain == 0)]))

/-! ## LOT READ (R129) -/

/-- The LOT READ reply, 52 bytes (R198). -/
def lotImage (slot : Nat) (l : Lot) : List Byte :=
  beBytes 1 slot ++ be32 l.id ++ beBytes 1 l.profile ++ beBytes 1 l.state.code ++ beBytes 1 l.gapPending ++ be32 l.born
    ++ be32 l.scrapped ++ beBytes 2 l.inTrain ++ be32 l.accepted ++ be32 l.reviewed ++ be32 l.reworked ++ be32 l.rejected
    ++ beBytes 4 l.acceptedCharge ++ beBytes 4 l.trimTotal ++ be32 l.firstRod ++ be32 l.lastRod ++ beBytes 2 l.reportsLost

/-- The answer of LOT READ (R129). -/
def State.lotReadAnswer (s : State) (id : Word32) : Answer :=
  if id = 0 then .badValue 0
  else match s.lotSlotOf id with
    | none => .refuse .notFound
    | some slot =>
      match s.lot slot with
      | none => .refuse .notFound
      | some l => .ok (lotImage slot l)

/-- LOT READ (R129) changes nothing. -/
def lotReadOp (id : Word32) (s : State) : State × Answer := (s, s.lotReadAnswer id)

/-! ## Meanings -/

/-- LOT_OPEN (R122, R123). -/
def execLotOpen (id : Word32) (profile gap : Byte) (s : State) : Host.Outcome State Fault Refusal :=
  .next (s.serve 0x30 (lotOpenOp id profile gap))

/-- LOT_CLOSE (R125, R126). -/
def execLotClose (s : State) : Host.Outcome State Fault Refusal := .next (s.serve 0x31 lotCloseOp)

/-- LOT_READ (R129). -/
def execLotRead (id : Word32) (s : State) : Host.Outcome State Fault Refusal := .next (s.serve 0x32 (lotReadOp id))

end Sys2Proof.Machine
end

