-- ==== Sys2Proof/Machine/Zones.lean ====
section
/-! DEFINITION. The zone controllers and the ramp arbiter (spec/04): outputs, readings, the latch, the ramp queue and its
grants, hold, release, start, shutdown and run-out of zones, purging, adoption, accounting ticks, economy and wake, and the requests
ZONE RESTART (its zone part) and ZONE READ. -/

namespace Sys2Proof.Machine

/-! ## Outputs (R68, R69) -/

/-- HEAT n regulated against a target temperature (R68). -/
def heatLevel (target temp : Int) (was : Bool) : Bool :=
  if temp ≤ target - 5 then true else if target ≤ temp then false else was

/-- VENT n regulated against a target humidity; closed where none is held, as in ECONOMY (R69). -/
def ventLevel (target : Option Nat) (hum : Nat) (was : Bool) : Bool :=
  match target with
  | some t => if t + 5 ≤ hum then true else if hum ≤ t then false else was
  | none => false

/-- The zone regulates its outputs in RAMPING, CONDITIONED, HOLDING and ECONOMY (R68). -/
def ZoneState.regulates : ZoneState → Bool
  | .ramping => true | .conditioned => true | .holding => true | .economy => true
  | .off => false | .waiting => false | .purging => false | .failed => false

/-- One evaluation of a zone's outputs against a reading (R68, R69). -/
def Zone.evaluate (zn : Zone) (r : Reading) : Zone :=
  if zn.state.regulates then
    match zn.targets with
    | some (t, h) => { zn with heat := heatLevel t r.temp zn.heat, vent := ventLevel h r.hum zn.vent }
    | none => zn
  else zn

/-- The zone evaluates its outputs against its last valid reading, unless it is blind (R68, R70). -/
def State.regulate (s : State) (z : Nat) : State :=
  match s.probeFresh z, (s.probe z).reading with
  | true, some r => s.modZone z fun zn => zn.evaluate r
  | true, none => s
  | false, _ => s

/-! ## The in-band latch (R72) -/

/-- Drop a zone's latch; a drop from high raises BAND_LOST with the zone index (R72). -/
def State.dropLatch (s : State) (z : Nat) : State :=
  match s.zones[z]? with
  | none => s
  | some zn => if zn.latch then (s.modZone z fun x => { x with latch := false }).raiseNat .bandLost z else s

/-- The zone's latch is dropped by a reading that is out of band, in CONDITIONED or HOLDING (R72). -/
def State.bandTest (s : State) (z : Nat) (r : Reading) : State :=
  match s.zones[z]? with
  | none => s
  | some zn => if zn.state.latches && !zn.inBand r then s.dropLatch z else s

/-- The band test of a zone's last valid reading at a change of its targets, unless it is blind (R72). -/
def State.retest (s : State) (z : Nat) : State :=
  match s.probeFresh z, (s.probe z).reading with
  | true, some r => s.bandTest z r
  | true, none => s
  | false, _ => s

/-- A zone takes a new copy of a profile's entry: the targets in force change at once, the outputs and the latch follow
(R66, R72, R88). -/
def State.retarget (s : State) (z : Nat) (g : Governing) : State :=
  ((s.modZone z fun zn => { zn with governing := some g }).regulate z).retest z

/-! ## The ramp queue and the arbiter (R74 to R76) -/

/-- A zone joins the ramp queue at its tail (R74). -/
def State.joinQueue (s : State) (z : Nat) : State :=
  s.setArbiter { s.arbiter with queue := s.arbiter.queue ++ [z] }

/-- A zone leaves the ramp queue from wherever it stands (R74). -/
def State.leaveQueue (s : State) (z : Nat) : State :=
  s.setArbiter { s.arbiter with queue := s.arbiter.queue.filter (· != z) }

/-- The spacing timer runs: started and not yet expired (R75). -/
def Arbiter.spacingRuns (a : Arbiter) : Bool := decide (0 < a.spacing.getD 0)

/-- The grant condition of the arbiter (R75). -/
def State.canGrant (s : State) : Bool :=
  match s.store.layout with
  | none => false
  | some l => !s.arbiter.queue.isEmpty && decide (s.slotsInUse < l.rampSlots) && !s.arbiter.spacingRuns

/-- The spacing timer as a grant starts it: not started for a spacing of 0 (R75). -/
def Layout.spacingStart (l : Layout) : Option Nat :=
  if l.rampSpacing = 0 then none else some (secondTicks l.rampSpacing)

/-- A zone as a grant moves it to RAMPING (R78). -/
def Zone.ramped (now : Word32) (limit : Nat) (zn : Zone) : Zone :=
  { zn with state := .ramping, rampTimer := some limit, entered := now }

/-- Grant zone z, the head of the queue: RAMPING with its ramp limit timer, outputs evaluated unless blind, the grant's time
recorded and the spacing timer started (R75, R78). -/
def State.grant (s : State) (l : Layout) (z : Nat) : State :=
  let s1 := s.setArbiter { queue := s.arbiter.queue.tail, granted := true, lastGrant := s.clock, spacing := l.spacingStart }
  (s1.modZone z fun zn => zn.ramped s.clock (minuteTicks l.rampLimit)).regulate z

/-- Test the grant condition, and after a grant again, at most `fuel` times (R75). -/
def State.grantLoop : Nat → State → State
  | 0, s => s
  | fuel + 1, s =>
    match s.canGrant, s.store.layout, s.arbiter.queue.head? with
    | true, some l, some z => State.grantLoop fuel (s.grant l z)
    | _, _, _ => s

/-- The arbiter's grant test: each grant takes one entry of the queue, so the queue's length bounds the grants of one
event (R75). -/
def State.grantTest (s : State) : State := State.grantLoop s.arbiter.queue.length s

/-! ## Leaving states -/

/-- Move a zone to another state by `f`: a WAITING zone gives up its queue entry, a RAMPING zone releases its slot, and a release
is a grant test (R76). -/
def State.moveZone (s : State) (z : Nat) (f : Zone → Zone) : State :=
  match s.zones[z]? with
  | none => s
  | some zn =>
    let s1 := s.modZone z f
    match zn.state with
    | .waiting => s1.leaveQueue z
    | .ramping => s1.grantTest
    | .off => s1
    | .conditioned => s1
    | .economy => s1
    | .holding => s1
    | .purging => s1
    | .failed => s1

/-- A zone as it enters a state: entry time, and the timers of the state it leaves stopped. -/
def Zone.enter (now : Word32) (st : ZoneState) (zn : Zone) : Zone :=
  { zn with state := st, entered := now, startPending := false, economyTimer := none, rampTimer := none, purgeTimer := none }

/-- A zone as it enters OFF, WAITING or FAILED: HEAT off, VENT closed (R69). -/
def Zone.enterCold (now : Word32) (st : ZoneState) (zn : Zone) : Zone :=
  { zn.enter now st with heat := false, vent := false }

/-- A zone as it enters PURGING with a purge time in ticks: HEAT off, VENT open, purge timer started; a purge time of 0 ends the
purge within the same event, in OFF (R87). -/
def Zone.enterPurge (now : Word32) (ticks : Nat) (zn : Zone) : Zone :=
  if ticks = 0 then zn.enterCold now .off
  else { zn.enter now .purging with heat := false, vent := true, purgeTimer := some ticks }

/-- The purge time of the working layout in ticks. -/
def State.purgeTicks (s : State) : Nat :=
  match s.store.layout with
  | none => 0
  | some l => minuteTicks l.purgeTime

/-- A zone goes to PURGING (R87). -/
def State.purgeZone (s : State) (z : Nat) : State := s.moveZone z (Zone.enterPurge s.clock s.purgeTicks)

/-- A zone goes to HOLDING: latch high, outputs evaluated against the hold targets unless blind (R83). -/
def State.holdZone (s : State) (z : Nat) : State :=
  (s.moveZone z fun zn => { zn.enter s.clock .holding with latch := true }).regulate z

/-- The zone state is one the run-out condition moves to PURGING (R86). -/
def ZoneState.runsOut : ZoneState → Bool
  | .waiting => true | .ramping => true | .conditioned => true | .economy => true
  | .off => false | .holding => false | .purging => false | .failed => false

/-- In RUN_OUT a zone in WAITING, RAMPING, CONDITIONED or ECONOMY whose run-out condition holds goes to PURGING (R86). -/
def State.runOutZone (s : State) (z : Nat) : State :=
  match s.zones[z]? with
  | none => s
  | some zn =>
    if s.line.state = .runOut ∧ zn.state.runsOut = true ∧ s.runOutCondition z = true then s.purgeZone z else s

/-- A zone enters WAITING and joins the ramp queue, the arbiter tests its grant condition at the join, and in RUN_OUT the zone's
run-out condition is then tested (R74, R75, R86). -/
def State.waitZone (s : State) (z : Nat) : State :=
  (((s.modZone z (Zone.enterCold s.clock .waiting)).joinQueue z).grantTest).runOutZone z

/-! ## Readings (R71) -/

/-- A RAMPING zone reaches CONDITIONED: slot released, timer stopped, latch high, ZONE_CONDITIONED raised (R71). -/
def State.conditionZone (s : State) (z : Nat) : State :=
  (s.moveZone z fun zn => { zn.enter s.clock .conditioned with latch := true }).raiseNat .zoneConditioned z

/-- The zone controller acts on a valid reading of its probe (R71). -/
def State.zoneReading (s : State) (z : Nat) (r : Reading) : State :=
  match s.zones[z]? with
  | none => s
  | some zn =>
    let s1 := s.modZone z fun x => x.evaluate r
    match zn.state with
    | .ramping => if zn.inBand r then s1.conditionZone z else s1
    | .conditioned => s1.bandTest z r
    | .holding => s1.bandTest z r
    | .economy => s1
    | .waiting => s
    | .off => s
    | .purging => s
    | .failed => s

/-! ## Accounting ticks (R73, R105) -/

/-- The latch after a pass: set high in CONDITIONED or HOLDING where the zone is not blind and its last valid reading is in
band, else as it is (R73). -/
def State.rearmed (s : State) (z : Nat) (zn : Zone) : Bool :=
  match s.probeFresh z, (s.probe z).reading with
  | true, some r => zn.latch || (zn.state.latches && zn.inBand r)
  | true, none => zn.latch
  | false, _ => zn.latch

/-- The tick period in ticks of the line clock. -/
def State.tickTicks (s : State) : Nat :=
  match s.store.layout with
  | none => 0
  | some l => secondTicks l.tickPeriod

/-- A zone's tick: the accounting pass with the latch as it stands, the latch re-armed, the timer restarted (R73, R105). -/
def State.zoneTick (s : State) (z : Nat) : State :=
  match s.zones[z]? with
  | none => s
  | some zn =>
    if zn.tickTimer.isSome then
      (s.accountPass z zn.latch).modZone z fun x =>
        { x with latch := s.rearmed z x, tickTimer := some s.tickTicks }
    else s

/-- The tick timers after a change of the line state: started at the entry to STARTING from COLD, stopped at the entry to COLD,
run on otherwise (R73). -/
def State.followTicks (s : State) : State :=
  s.setZones (s.zones.map fun zn =>
    if s.line.state.ticks then { zn with tickTimer := some (zn.tickTimer.getD s.tickTicks) }
    else { zn with tickTimer := none })

/-! ## Economy and wake (R80 to R82) -/

/-- The three conditions under which a zone's economy timer runs (R80). -/
def State.economyRuns (s : State) (z : Nat) (zn : Zone) : Bool :=
  zn.state == .conditioned && s.line.state == .running && !s.zoneHolds z

/-- The economy delay in ticks. -/
def State.economyTicks (s : State) : Nat :=
  match s.store.layout with
  | none => 0
  | some l => minuteTicks l.economyDelay

/-- The economy timers follow their conditions: started from 0, running on, or stopped (R80). -/
def State.followEconomy (s : State) : State :=
  s.setZones (s.zones.mapIdx fun z zn =>
    { zn with economyTimer :=
        if s.economyRuns z zn then some (zn.economyTimer.getD s.economyTicks) else none })

/-- A zone enters ECONOMY: temperature target lowered, VENT closed, HEAT evaluated unless blind, latch kept (R81). -/
def State.economyZone (s : State) (z : Nat) : State :=
  (s.modZone z fun zn => { zn.enter s.clock .economy with vent := false }).regulate z

/-- The economy timer of a zone reaches its delay: ECONOMY, or the timer from 0 again where the wake condition holds (R81). -/
def State.economyExpiry (s : State) (z : Nat) : State :=
  match s.zones[z]? with
  | none => s
  | some zn =>
    if zn.state = .conditioned ∧ zn.economyTimer.isSome = true then
      if s.wakeCondition z then s.modZone z fun x => { x with economyTimer := some s.economyTicks }
      else s.economyZone z
    else s

/-- A zone in ECONOMY whose wake condition holds goes to WAITING (R82). -/
def State.wakeZone (s : State) (z : Nat) : State :=
  match s.zones[z]? with
  | none => s
  | some zn => if zn.state = .economy ∧ s.wakeCondition z = true then s.waitZone z else s

/-! ## Line requests at the zones (R77, R83, R84, R85) -/

/-- The zone's copy of a profile's entry for it (R66). -/
def State.entryOf (s : State) (p z : Nat) : Option ZoneEntry := (s.profile p).bind fun prof => prof.zones[z]?

/-- Every zone's governing profile set to one profile, with its copy of the entry (R77). -/
def State.governAll (s : State) (p : Nat) : State :=
  s.setZones (s.zones.mapIdx fun z zn =>
    match s.entryOf p z with
    | some e => { zn with governing := some { profile := p, entry := e } }
    | none => zn)

/-- A zone at LINE START: OFF or FAILED enters WAITING, PURGING has start-pending set (R77). -/
def State.startZone (s : State) (z : Nat) : State :=
  match s.zones[z]? with
  | none => s
  | some zn =>
    match zn.state with
    | .off => s.waitZone z
    | .failed => s.waitZone z
    | .purging => s.modZone z fun x => { x with startPending := true }
    | .waiting => s
    | .ramping => s
    | .conditioned => s
    | .economy => s
    | .holding => s

/-- A zone at LINE RELEASE: HOLDING or OFF enters WAITING, PURGING has start-pending set, FAILED stays (R84). -/
def State.releaseZone (s : State) (z : Nat) : State :=
  match s.zones[z]? with
  | none => s
  | some zn =>
    match zn.state with
    | .holding => s.waitZone z
    | .off => s.waitZone z
    | .purging => s.modZone z fun x => { x with startPending := true }
    | .failed => s
    | .waiting => s
    | .ramping => s
    | .conditioned => s
    | .economy => s

/-- A zone moved by a line hold: HOLDING where the mask names it, else PURGING (R83). -/
def State.holdOrPurge (s : State) (mask : BitVec 10) (z : Nat) : State :=
  if mask.getLsbD z then s.holdZone z else s.purgeZone z

/-- The first round of a hold: the zones in WAITING (R142). -/
def State.holdWaiting (mask : BitVec 10) (s : State) (z : Nat) : State :=
  match s.zones[z]? with
  | none => s
  | some zn => if zn.state = .waiting then s.holdOrPurge mask z else s

/-- The second round of a hold: RAMPING, CONDITIONED and ECONOMY zones; a PURGING zone has start-pending cleared (R83, R142). -/
def State.holdRest (mask : BitVec 10) (s : State) (z : Nat) : State :=
  match s.zones[z]? with
  | none => s
  | some zn =>
    match zn.state with
    | .ramping => s.holdOrPurge mask z
    | .conditioned => s.holdOrPurge mask z
    | .economy => s.holdOrPurge mask z
    | .purging => s.modZone z fun x => { x with startPending := false }
    | .off => s
    | .failed => s
    | .waiting => s
    | .holding => s

/-- The zones at a line hold with a mask (R83, R142). -/
def State.holdZones (s : State) (mask : BitVec 10) : State :=
  (s.eachZone (State.holdWaiting mask)).eachZone (State.holdRest mask)

/-- The first round of a shutdown: the zones in WAITING go to PURGING (R148). -/
def State.shutWaiting (s : State) (z : Nat) : State :=
  match s.zones[z]? with
  | none => s
  | some zn => if zn.state = .waiting then s.purgeZone z else s

/-- The second round of a shutdown: every other zone that is not FAILED; a PURGING zone keeps its timer and has start-pending
cleared (R85, R148). -/
def State.shutRest (s : State) (z : Nat) : State :=
  match s.zones[z]? with
  | none => s
  | some zn =>
    match zn.state with
    | .ramping => s.purgeZone z
    | .conditioned => s.purgeZone z
    | .economy => s.purgeZone z
    | .holding => s.purgeZone z
    | .off => s.purgeZone z
    | .purging => s.modZone z fun x => { x with startPending := false }
    | .failed => s
    | .waiting => s

/-- The zones at a line shutdown. A zone that the first round moved stands in PURGING, or OFF with a purge time of 0, and
the second round leaves the former as it is; the latter passes through PURGING to OFF once more within the same event
(R85, R87, R148). -/
def State.shutZones (s : State) : State := (s.eachZone State.shutWaiting).eachZone State.shutRest

/-! ## Failure and purging (R79, R87) -/

/-- The ramp limit expires in RAMPING: FAILED, HEAT off, VENT closed, slot released, ZONE_FAILED raised (R79). -/
def State.rampExpiry (s : State) (z : Nat) : State :=
  match s.zones[z]? with
  | none => s
  | some zn =>
    if zn.state = .ramping then (s.moveZone z (Zone.enterCold s.clock .failed)).raiseNat .zoneFailed z else s

/-- The purge timer expires: WAITING with start-pending set, else OFF (R87). -/
def State.purgeExpiry (s : State) (z : Nat) : State :=
  match s.zones[z]? with
  | none => s
  | some zn =>
    if zn.state = .purging then
      if zn.startPending then s.waitZone z else s.modZone z (Zone.enterCold s.clock .off)
    else s

/-- The spacing timer expires: the timer stops and the grant condition is tested (R75). -/
def State.spacingExpiry (s : State) : State :=
  if s.arbiter.spacing.isSome then (s.setArbiter { s.arbiter with spacing := none }).grantTest else s

/-! ## Adoption (R88) -/

/-- The rod at a zone's first position. -/
def State.firstRodOf (s : State) (l : Layout) (z : Nat) : Option Word32 :=
  ((s.positions (l.zoneChain z))[l.zoneFirst z]?).join

/-- The lot profile number of the rod with a number. -/
def State.profileOfRod (s : State) (number : Word32) : Option Nat := (s.rod number).bind s.rodProfileNumber

/-- A zone on the shifted chain adopts the lot profile of the rod that the shift put into its first position, where it differs from
the governing profile (R88). -/
def State.adopt (c : Chain) (s : State) (z : Nat) : State :=
  match s.store.layout, s.zones[z]? with
  | some l, some zn =>
    if l.zoneChain z = c then
      match (s.firstRodOf l z).bind s.profileOfRod with
      | none => s
      | some p =>
        if zn.governing.map (·.profile) = some p then s
        else match s.entryOf p z with
          | some e => s.retarget z { profile := p, entry := e }
          | none => s
    else s
  | _, _ => s

/-! ## ZONE RESTART (R89) -/

/-- ZONE RESTART of a FAILED zone in a line state: WAITING in STARTING, RUNNING and RUN_OUT, OFF otherwise (R89). -/
def State.restartZone (s : State) (z : Nat) : State :=
  match s.line.state with
  | .starting => s.waitZone z
  | .running => s.waitZone z
  | .runOut => s.waitZone z
  | .hold => s.modZone z (Zone.enterCold s.clock .off)
  | .shutdown => s.modZone z (Zone.enterCold s.clock .off)
  | .init => s.modZone z (Zone.enterCold s.clock .off)
  | .unconfigured => s.modZone z (Zone.enterCold s.clock .off)
  | .cold => s.modZone z (Zone.enterCold s.clock .off)

/-! ## ZONE READ (R90) -/

/-- A zone's place in the ramp queue, 0 for the head; 0xFF when not WAITING (R90, R198). -/
def State.queuePlace (s : State) (z : Nat) (zn : Zone) : Nat :=
  if zn.state = .waiting then (s.arbiter.queue.findIdx? (· == z)).getD 0xFF else 0xFF

/-- The bytes of the targets in force: held bits, temperature, humidity (R198). -/
def targetsImage : Option (Int × Option Nat) → List Byte
  | none => beBytes 1 0 ++ beBytes 2 0 ++ beBytes 2 0
  | some (t, none) => beBytes 1 1 ++ beSigned t ++ beBytes 2 0
  | some (t, some h) => beBytes 1 3 ++ beSigned t ++ beBytes 2 h

/-- The bytes of a probe's last valid reading: temperature, humidity, time; 0 where none is held (R198). -/
def readingImage : Option Reading → List Byte
  | none => beSigned 0 ++ beBytes 2 0 ++ be32 0
  | some r => beSigned r.temp ++ beBytes 2 r.hum ++ be32 r.time

/-- The ZONE READ reply, 35 bytes (R90, R198). -/
def State.zoneImage (s : State) (z : Nat) (zn : Zone) : List Byte :=
  beBytes 1 z ++ beBytes 1 zn.state.code ++ [flagByte zn.startPending]
    ++ beBytes 1 (match zn.governing with | some g => g.profile | none => 0xFF)
    ++ targetsImage zn.targets ++ [flagByte zn.latch] ++ [flagByte (s.blind z)] ++ beBytes 1 (s.probe z).misses
    ++ [flagByte (s.probe z).reading.isSome] ++ readingImage (s.probe z).reading
    ++ beBytes 1 (flagBits [zn.heat, zn.vent]) ++ beBytes 2 (s.zoneRods z) ++ beBytes 1 (s.queuePlace z zn)
    ++ beBytes 2 (timerSeconds zn.rampTimer) ++ beBytes 2 (timerSeconds zn.purgeTimer)
    ++ beBytes 2 (timerSeconds zn.economyTimer) ++ be32 zn.entered

/-- The answer of ZONE READ: NOT_NOW in UNCONFIGURED, BAD_VALUE for a zone index at or beyond the zone count (R90). -/
def State.zoneReadAnswer (s : State) (zone : Byte) : Answer :=
  if s.line.state = .unconfigured then .refuse .notNow
  else match s.zones[zone.toNat]? with
    | none => .badValue 0
    | some zn => .ok (s.zoneImage zone.toNat zn)

/-- ZONE READ (R90) changes nothing. -/
def zoneReadOp (zone : Byte) (s : State) : State × Answer := (s, s.zoneReadAnswer zone)

/-- ZONE_READ (R90). -/
def execZoneRead (zone : Byte) (s : State) : Host.Outcome State Fault Refusal := .next (s.serve 0x20 (zoneReadOp zone))

end Sys2Proof.Machine
end

