-- ==== Sys2Proof/Machine/Capture.lean ====
section
/-! DEFINITION. The capture unit (spec/02): arming, hanging and cutting, counting, the birth latch and write-out, charge
arithmetic, scraps, rod numbers (R8), and CAPTURE READ. -/

namespace Sys2Proof.Machine

/-! ## Channels (R24, R29 to R32) -/

/-- The prescale of a channel in the working layout (R29). -/
def State.prescale (s : State) (c : Nat) : Nat :=
  match s.store.layout with
  | none => 1
  | some l => l.prescales.getD c 1

/-- A pulse on a channel while a rod hangs: prescaler, counter, overflow flag (R29, R30). -/
def Channel.hangPulse (prescale : Nat) (ch : Channel) : Channel :=
  { ch with
    divider := if prescale ≤ ch.divider + 1 then 0 else ch.divider + 1
    count := if prescale ≤ ch.divider + 1 then satAdd maxCurtain ch.count 1 else ch.count
    overflow := ch.overflow || decide (maxCurtain ≤ ch.count) }

/-- A pulse on a channel outside any rod: trim (R31). -/
def Channel.trimPulse (ch : Channel) : Channel := { ch with trim := satAdd max32 ch.trim 1 }

/-- A channel's counter, divider and overflow flag zeroed (R25, R26). -/
def Channel.clear (ch : Channel) : Channel := { ch with divider := 0, count := 0, overflow := false }

/-- The pulses a channel received while a rod hung (R24): counter times prescale plus divider; 1,048,575 times prescale where
the overflow flag is set. -/
def Channel.hangPulses (prescale : Nat) (ch : Channel) : Nat :=
  if ch.overflow then maxCurtain * prescale else ch.count * prescale + ch.divider

/-- A channel whose hanging curtain is abandoned: its pulses become trim and its counters are zeroed (R24). -/
def Channel.abandon (prescale : Nat) (ch : Channel) : Channel :=
  { ch with trim := satAdd max32 ch.trim (ch.hangPulses prescale) }.clear

/-- Change the channels of the capture unit. -/
def State.mapChannels (s : State) (f : Nat → Channel → Channel) : State :=
  s.setCapture { s.capture with channels := s.capture.channels.mapIdx f }

/-- A pulse on CURTAIN c (R29 to R31). -/
def State.curtainPulse (s : State) (c : Nat) : State :=
  s.setCapture { s.capture with
    channels := s.capture.channels.modify c fun ch =>
      if s.capture.state = .hanging then ch.hangPulse (s.prescale c) else ch.trimPulse }

/-- The sum of the trim counters (R32). -/
def Capture.trimSum (c : Capture) : Nat := (c.channels.map (·.trim)).sum

/-- Pass the trim counters to the OPEN lot, where there is one (R32). -/
def State.passTrim (s : State) : State :=
  match s.openSlot with
  | none => s
  | some slot =>
    (s.modLot slot fun l => { l with trimTotal := satAdd max32 l.trimTotal s.capture.trimSum }).mapChannels
      fun _ ch => { ch with trim := 0 }

/-! ## Arming (R24) -/

/-- The capture unit at a change of the line state from `old` to the present one (R24). -/
def State.followCapture (s : State) (old : LineState) : State :=
  match old.arms, s.line.state.arms with
  | false, true => s.setCapture { s.capture with state := .idle }
  | true, false =>
    let s1 := if s.capture.state = .hanging then s.mapChannels fun c ch => ch.abandon (s.prescale c) else s
    s1.setCapture { s1.capture with state := .disarmed }
  | true, true => s
  | false, false => s

/-! ## Rod numbers (R8) -/

/-- The number after a rod number: from 4,294,967,295 the counter advances to 1 (R8). -/
def nextNumber (n : Word32) : Word32 := if n + 1 = 0 then 1 else n + 1

/-- The number that no live rod and no latched rod holds, from `n` on; each value passed over is held by a rod (R8). -/
def freeNumber (held : Word32 → Bool) : Nat → Word32 → Word32
  | 0, n => n
  | fuel + 1, n => if held n then freeNumber held fuel (nextNumber n) else n

/-- A live rod or the latched rod holds a number (R8). -/
def State.numberHeld (s : State) (n : Word32) : Bool :=
  (s.rod n).isSome || (match s.capture.latch with | some l => l.number == n | none => false)

/-- The number the next ended rod is given (R8). At most one number more than the live and latched rods is tried. -/
def State.numberGiven (s : State) : Word32 := freeNumber s.numberHeld (s.rods.length + 2) s.capture.rodCounter

/-! ## Charge (R36) -/

/-- The charge of counts under mass factors: the exact milligram sum, plus 500, over 1,000, clamped to 65,535 (R36). -/
def chargeGrams (counts factors : List Nat) : Nat :=
  min ((((counts.zip factors).map fun (c, f) => c * f).sum + 500) / 1000) 65535

/-! ## Write-out and scraps (R34 to R40) -/

/-- The mass factors of the working layout. -/
def State.massFactors (s : State) : List Nat :=
  match s.store.layout with
  | none => []
  | some l => l.massFactors

/-- A latched rod carries OVERFLOW: any overflow flag is set (R30). -/
def Latch.overflowed (l : Latch) : Bool := l.overflow.any id

/-- The record of a latched rod written out into a lot slot with its lot profile, at a landing index (R1, R2, R35). -/
def Latch.record (l : Latch) (factors : List Nat) (slot : Nat) (p : Profile) (index : Nat) : Rod :=
  { number := l.number
    lotSlot := slot
    hangTime := l.hangTime
    cutTime := l.cutTime
    counts := l.counts
    charge := if l.overflowed || l.noCut then none else some (chargeGrams l.counts factors)
    moisture := p.initialMoisture
    stress := 0
    heat := 0
    lastAccounted := l.cutTime
    marks := { Marks.empty with overflow := l.overflowed, noCut := l.noCut,
                                shortCurtain := l.counts.any fun c => decide (c < p.minCurtain) }
    location := .landing index }

/-- LANDING_FULL is raised where the landing queue has just come to 4 rods (R40). -/
def State.landingNotice (s : State) : State :=
  if s.landing.length = landingCapacity then s.raise .landingFull 0 else s

/-- A completing write-out of the latched rod into the OPEN lot (R35): record, landing queue, counts, latch freed; zone 0 tests its
wake condition (R82). -/
def State.writeOut (s : State) (l : Latch) (slot : Nat) (p : Profile) : State :=
  let r := l.record s.massFactors slot p s.landing.length
  let s1 := { s with rods := s.rods ++ [r], landing := s.landing ++ [l.number] }
  let s2 := s1.modLot slot fun lot => lot.countBirth l.number
  let s3 := s2.setCapture { s2.capture with latch := none }
  s3.landingNotice.wakeZone 0

/-- A NO_LOT scrap of the latched rod: report, notice, latch freed (R39). -/
def State.scrapNoLot (s : State) (l : Latch) : State :=
  let s1 := s.offerReport (.rodScrap l.number 0 .noLot l.cutTime) none 0
  let s2 := s1.raise .rodScrapped l.number
  s2.setCapture { s2.capture with latch := none }

/-- An OVERRUN scrap of a rod ended with the latch occupied: report, lot counts, notice (R38). -/
def State.scrapOverrun (s : State) (number cutTime : Word32) : State :=
  match s.openSlot with
  | none => (s.offerReport (.rodScrap number 0 .overrun cutTime) none 0).raise .rodScrapped number
  | some slot =>
    let s1 := s.offerReport (.rodScrap number (s.lotIdOf slot) .overrun cutTime) (some slot) (s.lotIdOf slot)
    (s1.modLot slot fun lot => lot.countScrap number).raise .rodScrapped number

/-- A write-out attempt (R34): NO_LOT scrap without an OPEN lot, write-out with room in the landing queue, else the rod waits. -/
def State.writeOutAttempt (s : State) : State :=
  match s.capture.latch with
  | none => s
  | some l =>
    match s.openSlot with
    | none => s.scrapNoLot l
    | some slot =>
      if s.landing.length < landingCapacity then
        match (s.lot slot).bind fun lot => s.profile lot.profile with
        | some p => s.writeOut l slot p
        | none => s
      else s

/-! ## The ends of a rod (R25 to R28) -/

/-- Zero the curtain counters, dividers and overflow flags (R25, R26). -/
def State.clearChannels (s : State) : State := s.mapChannels fun _ ch => ch.clear

/-- The rod on the spreader ends at the present clock value (R26, R27): it is numbered, COUNTER_OVERFLOW is raised for an
overflowed channel, and it enters the free latch with a write-out attempt or is scrapped OVERRUN. The overflow flags are
zeroed here, as R26 says, where R30 lets them stand until the next HANG edge or disarming (DESIGN CHOICE, assumption
log 22). -/
def State.endRod (s : State) (noCut : Bool) : State :=
  let n := s.numberGiven
  let flags := s.capture.channels.map (·.overflow)
  let l : Latch := { number := n, hangTime := s.capture.hangTime, cutTime := s.clock,
                     counts := s.capture.channels.map (·.count), overflow := flags, noCut := noCut }
  let s1 := s.setCapture { s.capture with rodCounter := nextNumber n }
  let s2 := if flags.any id then s1.raise .counterOverflow n else s1
  let s3 := match s2.capture.latch with
    | none => (s2.setCapture { s2.capture with latch := some l }).writeOutAttempt
    | some _ => s2.scrapOverrun n s.clock
  s3.clearChannels

/-- A rod begins at this HANG edge (R25): hang time, counters zeroed, trim passed to the lot, HANGING. -/
def State.beginRod (s : State) : State :=
  let s1 := s.clearChannels.passTrim
  s1.setCapture { s1.capture with state := .hanging, hangTime := s.clock }

/-- A HANG edge (R25, R27, R28). -/
def State.hangEdge (s : State) : State :=
  match s.capture.state with
  | .disarmed => s.raiseNat .strayEdge 0
  | .idle => s.beginRod
  | .hanging => (s.endRod true).beginRod

/-- A CUT edge (R26, R28). -/
def State.cutEdge (s : State) : State :=
  match s.capture.state with
  | .disarmed => s.raiseNat .strayEdge 1
  | .idle => s.raiseNat .strayEdge 1
  | .hanging =>
    let s1 := s.endRod false
    s1.setCapture { s1.capture with state := .idle }

/-! ## CAPTURE READ (R43) -/

/-- The latch bytes: occupied, NO_CUT, OVERFLOW bits, then number, hang time and cut time, 0 when free (R198). -/
def latchImage : Option Latch → List Byte
  | none => beBytes 1 0 ++ be32 0 ++ be32 0 ++ be32 0
  | some l => beBytes 1 (flagBits [true, l.noCut, l.overflowed]) ++ be32 l.number ++ be32 l.hangTime ++ be32 l.cutTime

/-- The CAPTURE READ reply, 73 bytes (R43, R198). -/
def State.captureImage (s : State) : List Byte :=
  let c := s.capture
  beBytes 1 c.state.code ++ be32 (if c.state = .hanging then c.hangTime else 0)
    ++ c.channels.flatMap (fun ch => beBytes 4 ch.count) ++ beBytes 1 (flagBits (c.channels.map (·.overflow)))
    ++ c.channels.flatMap (fun ch => beBytes 4 ch.trim) ++ latchImage c.latch ++ be32 c.rodCounter
    ++ beBytes 1 s.landing.length
    ++ beBytes 1 (flagBits [s.spreaderHold, s.line.state != .running, decide (3 ≤ s.landing.length), s.gapPending,
                            s.openLot.isNone])

/-- CAPTURE READ (R43) changes nothing. -/
def captureReadOp (s : State) : State × Answer := (s, .ok s.captureImage)

/-! ## Meanings -/

/-- CAPTURE_READ (R43). -/
def execCaptureRead (s : State) : Host.Outcome State Fault Refusal := .next (s.serve 0x24 captureReadOp)

/-- CURTAIN_PULSE (R29 to R31). -/
def execCurtainPulse (channel : Nat) (s : State) : Host.Outcome State Fault Refusal :=
  if channel < 6 then .next (s.curtainPulse channel) else .refused (.illFormed "CURTAIN_PULSE")

end Sys2Proof.Machine
end

