-- ==== Sys2Proof/Machine/Grading.lean ====
section
/-! DEFINITION. The grading unit (R113 to R117): final accounting, disposition, divert lines, exit counts, report, and freeing. -/

namespace Sys2Proof.Machine

/-- Test 1 of R114: the marks include OPERATOR or UNCONDITIONED. -/
def Marks.rejects (m : Marks) : Bool := m.operator || m.unconditioned

/-- The marks of test 4 of R114. -/
def Marks.reviews (m : Marks) : Bool :=
  m.shortCurtain || m.estimated || m.outOfBand || m.crossProfile || m.noCut || m.overflow

/-- The disposition of a rod under its lot profile: the first test that holds (R114). -/
def disposition (p : Profile) (r : Rod) : Disposition :=
  if r.marks.rejects then .reject
  else if p.exitMax < r.moisture then .rework
  else if r.moisture < p.exitMin then .reject
  else if p.stressLimit < r.stress ∨ r.heat < p.minHeat ∨ r.marks.reviews = true then .review
  else .accept

/-- The disposition of a live rod. R20 keeps its lot and profile in place; a rod without them, which no run reaches, is
rejected. -/
def State.dispositionOf (s : State) (r : Rod) : Disposition :=
  match s.rodProfile r with
  | some p => disposition p r
  | none => .reject

/-- The zone that holds the last main-chain position (R107): the last zone. -/
def State.lastZone (s : State) : Nat := s.zones.length - 1

/-- The latch of a zone as it stands. -/
def State.zoneLatch (s : State) (z : Nat) : Bool :=
  match s.zones[z]? with
  | some zn => zn.latch
  | none => false

/-- The final accounting of an exiting rod by the zone that holds main position Q−1, with the latch as it stands (R107). -/
def State.finalAccount (s : State) (now : Word32) (r : Rod) : Rod :=
  s.accounted s.lastZone (s.zoneLatch s.lastZone) now r

/-- The ROD_EXIT report of a rod after its final accounting (R117). -/
def exitReport (lotId : Word32) (d : Disposition) (now : Word32) (r : Rod) : ReportBody :=
  .rodExit r.number lotId d r.moisture r.stress r.heat r.marks r.charge r.hangTime now

/-- Grading of a finally accounted rod, steps 3 to 7 of R113. -/
def State.gradeRod (s : State) (r : Rod) (now : Word32) : State :=
  let d := s.dispositionOf r
  let id := s.lotIdOf r.lotSlot
  let s1 := { s with divert := d }
  let s2 := s1.modLot r.lotSlot fun l => l.countExit d r.charge
  let s3 := s2.offerReport (exitReport id d now r) (some r.lotSlot) id
  let s4 := s3.setRods (s3.rods.filter fun x => x.number != r.number)
  let s5 := s4.modLot r.lotSlot fun l => { l with inTrain := l.inTrain - 1 }
  s5.drainCheck r.lotSlot

/-- Exit grading of the rod with a number at time `now` (R113). -/
def State.gradeExit (s : State) (number now : Word32) : State :=
  match s.rod number with
  | none => s
  | some r => s.gradeRod (s.finalAccount now r) now

end Sys2Proof.Machine
end

