-- ==== Sys2Proof/Machine/Chains.lean ====
section
/-! DEFINITION. The chain sequencers' parts (spec/03): issuing a step, the pre-chain and main-chain shifts, the hand-offs after a
shift, the sequencers at a change of the line state, and CHAIN READ. -/

namespace Sys2Proof.Machine

/-! ## Sequencer moves -/

/-- A sequencer as it enters a state: entry time, every timer stopped. -/
def Sequencer.enter (now : Word32) (st : ChainState) (q : Sequencer) : Sequencer :=
  { q with state := st, entered := now, intervalTimer := none, stepTimer := none, blockedTimer := none }

/-- The step interval of a chain in ticks (R170: 0.1 s units). -/
def State.intervalTicks (s : State) (c : Chain) : Nat :=
  match s.store.layout, c with
  | none, _ => 0
  | some l, .pre => l.preInterval * 10
  | some l, .main => l.mainInterval * 10

/-- The step timeout in ticks. -/
def State.stepTicks (s : State) : Nat :=
  match s.store.layout with
  | none => 0
  | some l => secondTicks l.stepTimeout

/-- The block limit in ticks. -/
def State.blockTicks (s : State) : Nat :=
  match s.store.layout with
  | none => 0
  | some l => secondTicks l.blockLimit

/-- A chain goes to STOPPED. -/
def State.stopChain (s : State) (c : Chain) : State := s.setSeq c ((s.seq c).enter s.clock .stopped)

/-- A chain goes to IDLE with its interval timer started (R47). -/
def State.idleChain (s : State) (c : Chain) : State :=
  s.setSeq c { (s.seq c).enter s.clock .idle with intervalTimer := some (s.intervalTicks c) }

/-- A chain goes to BLOCKED with its blocked timer started (R47). -/
def State.blockChain (s : State) (c : Chain) : State :=
  s.setSeq c { (s.seq c).enter s.clock .blocked with blockedTimer := some s.blockTicks }

/-- Issue a step: STEP asserted, step timeout started, STEPPING (R45). -/
def State.issueStep (s : State) (c : Chain) : State :=
  s.setSeq c { (s.seq c).enter s.clock .stepping with stepTimer := some s.stepTicks }

/-! ## The shifts (R52, R54, R55) -/

/-- A row of positions after a shift: `x` enters position 0, every content moves up by one, the last leaves. -/
def shiftIn (x : Option Word32) (ps : List (Option Word32)) : List (Option Word32) := (x :: ps).dropLast

/-- The location of a rod after a pre-chain shift with P positions and `n` rods in the buffer before it (R4, R52). -/
def preMove (p n : Nat) : Location → Location
  | .landing 0 => .pre 0
  | .landing (i + 1) => .landing i
  | .pre q => if q + 1 = p then .buffer n else .pre (q + 1)
  | .buffer i => .buffer i
  | .main q => .main q

/-- The location of a rod after a main-chain shift (R4, R55). -/
def mainMove : Location → Location
  | .landing i => .landing i
  | .pre q => .pre q
  | .buffer 0 => .main 0
  | .buffer (i + 1) => .buffer i
  | .main q => .main (q + 1)

/-- Rewrite the location of every live rod. -/
def State.relocate (s : State) (f : Location → Location) : State :=
  s.setRods (s.rods.map fun r => { r with location := f r.location })

/-- Steps 1 to 3 of R52: the rod at P−1 joins the buffer, the pre chain moves up by one, the landing head enters position 0. -/
def State.movePre (s : State) : State :=
  { s.relocate (preMove s.preChain.length s.buffer.length) with
    buffer := s.buffer ++ (lastRod s.preChain).toList
    preChain := shiftIn s.landing.head? s.preChain
    landing := s.landing.tail }

/-- A pre-chain shift that leaves position 0 a gap counts down the OPEN lot's gap pending count (R54). -/
def State.countGap (s : State) : State :=
  match s.openSlot with
  | none => s
  | some slot => s.modLot slot fun l => { l with gapPending := l.gapPending - 1 }

/-- The pre-chain shift (R52): the moves, the gap counting, then a write-out attempt while the latch is occupied. -/
def State.preShift (s : State) : State :=
  let s1 := s.movePre
  let s2 := if s.landing.isEmpty then s1.countGap else s1
  s2.writeOutAttempt

/-- Steps 2 and 3 of R55: the main chain moves up by one and the buffer head enters position 0. -/
def State.moveMain (s : State) : State :=
  { s.relocate mainMove with
    mainChain := shiftIn s.buffer.head? s.mainChain
    buffer := s.buffer.tail }

/-- The main-chain shift at the present clock value (R55): the rod at Q−1 is graded, then the moves. -/
def State.mainShift (s : State) : State :=
  let s1 := match lastRod s.mainChain with
    | some n => s.gradeExit n s.clock
    | none => s
  s1.moveMain

/-- The shift of a chain. -/
def State.shift (s : State) : Chain → State
  | .pre => s.preShift
  | .main => s.mainShift

/-! ## Hand-offs (R56) -/

/-- A BLOCKED chain whose take condition holds issues its step (R49). -/
def State.releaseBlocked (s : State) (c : Chain) : State :=
  if (s.seq c).state = .blocked ∧ s.takeCondition c = true then s.issueStep c else s

/-- The hand-offs after a shift of chain c (R56): adoption on the shifted chain, economy timers, wakes, run-out conditions of the
zones (R86), and after a main shift that took the buffer's head the release of a BLOCKED pre chain. SPREADER HOLD is a function of
the state and follows by itself. Zones act in index order at each of these, which the rules leave open (DESIGN CHOICE,
assumption log 23). -/
def State.handOff (s : State) (c : Chain) (tookBuffer : Bool) : State :=
  let s1 := s.eachZone (State.adopt c)
  let s2 := s1.followEconomy.eachZone State.wakeZone
  let s3 := s2.eachZone State.runOutZone
  if c = .main ∧ tookBuffer = true then s3.releaseBlocked .pre else s3

/-- Count one shift of a chain and record its time (R51). -/
def State.countShift (s : State) (c : Chain) : State :=
  s.setSeq c { s.seq c with shiftCount := (s.seq c).shiftCount + 1, lastShift := s.clock }

/-- Apply a chain's shift, make its hand-offs, and count it (R51, R59, R60). -/
def State.applyShift (s : State) (c : Chain) : State :=
  ((s.shift c).handOff c (!s.buffer.isEmpty)).countShift c

/-! ## The sequencers at a change of the line state (R46, R50) -/

/-- The run-out rule for a chain in IDLE or BLOCKED (R50). -/
def State.runOutChain (s : State) (c : Chain) : State :=
  if ((s.seq c).state = .idle ∨ (s.seq c).state = .blocked) ∧ s.emptyUpTo c = true then s.stopChain c else s

/-- A chain follows the line's new state: STOPPED goes to IDLE at the entry to RUNNING, IDLE and BLOCKED go to STOPPED where steps are
no longer allowed, the run-out rule is applied at the entry to RUN_OUT; STEPPING and JAMMED stay (R46, R50, R62). -/
def State.followChain (s : State) (c : Chain) : State :=
  match s.line.state with
  | .running => if (s.seq c).state = .stopped then s.idleChain c else s
  | .runOut => s.runOutChain c
  | .init | .unconfigured | .cold | .starting | .hold | .shutdown =>
    if (s.seq c).state = .idle ∨ (s.seq c).state = .blocked then s.stopChain c else s

/-! ## CHAIN READ (R63) -/

/-- The chain that a chain code names; codes above 1 name none (R60, R63). -/
def chainOfCode (code : Byte) : Option Chain :=
  match code.toNat with
  | 0 => some .pre
  | 1 => some .main
  | _ => none

/-- The level of STRIP READY as CHAIN READ gives it: 0 for the pre chain (R63). -/
def State.stripLevel (s : State) : Chain → Bool
  | .pre => false
  | .main => s.pins.stripReady

/-- The CHAIN READ reply, 19 bytes (R63, R198). -/
def State.chainImage (s : State) (c : Chain) : List Byte :=
  let q := s.seq c
  beBytes 1 (chainCode c) ++ beBytes 1 q.state.code
    ++ beBytes 1 (flagBits [q.lateApplied, s.stepOut c, s.takeCondition c, s.stripLevel c])
    ++ beBytes 2 (s.positions c).length ++ beBytes 2 (rodCount (s.positions c)) ++ be32 q.shiftCount ++ be32 q.lastShift
    ++ be32 q.entered

/-- CHAIN READ (R63) changes nothing. -/
def chainReadOp (chain : Byte) (s : State) : State × Answer :=
  match chainOfCode chain with
  | none => (s, .badValue 0)
  | some c => (s, .ok (s.chainImage c))

/-- CHAIN_READ (R63). -/
def execChainRead (chain : Byte) (s : State) : Host.Outcome State Fault Refusal := .next (s.serve 0x22 (chainReadOp chain))

end Sys2Proof.Machine
end

