-- ==== Sys2Proof/Machine/Line.lean ====
section
/-! DEFINITION. The line state machine (spec/07): the change of line state and what follows it, the automatic changes, the
line requests, and the meanings of the events that a run-out's completion may follow. -/

namespace Sys2Proof.Machine

/-! ## Changes of line state (R132) -/

/-- A line-level state as the line enters a state: entry time, no start-up phase, and no hold in force outside HOLD (R131). -/
def Line.enter (now : Word32) (st : LineState) : Line :=
  { state := st, phase := none, holdMask := 0, holdOrigin := .noHold, entered := now }

/-- A change of line state (R132): capture arms or disarms, the chains follow, tick and economy timers follow, LINE_STATE is
raised. SPREADER HOLD is a function of the state. -/
def State.changeLine (s : State) (new : LineState) : State :=
  let s1 := s.setLine (Line.enter s.clock new)
  let s2 := s1.followCapture s.line.state
  let s3 := (s2.followChain .pre).followChain .main
  s3.followTicks.followEconomy.raiseNat .lineState new.code

/-- A line in RUN_OUT whose completion condition holds goes to COLD (R147). -/
def State.settle (s : State) : State :=
  if s.line.state = .runOut ∧ s.runOutDone = true then s.changeLine .cold else s

/-- A line in STARTING whose zones are all CONDITIONED goes to RUNNING (R141). -/
def State.tryRunning (s : State) : State :=
  if s.line.state = .starting ∧ s.allZones .conditioned = true then s.changeLine .running else s

/-! ## Holds (R142 to R144) -/

/-- The line states in which a line hold is taken: STARTING, RUNNING, RUN_OUT (R142). -/
def LineState.holdable : LineState → Bool
  | .starting => true | .running => true | .runOut => true
  | .init => false | .unconfigured => false | .cold => false | .hold => false | .shutdown => false

/-- The line goes to HOLD with a mask and an origin, and the zones act on the mask (R142). -/
def State.holdLine (s : State) (mask : BitVec 10) (origin : HoldOrigin) : State :=
  let s1 := s.changeLine .hold
  (s1.setLine { s1.line with holdMask := mask, holdOrigin := origin }).holdZones mask

/-- The working layout's default hold mask (R143, R144). -/
def State.defaultMask (s : State) : BitVec 10 :=
  match s.store.layout with
  | none => 0
  | some l => BitVec.ofNat 10 l.defaultMask

/-- The new line state that a taken line request replies with (R138). -/
def State.lineCodeByte (s : State) : List Byte := beBytes 1 s.line.state.code

/-- A taken line request's new state with its reply (R138). -/
def lineTaken (s : State) : State × Answer := (s, .ok s.lineCodeByte)

/-- LINE HOLD from the host (R142). The mask is the set of zone indices 0..9 that the request names (DEDUCED, log 6). -/
def lineHoldOp (mask : BitVec 16) (s : State) : State × Answer :=
  if s.line.state.holdable then lineTaken (s.holdLine (mask.setWidth 10) .host) else (s, .refuse .notNow)

/-- A broadcast LINE HOLD (R143): the default mask, no reply, ignored in every other line state. -/
def State.broadcastHold (s : State) : State :=
  if s.line.state.holdable then s.holdLine s.defaultMask .broadcast else s

/-! ## LINE START (R139, R140) -/

/-- The refusal of a LINE START by the first failing check; none where it is taken (R138, R139). -/
def State.lineStartRefusal (s : State) : Option Status :=
  if s.line.state ≠ .cold ∧ s.line.state ≠ .shutdown then some .notNow
  else match s.openLot with
    | none => some .noLot
    | some l =>
      if (s.profile l.profile).isNone then some .badProfile
      else if s.table.all (· == 0) then some .badTable
      else none

/-- The effect of LINE START under the OPEN lot's profile (R77, R140). -/
def State.startLine (s : State) (p : Nat) : State :=
  (((s.changeLine .starting).governAll p).eachZone State.startZone).tryRunning

/-- LINE START (R139, R140). -/
def lineStartOp (s : State) : State × Answer :=
  match s.lineStartRefusal, s.openLot with
  | some st, _ => (s, .refuse st)
  | none, none => (s, .refuse .noLot)
  | none, some l => lineTaken (s.startLine l.profile)

/-! ## LINE RELEASE, LINE RUN-OUT, LINE SHUTDOWN (R145, R146, R148) -/

/-- The effect of LINE RELEASE (R145). -/
def State.releaseLine (s : State) : State :=
  ((s.changeLine .starting).eachZone State.releaseZone).tryRunning

/-- LINE RELEASE (R145). -/
def lineReleaseOp (s : State) : State × Answer :=
  if s.line.state = .hold then lineTaken s.releaseLine else (s, .refuse .notNow)

/-- The effect of LINE RUN-OUT (R146): the OPEN lot is closed, the line goes to RUN_OUT, chains and zones test their run-out
conditions, then the completion condition is tested. -/
def State.runOutLine (s : State) : State :=
  ((s.closeOpenLot.changeLine .runOut).eachZone State.runOutZone).settle

/-- LINE RUN-OUT (R146): refused NOT_NOW outside RUNNING and while a chain is JAMMED. -/
def lineRunOutOp (s : State) : State × Answer :=
  if s.line.state ≠ .running then (s, .refuse .notNow)
  else if s.preSeq.state = .jammed ∨ s.mainSeq.state = .jammed then (s, .refuse .notNow)
  else
    let s1 := s.runOutLine
    (s1, .ok (s1.lineCodeByte ++ be32 s.openLotId))

/-- The line states in which LINE SHUTDOWN is taken (R148). -/
def LineState.shuttable : LineState → Bool
  | .starting => true | .running => true | .hold => true | .runOut => true
  | .init => false | .unconfigured => false | .cold => false | .shutdown => false

/-- The effect of LINE SHUTDOWN (R148). -/
def State.shutLine (s : State) : State := (s.changeLine .shutdown).shutZones

/-- LINE SHUTDOWN (R148). -/
def lineShutdownOp (s : State) : State × Answer :=
  if s.line.state.shuttable then lineTaken s.shutLine else (s, .refuse .notNow)

/-! ## ZONE RESTART (R89) -/

/-- ZONE RESTART (R89): NOT_NOW in UNCONFIGURED, BAD_VALUE for a zone index at or beyond the zone count, NOT_NOW for a zone that is not
FAILED. -/
def zoneRestartOp (zone : Byte) (s : State) : State × Answer :=
  if s.line.state = .unconfigured then (s, .refuse .notNow)
  else match s.zones[zone.toNat]? with
    | none => (s, .badValue 0)
    | some zn =>
      if zn.state = .failed then ((s.restartZone zone.toNat).settle, .ok []) else (s, .refuse .notNow)

/-! ## Meanings -/

/-- LINE_START (R139, R140). -/
def execLineStart (s : State) : Host.Outcome State Fault Refusal := .next (s.serve 0x10 lineStartOp)

/-- LINE_HOLD (R142). -/
def execLineHold (mask : BitVec 16) (s : State) : Host.Outcome State Fault Refusal := .next (s.serve 0x11 (lineHoldOp mask))

/-- LINE_RELEASE (R145). -/
def execLineRelease (s : State) : Host.Outcome State Fault Refusal := .next (s.serve 0x12 lineReleaseOp)

/-- LINE_RUN_OUT (R146). -/
def execLineRunOut (s : State) : Host.Outcome State Fault Refusal := .next (s.serve 0x13 lineRunOutOp)

/-- LINE_SHUTDOWN (R148). -/
def execLineShutdown (s : State) : Host.Outcome State Fault Refusal := .next (s.serve 0x14 lineShutdownOp)

/-- ZONE_RESTART (R89). -/
def execZoneRestart (zone : Byte) (s : State) : Host.Outcome State Fault Refusal :=
  .next (s.serve 0x21 (zoneRestartOp zone))

/-- HANG (R25, R27, R28). -/
def execHang (s : State) : Host.Outcome State Fault Refusal := .next s.hangEdge.settle

/-- CUT (R26, R28). -/
def execCut (s : State) : Host.Outcome State Fault Refusal := .next s.cutEdge.settle

/-- ZONE_TICK (R73, R105). -/
def execZoneTick (zone : Nat) (s : State) : Host.Outcome State Fault Refusal :=
  if zone < 10 then .next (s.zoneTick zone) else .refused (.illFormed "ZONE_TICK")

/-- ECONOMY_TIMER_EXPIRY (R81). -/
def execEconomyTimerExpiry (zone : Nat) (s : State) : Host.Outcome State Fault Refusal :=
  if zone < 10 then .next (s.economyExpiry zone) else .refused (.illFormed "ECONOMY_TIMER_EXPIRY")

/-- RAMP_LIMIT_EXPIRY (R79). -/
def execRampLimitExpiry (zone : Nat) (s : State) : Host.Outcome State Fault Refusal :=
  if zone < 10 then .next (s.rampExpiry zone).settle else .refused (.illFormed "RAMP_LIMIT_EXPIRY")

/-- PURGE_TIMER_EXPIRY (R87, R147). -/
def execPurgeTimerExpiry (zone : Nat) (s : State) : Host.Outcome State Fault Refusal :=
  if zone < 10 then .next (s.purgeExpiry zone).settle else .refused (.illFormed "PURGE_TIMER_EXPIRY")

/-- SPACING_TIMER_EXPIRY (R75). -/
def execSpacingTimerExpiry (s : State) : Host.Outcome State Fault Refusal := .next s.spacingExpiry

end Sys2Proof.Machine
end

