-- ==== Sys2Proof/Machine/Motion.lean ====
section
/-! DEFINITION. The chains' events (R47 to R51, R57 to R62) and CHAIN CLEAR (R60). -/

namespace Sys2Proof.Machine

/-! ## Completions (R51, R59, R61) -/

/-- The input code of a chain's STEP DONE (table Input codes, R23). -/
def stepDoneCode : Chain → Nat
  | .pre => 2
  | .main => 3

/-- The next state of a chain after its shift (R51): STOPPED where the line does not allow steps or the run-out rule holds,
IDLE otherwise. -/
def State.afterStep (s : State) (c : Chain) : State :=
  if s.line.state.steps = false ∨ (s.line.state = .runOut ∧ s.emptyUpTo c = true) then s.stopChain c else s.idleChain c

/-- Set or clear a chain's late-applied flag. -/
def State.setLate (s : State) (c : Chain) (b : Bool) : State := s.setSeq c { s.seq c with lateApplied := b }

/-- A rising edge of a chain's STEP DONE: completion in STEPPING, late completion in JAMMED with the flag clear, else stray
(R51, R59, R61). -/
def State.stepDone (s : State) (c : Chain) : State :=
  match (s.seq c).state with
  | .stepping => (s.applyShift c).afterStep c
  | .jammed =>
    if (s.seq c).lateApplied then s.raiseNat .strayEdge (stepDoneCode c)
    else ((s.applyShift c).setLate c true).raiseNat .lateStep (chainCode c)
  | .stopped => s.raiseNat .strayEdge (stepDoneCode c)
  | .idle => s.raiseNat .strayEdge (stepDoneCode c)
  | .blocked => s.raiseNat .strayEdge (stepDoneCode c)

/-! ## Timers of a chain (R47, R49, R57) -/

/-- The interval timer expires in IDLE: the run-out rule in RUN_OUT, then a step or BLOCKED by the take condition (R47, R50). -/
def State.intervalExpiry (s : State) (c : Chain) : State :=
  if (s.seq c).state = .idle then
    if s.line.state = .runOut ∧ s.emptyUpTo c = true then s.stopChain c
    else if s.takeCondition c then s.issueStep c
    else s.blockChain c
  else s

/-- The step timeout expires in STEPPING: JAMMED with the flag clear, CHAIN_JAM, and an automatic hold in RUNNING and RUN_OUT
(R57, R144). -/
def State.stepTimeout (s : State) (c : Chain) : State :=
  if (s.seq c).state = .stepping then
    let s1 := s.setSeq c { (s.seq c).enter s.clock .jammed with lateApplied := false }
    let s2 := s1.raiseNat .chainJam (chainCode c)
    if s.line.state.steps then s2.holdLine s2.defaultMask (.jam c) else s2
  else s

/-- The blocked timer reaches the block limit in BLOCKED: CHAIN_BLOCKED once in the episode (R49). -/
def State.blockLimit (s : State) (c : Chain) : State :=
  if (s.seq c).state = .blocked ∧ (s.seq c).blockedTimer.isSome = true then
    (s.setSeq c { s.seq c with blockedTimer := none }).raiseNat .chainBlocked (chainCode c)
  else s

/-- STRIP READY changes; a rise lets a BLOCKED main chain issue its step (R48, R49). -/
def State.stripReadyChange (s : State) (level : Bool) : State :=
  let s1 := s.setPins { s.pins with stripReady := level }
  if level then s1.releaseBlocked .main else s1

/-! ## CHAIN CLEAR (R60) -/

/-- A shift is applied by a CHAIN CLEAR: the late-applied flag is clear and moved is yes (R60). -/
def Sequencer.clearShifts (q : Sequencer) (moved : Byte) : Bool := !q.lateApplied && moved == 1

/-- The end of a jam (R60): the shift where the request applies it, the flag cleared, IDLE where the line allows steps, else
STOPPED. -/
def State.clearJam (s : State) (c : Chain) (moved : Byte) : State :=
  let s1 := if (s.seq c).clearShifts moved then s.applyShift c else s
  let s2 := s1.setLate c false
  if s2.line.state.steps then s2.idleChain c else s2.stopChain c

/-- CHAIN CLEAR (R60): BAD_VALUE for a chain code above 1 or a moved byte above 1, NOT_NOW for a chain that is not JAMMED; the
reply says whether this request applied a shift, and the chain's new state. With both bytes above 1 the chain code is named (DEDUCED,
assumption log 14). -/
def chainClearOp (chain moved : Byte) (s : State) : State × Answer :=
  match chainOfCode chain with
  | none => (s, .badValue 0)
  | some c =>
    if 1 < moved.toNat then (s, .badValue 1)
    else if (s.seq c).state ≠ .jammed then (s, .refuse .notNow)
    else
      let s1 := s.clearJam c moved
      (s1.settle, .ok [flagByte ((s.seq c).clearShifts moved), BitVec.ofNat 8 (s1.seq c).state.code])

/-! ## Meanings -/

/-- STEP_DONE (R51, R59, R61). -/
def execStepDone (chain : Chain) (s : State) : Host.Outcome State Fault Refusal := .next (s.stepDone chain).settle

/-- STRIP_READY_CHANGE (R48, R49). -/
def execStripReadyChange (level : Bool) (s : State) : Host.Outcome State Fault Refusal := .next (s.stripReadyChange level)

/-- INTERVAL_EXPIRY (R47, R50). -/
def execIntervalExpiry (chain : Chain) (s : State) : Host.Outcome State Fault Refusal :=
  .next (s.intervalExpiry chain).settle

/-- STEP_TIMEOUT (R57, R144). -/
def execStepTimeout (chain : Chain) (s : State) : Host.Outcome State Fault Refusal := .next (s.stepTimeout chain)

/-- BLOCK_LIMIT (R49). -/
def execBlockLimit (chain : Chain) (s : State) : Host.Outcome State Fault Refusal := .next (s.blockLimit chain)

/-- CHAIN_CLEAR (R60). -/
def execChainClear (chain moved : Byte) (s : State) : Host.Outcome State Fault Refusal :=
  .next (s.serve 0x23 (chainClearOp chain moved))

end Sys2Proof.Machine
end

