-- ==== Sys2Proof/Machine/Train.lean ====
section
/-! DEFINITION. Reading and marking rods: ROD READ, ROD MARK and TRAIN READ (R18 to R21). -/

namespace Sys2Proof.Machine

/-- The location bytes: TRAIN READ part code and index or position (R198). -/
def locationImage : Location → List Byte
  | .landing i => beBytes 1 0 ++ beBytes 2 i
  | .pre p => beBytes 1 1 ++ beBytes 2 p
  | .buffer i => beBytes 1 2 ++ beBytes 2 i
  | .main q => beBytes 1 3 ++ beBytes 2 q

/-- The charge bytes: value and flags, bit 0 set when absent, the value of an absent charge 0 (R2, R198). -/
def chargeImage : Option Nat → List Byte
  | none => beBytes 2 0 ++ beBytes 1 1
  | some g => beBytes 2 g ++ beBytes 1 0

/-- The ROD READ reply, 61 bytes (R18, R198). -/
def rodImage (lotId : Word32) (r : Rod) : List Byte :=
  be32 r.number ++ beBytes 1 r.lotSlot ++ be32 lotId ++ be32 r.hangTime ++ be32 r.cutTime ++ r.counts.flatMap (beBytes 4)
    ++ chargeImage r.charge ++ beBytes 4 r.moisture ++ beBytes 1 r.stress ++ beBytes 4 r.heat ++ be32 r.lastAccounted
    ++ beBytes 1 r.marks.bits ++ locationImage r.location

/-- The answer of ROD READ: BAD_VALUE for 0, NOT_FOUND without a live rod (R18). -/
def State.rodReadAnswer (s : State) (number : Word32) : Answer :=
  if number = 0 then .badValue 0
  else match s.rod number with
    | none => .refuse .notFound
    | some r => .ok (rodImage (s.lotIdOf r.lotSlot) r)

/-- ROD READ (R18) changes nothing. -/
def rodReadOp (number : Word32) (s : State) : State × Answer := (s, s.rodReadAnswer number)

/-- The OPERATOR mark set on the rod with a number (R19). -/
def State.markRod (s : State) (number : Word32) : State :=
  s.setRods (s.rods.map fun r =>
    if r.number = number then { r with marks := { r.marks with operator := true } } else r)

/-- ROD MARK (R19). -/
def rodMarkOp (number : Word32) (s : State) : State × Answer :=
  if number = 0 then (s, .badValue 0)
  else if (s.rod number).isNone then (s, .refuse .notFound)
  else (s.markRod number, .ok [])

/-- The places of a part of the train, in place order (table Train part codes, R21): a queue is as long as its occupancy. -/
def State.trainPart (s : State) (part : Nat) : List (Option Word32) :=
  match part with
  | 0 => s.landing.map some
  | 1 => s.preChain
  | 2 => s.buffer.map some
  | _ => s.mainChain

/-- The entries of a range, clamped to the part's last place (R21). -/
def trainRange (places : List (Option Word32)) (first count : Nat) : List (Option Word32) :=
  (places.drop first).take count

/-- The answer of TRAIN READ (R21): NOT_NOW in UNCONFIGURED, BAD_VALUE for a part above 3 or a count of 0 or above 48. With both out of
range the part code is named (DEDUCED, assumption log 14). -/
def State.trainReadAnswer (s : State) (part : Byte) (first : BitVec 16) (count : Byte) : Answer :=
  if 3 < part.toNat then .badValue 0
  else if count.toNat = 0 ∨ 48 < count.toNat then .badValue 3
  else if s.line.state = .unconfigured then .refuse .notNow
  else
    let places := s.trainPart part.toNat
    let range := trainRange places first.toNat count.toNat
    .ok (beBytes 1 part.toNat ++ beBytes 2 first.toNat ++ beBytes 1 range.length ++ beBytes 2 (rodCount places)
      ++ range.flatMap fun p => be32 (p.getD 0))

/-- TRAIN READ (R21) changes nothing. -/
def trainReadOp (part : Byte) (first : BitVec 16) (count : Byte) (s : State) : State × Answer :=
  (s, s.trainReadAnswer part first count)

/-- ROD_READ (R18). -/
def execRodRead (number : Word32) (s : State) : Host.Outcome State Fault Refusal := .next (s.serve 0x33 (rodReadOp number))

/-- ROD_MARK (R19). -/
def execRodMark (number : Word32) (s : State) : Host.Outcome State Fault Refusal := .next (s.serve 0x34 (rodMarkOp number))

/-- TRAIN_READ (R21). -/
def execTrainRead (part : Byte) (first : BitVec 16) (count : Byte) (s : State) : Host.Outcome State Fault Refusal :=
  .next (s.serve 0x35 (trainReadOp part first count))

end Sys2Proof.Machine
end

