-- ==== Sys2Proof/Machine/Notices.lean ====
section
/-! DEFINITION. The requests of the notice unit and the report queue: NOTICE FETCH, NOTICE ENABLE, REPORT READ, REPORT RELEASE
(R180 to R188). -/

namespace Sys2Proof.Machine

/-! ## NOTICE FETCH (R182) -/

/-- The age of a pending kind: the clock less its first time, modulo 2^32; 0 where it is not pending (R182). -/
def State.noticeAge (s : State) (k : Nat) : Nat :=
  match s.notices.records.getD k none with
  | some n => (s.clock - n.time).toNat
  | none => 0

/-- Kind a is presented before kind b: the higher group, then the greater age, then the lower number (R182). -/
def State.noticeBefore (s : State) (a b : Nat) : Bool :=
  if noticeGroup a ≠ noticeGroup b then decide (noticeGroup b < noticeGroup a)
  else if s.noticeAge a ≠ s.noticeAge b then decide (s.noticeAge b < s.noticeAge a)
  else decide (a < b)

/-- The kinds that are pending and enabled, in number order. -/
def State.fetchable (s : State) : List Nat :=
  (List.range 20).filter fun k => s.noticePending k && s.noticeEnabled k

/-- The kind that NOTICE FETCH selects (R182). -/
def State.fetchKind (s : State) : Option Nat :=
  s.fetchable.foldl (fun best k => match best with
    | none => some k
    | some b => if s.noticeBefore k b then some k else some b) none

/-- Clear the record of a kind (R182). -/
def State.clearNotice (s : State) (k : Nat) : State :=
  s.setNotices { s.notices with records := s.notices.records.set k none }

/-- NOTICE FETCH (R182): the selected kind's record and the two remaining counts; the kind is cleared. -/
def noticeFetchOp (s : State) : State × Answer :=
  match s.fetchKind with
  | none =>
    (s, .ok (beBytes 1 0xFF ++ beBytes 1 0 ++ beBytes 1 0 ++ be32 0 ++ be32 0 ++ beBytes 1 s.enabledPending
      ++ beBytes 1 s.disabledPending))
  | some k =>
    let s1 := s.clearNotice k
    let n := (s.notices.records.getD k none).getD { count := 0, detail := 0, time := 0 }
    (s1, .ok (beBytes 1 k ++ beBytes 1 (noticeGroup k) ++ beBytes 1 n.count ++ be32 n.detail ++ be32 n.time
      ++ beBytes 1 s1.enabledPending ++ beBytes 1 s1.disabledPending))

/-- NOTICE ENABLE (R180): the enable set is replaced; kinds above 19 are ignored; the reply carries the set as taken. -/
def noticeEnableOp (kinds : BitVec 32) (s : State) : State × Answer :=
  (s.setNotices { s.notices with enabled := kinds.setWidth 20 }, .ok (beBytes 4 (kinds.setWidth 20).toNat))

/-! ## Reports (R187, R188) -/

/-- The kind code of a report (R198). -/
def ReportBody.kind : ReportBody → Nat
  | .rodExit _ _ _ _ _ _ _ _ _ _ => 1
  | .rodScrap _ _ _ _ => 2
  | .lotSummary _ _ _ => 3

/-- The body bytes of a report (R198, table Report bodies). -/
def ReportBody.image : ReportBody → List Byte
  | .rodExit number lot d moisture stress heat marks charge hangTime exitTime =>
    be32 number ++ be32 lot ++ beBytes 1 d.laneCode ++ beBytes 4 moisture ++ beBytes 1 stress ++ beBytes 4 heat
      ++ beBytes 1 marks.bits ++ chargeImage charge ++ be32 hangTime ++ be32 exitTime
  | .rodScrap number lot reason cutTime => be32 number ++ be32 lot ++ beBytes 1 reason.code ++ be32 cutTime
  | .lotSummary slot l drainTime =>
    be32 l.id ++ beBytes 1 slot ++ beBytes 1 l.profile ++ be32 l.born ++ be32 l.scrapped ++ be32 l.accepted
      ++ be32 l.reviewed ++ be32 l.reworked ++ be32 l.rejected ++ beBytes 4 l.acceptedCharge ++ beBytes 4 l.trimTotal
      ++ be32 l.firstRod ++ be32 l.lastRod ++ beBytes 1 l.gapPending ++ beBytes 2 l.reportsLost ++ be32 drainTime

/-- A report as REPORT READ sends it: kind, sequence number, body (R198). -/
def Report.image (r : Report) : List Byte := beBytes 1 r.body.kind ++ beBytes 2 r.sequence.toNat ++ r.body.image

/-- REPORT READ (R187): occupancy, and the up to four oldest reports, head first; changes nothing. -/
def reportReadOp (s : State) : State × Answer :=
  let four := s.reports.reports.take 4
  (s, .ok (beBytes 2 s.reports.reports.length ++ beBytes 1 four.length ++ four.flatMap Report.image))

/-- The sequence number of the head, or the next to be given when the queue is empty (R188). -/
def ReportQueue.headSequence (q : ReportQueue) : BitVec 16 :=
  match q.reports.head? with
  | some r => r.sequence
  | none => q.nextSequence

/-- REPORT RELEASE (R188): the smaller of n and the occupancy leave the head. -/
def reportReleaseOp (count : Byte) (s : State) : State × Answer :=
  let n := min count.toNat s.reports.reports.length
  let q : ReportQueue := { s.reports with reports := s.reports.reports.drop n }
  (s.setReports q, .ok (beBytes 1 n ++ beBytes 2 q.reports.length ++ beBytes 2 q.headSequence.toNat))

/-! ## Meanings -/

/-- NOTICE_FETCH (R182): taken in every line state. -/
def execNoticeFetch (s : State) : Host.Outcome State Fault Refusal := .next (s.serveAlways 0x42 noticeFetchOp)

/-- NOTICE_ENABLE (R180). -/
def execNoticeEnable (kinds : BitVec 32) (s : State) : Host.Outcome State Fault Refusal :=
  .next (s.serve 0x43 (noticeEnableOp kinds))

/-- REPORT_READ (R187). -/
def execReportRead (s : State) : Host.Outcome State Fault Refusal := .next (s.serve 0x40 reportReadOp)

/-- REPORT_RELEASE (R188). -/
def execReportRelease (count : Byte) (s : State) : Host.Outcome State Fault Refusal :=
  .next (s.serve 0x41 (reportReleaseOp count))

end Sys2Proof.Machine
end

