-- ==== Sys2Proof/Config.lean ====
section
/-! DEFINITION. What one part fixes and the manual leaves open: the FREE VALUES of the model. Each is a constant
without a body, so nothing can be proved of its value. -/

namespace Sys2Proof

/-- FREE VALUE. Whether the prepared reply begins (LINK DE is asserted) at the next tick of the line clock. R192 says
only that a reply is sent within 20 ms of its request, so the tick at which it begins is left open inside
that bound; the argument is the State's counter of free values (assumption log 5). -/
opaque Config.replyBegins : Nat → Bool

/-- FREE VALUE. The command byte of the quiet command. R162 says that the master sends one command byte to the general address, and no
rule gives its value (assumption log 27). -/
opaque Config.quietCommand : Byte

end Sys2Proof
end

