-- ==== Sys2Proof/WellFormed.lean ====
section
/-! DEFINITION. Which commands are well formed: the checks the constructors' types do not make themselves. An ill-formed
command names no event of the part; its meaning refuses it by name (`Refusal.illFormed`), except where the link
gives the wrong length a reply of its own (PROFILE WRITE, TABLE WRITE, LAYOUT WRITE: BAD_LENGTH, R192). -/

namespace Sys2Proof

/-- The request codes of the table of request codes with their payload lengths (spec/11, Request codes). -/
def requestLength (code : Byte) : Option Nat :=
  match code.toNat with
  | 0x01 => some 0 | 0x02 => some 0 | 0x03 => some 4 | 0x04 => some 0 | 0x05 => some 0
  | 0x10 => some 0 | 0x11 => some 2 | 0x12 => some 0 | 0x13 => some 0 | 0x14 => some 0
  | 0x20 => some 1 | 0x21 => some 1 | 0x22 => some 1 | 0x23 => some 2 | 0x24 => some 0
  | 0x30 => some 6 | 0x31 => some 0 | 0x32 => some 4 | 0x33 => some 4 | 0x34 => some 4 | 0x35 => some 4
  | 0x40 => some 0 | 0x41 => some 1 | 0x42 => some 0 | 0x43 => some 4
  | 0x50 => some 1 | 0x51 => some 216 | 0x52 => some 1 | 0x53 => some 1 | 0x54 => some 43
  | 0x55 => some 0 | 0x56 => some 63
  | 0x60 => some 1 | 0x61 => some 0 | 0x62 => some 0
  | _ => none

/-- A reflection's distance count lies in 0..511 (R162). -/
def Reflection.wellFormed : Reflection → Bool
  | .nothing => true
  | .sameSense n => n ≤ 511
  | .oppositeSense n => n ≤ 511

/-- A command is well formed: channel 0..5 (R23), zone index 0..9 (R65), profile image of 215 bytes and layout image of
63 bytes (R198), 21 table entries (R169), block of 512 bytes (R171), a payload of at most 240 bytes (R191), an
unknown request code outside the table (R192). -/
def Instr.wellFormed : Instr → Bool
  | .curtainPulse c => c < 6
  | .zoneTick z => z < 10
  | .economyTimerExpiry z => z < 10
  | .rampLimitExpiry z => z < 10
  | .purgeTimerExpiry z => z < 10
  | .profileWrite _ image => image.length = 215
  | .layoutWrite image => image.length = 63
  | .tableWrite _ entries => entries.length = 21
  | .loadBlockRead bytes => bytes.length = 512
  | .lineCheckEnd r => r.wellFormed
  | .frameHeldPending f => f.payload.length ≤ 240
  | .unknownRequest code => (requestLength code).isNone
  | .identify | .status | .timeSet _ | .broadcastTimeSet _ | .timeRead | .reset | .softReset _ _ | .powerOnReset _ _
  | .lineStart | .lineHold _ | .broadcastLineHold _ | .lineRelease | .lineRunOut | .lineShutdown | .zoneRead _
  | .zoneRestart _ | .chainRead _ | .chainClear _ _ | .captureRead | .lotOpen _ _ _ | .lotClose | .lotRead _ | .rodRead _
  | .rodMark _ | .trainRead _ _ _ | .reportRead | .reportRelease _ | .noticeFetch | .noticeEnable _ | .profileRead _
  | .profileErase _ | .tableRead _ | .layoutRead | .probeRead _ | .lineCheck | .lineCheckResult | .frameDiscarded
  | .byteGap | .replyEnd | .hang | .cut | .stepDone _ | .stripReadyChange _ | .intervalExpiry _ | .stepTimeout _
  | .blockLimit _ | .spacingTimerExpiry | .poll _ | .pollStop _ | .busFault | .recoveryAttempt _ | .lineCheckBegin _
  | .quietWindowEdge | .quietWindowEnd | .storePollAck | .storePollTimeout | .storeTransferNack | .loadPollTimeout
  | .linkByte _ | .quietCommandFailed | .loadTransferNack => true

end Sys2Proof
end

