-- ==== Sys2Proof/Machine/Probes.lean ====
section
/-! DEFINITION. The probe bus master (spec/08): the poll schedule, the poll transaction and its judging, the start-up scan and the
end of INIT (R134), bus fault and recovery, the line check, and the requests PROBE READ, LINE CHECK and LINE CHECK RESULT. -/

namespace Sys2Proof.Machine

/-! ## What a bus master sends (R153, R160, R162, R171) -/

/-- The direction bit behind an address on a serial bus (R153, R162, R171). -/
inductive BusDirection where
  | write | read
  deriving DecidableEq, Repr

/-- One item of what the part sends as the master of the probe bus or the store bus (R153, R160, R162, R171): a start condition with an
address and a direction, a byte sent, a byte clocked in and acknowledged or not, a clock pulse with the data line released, the test
pulse on the data line, a stop condition. -/
inductive BusItem where
  | start (address : Byte) (direction : BusDirection)
  | sent (byte : Byte)
  | clockedIn (acknowledged : Bool)
  | clockPulse
  | testPulse
  | stop
  deriving DecidableEq, Repr

/-- The bus address of the probe of a record (R151): 0x20 + n for zone n, 0x2F for the hall probe. -/
def probeAddress (i : Nat) : Byte := if i = hallIndex then 0x2F else BitVec.ofNat 8 (0x20 + i)

/-- What the master sends in the poll of a probe (R153): start and the probe's address with the read direction; where the address is
acknowledged, six bytes clocked in, the first five acknowledged and not the sixth; stop. -/
def pollTransfer (i : Nat) (addressTaken : Bool) : List BusItem :=
  [.start (probeAddress i) .read]
    ++ (if addressTaken then List.replicate 5 (.clockedIn true) ++ [.clockedIn false] else []) ++ [.stop]

/-- The quiet command of a line check (R162): start, the general address with the write direction, one command byte, stop. -/
def quietTransfer : List BusItem := [.start 0x00 .write, .sent Config.quietCommand, .stop]

/-- What the master sends on the trunk at a recovery attempt that finds PROBE CLK high (R160): nine clock pulses with PROBE DATA
released, then stop. -/
def recoveryTransfer : List BusItem := List.replicate 9 .clockPulse ++ [.stop]

/-- What the master sends on the trunk in the activity in progress, by whether a polled probe acknowledges its address: the poll in
flight, of which a bus fault sends no more (R153, R159); in a line check the quiet command, then the test pulse (R162). A poll whose
start cannot be made is never in flight and sends nothing (R153). -/
def State.trunkTransfer (s : State) (addressTaken : Bool) : List BusItem :=
  match s.probeBus.inFlight, s.probeBus.check with
  | some i, _ => pollTransfer i addressTaken
  | none, some .quiet => quietTransfer
  | none, some .pulse => [.testPulse]
  | none, some .accepted => []
  | none, none => []

/-! ## Judging a reply (R153, R154) -/

/-- What a poll finds (R154): a miss with its reason, or a valid reading. -/
inductive Verdict where
  | miss (reason : MissReason)
  | valid (temp : Int) (hum : Nat) (clamped : Bool)
  deriving DecidableEq, Repr

/-- The temperature of a probe's reply, two's complement (R153). -/
def replyTemp (p : ProbeReply) : Int := signed16 (beNat [p.tempHigh, p.tempLow])

/-- The humidity of a probe's reply (R153). -/
def replyHum (p : ProbeReply) : Nat := beNat [p.humHigh, p.humLow]

/-- The check byte equals the exclusive-or of the five bytes before it (R153). -/
def replyChecks (p : ProbeReply) : Bool :=
  p.check == (p.tempHigh ^^^ p.tempLow ^^^ p.humHigh ^^^ p.humLow ^^^ p.status)

/-- Judge a poll by the first failing test (R154). -/
def judgePoll : Option ProbeReply → Verdict
  | none => .miss .noAck
  | some p =>
    if replyChecks p = false then .miss .check
    else if p.status.getLsbD 0 then .miss .sensor
    else if tempInRange (replyTemp p) = false then .miss .rangeT
    else if 1050 < replyHum p then .miss .rangeH
    else .valid (replyTemp p) (min (replyHum p) 1000) (decide (1000 < replyHum p))

/-! ## Probe records (R155, R156) -/

/-- Change a probe record. -/
def State.modProbe (s : State) (i : Nat) (f : Probe → Probe) : State :=
  s.setProbeBus { s.probeBus with records := s.probeBus.records.modify i f }

/-- The record after a valid reading: reading, clamped flag and time written, miss count 0, last miss kept (R155). -/
def Probe.read (p : Probe) (r : Reading) : Probe := { p with reading := some r, misses := 0 }

/-- The record after a miss: the count advances, saturating at 255, reason and time recorded, reading kept (R156). -/
def Probe.miss (p : Probe) (m : Miss) : Probe := { p with misses := satAdd 255 p.misses 1, lastMiss := some m }

/-- A valid reading is taken (R155): the record is written, and a zone probe's reading is handed to its zone. -/
def State.takeReading (s : State) (i : Nat) (r : Reading) : State :=
  let s1 := s.modProbe i fun p => p.read r
  if i = hallIndex then s1 else (s1.zoneReading i r).followEconomy.tryRunning

/-- A miss is taken (R156): a zone probe's count going from 2 to 3 raises ZONE_BLIND. -/
def State.takeMiss (s : State) (i : Nat) (m : Miss) : State :=
  let s1 := s.modProbe i fun p => p.miss m
  if i ≠ hallIndex ∧ (s.probe i).misses = 2 then s1.raiseNat .zoneBlind i else s1

/-- The outcome of a poll is taken by R155 or R156; a probe that is not configured has no outcome (R158). -/
def State.takeVerdict (s : State) (i : Nat) (v : Verdict) : State :=
  if s.configured.contains i then
    match v with
    | .miss reason => s.takeMiss i { reason := reason, time := s.clock }
    | .valid t h c => s.takeReading i { temp := t, hum := h, clamped := c, time := s.clock }
  else s

/-! ## The end of INIT (R134, R157) -/

/-- Some profile slot is CORRUPT. -/
def State.anyCorrupt (s : State) : Bool := s.store.slots.any fun sl => sl == .corrupt

/-- The INIT_DONE result code (R134). -/
def State.initResult (s : State) : Nat :=
  match s.store.layout with
  | none => 2
  | some _ => if s.tableLoaded = false ∨ s.anyCorrupt = true then 1 else 0

/-- A new round of polls begins now: its first poll is due at once (R152, R158, R160). Without a working layout no round runs. -/
def State.startRound (s : State) : State :=
  match s.store.layout with
  | none => s.setProbeBus { s.probeBus with pollTimer := none, nextSlot := 0, roundOnStop := false }
  | some _ =>
    s.setProbeBus { s.probeBus with pollTimer := some 0, nextSlot := 0, roundStart := s.clock, roundOnStop := false }

/-- The line leaves INIT (R134): INIT_DONE, COLD or UNCONFIGURED, and the first round of polls. -/
def State.finishInit (s : State) : State :=
  let s1 := s.raiseNat .initDone s.initResult
  let s2 := match s.store.layout with
    | some _ => s1.changeLine .cold
    | none => s1.changeLine .unconfigured
  s2.startRound

/-- The line is in the start-up phase PROBE_SCAN. -/
def State.scanning (s : State) : Bool := s.line.state == .init && s.line.phase == some .probeScan

/-- The start-up scan begins: its first poll is due (R157). -/
def State.startScan (s : State) : State :=
  let s1 := s.setLine { s.line with phase := some .probeScan }
  s1.setProbeBus { s1.probeBus with pollTimer := some 0, nextSlot := 0 }

/-- The scan after a poll of it has ended: the next probe at once, or the end of INIT after the last (R157). -/
def State.scanNext (s : State) : State :=
  let k := s.probeBus.nextSlot + 1
  if k < s.configured.length then s.setProbeBus { s.probeBus with pollTimer := some 0, nextSlot := k }
  else s.finishInit

/-! ## Polls (R152, R153) -/

/-- The slot length: the poll period in ticks over the number of configured probes, truncated (R152). -/
def Layout.slotTicks (l : Layout) : Nat := secondTicks l.pollPeriod / (l.zoneCount + 1)

/-- The schedule at a slot that falls due: the next slot of the round after a slot length, or the next round when the poll period has
elapsed from the round's start (R152). -/
def State.nextPoll (s : State) (l : Layout) : State :=
  let k := s.probeBus.nextSlot
  let b := s.probeBus
  let b1 := { b with roundStart := if k = 0 then s.clock else b.roundStart }
  if k < l.zoneCount then s.setProbeBus { b1 with pollTimer := some l.slotTicks, nextSlot := k + 1 }
  else s.setProbeBus { b1 with pollTimer := some (secondTicks l.pollPeriod - l.zoneCount * l.slotTicks), nextSlot := 0 }

/-- The end of a poll with a verdict: the outcome is taken, and the scan goes on or a round that waited for the stop begins
(R154, R157, R158). -/
def State.endPoll (s : State) (i : Nat) (v : Verdict) : State :=
  let s1 := s.setProbeBus { s.probeBus with inFlight := none }
  let s2 := s1.takeVerdict i v
  if s2.scanning then s2.scanNext
  else if s2.probeBus.roundOnStop then s2.startRound
  else s2

/-- A poll transaction begins, or ends at once as a miss NO_ACK where PROBE DATA is held low (R153). -/
def State.beginPoll (s : State) (i : Nat) (dataHigh : Bool) : State :=
  if dataHigh then s.setProbeBus { s.probeBus with inFlight := some i } else s.endPoll i (.miss .noAck)

/-- Polls are made: no line check runs, no bus fault stands, no transaction is in flight (R152, R159, R161; log 9). -/
def State.pollsMade (s : State) : Bool :=
  s.probeBus.check.isNone && s.probeBus.fault.isNone && s.probeBus.inFlight.isNone

/-- A poll slot falls due (R152, R153, R157): the schedule advances, and the poll is made where polls are made. -/
def State.pollDue (s : State) (dataHigh : Bool) : State :=
  match s.probeBus.pollTimer with
  | none => s
  | some _ =>
    let s0 := s.setPins { s.pins with probeData := dataHigh }
    let i := s.configured.getD s.probeBus.nextSlot hallIndex
    if s.line.state = .init then
      (s0.setProbeBus { s0.probeBus with pollTimer := none }).beginPoll i dataHigh
    else
      match s.store.layout with
      | none => s0.setProbeBus { s0.probeBus with pollTimer := none }
      | some l => if s.pollsMade then (s0.nextPoll l).beginPoll i dataHigh else s0.nextPoll l

/-- The stop of the poll in flight (R154). -/
def State.pollStop (s : State) (reply : Option ProbeReply) : State :=
  match s.probeBus.inFlight with
  | none => s
  | some i => s.endPoll i (judgePoll reply)

/-! ## Bus fault and recovery (R159, R160) -/

/-- The poll period in ticks, none without a working layout (R160). -/
def State.pollPeriodTicks (s : State) : Option Nat := s.store.layout.map fun l => secondTicks l.pollPeriod

/-- The ticks to the next recovery attempt of a fault of an age: the attempts fall at whole poll periods from the time of the
fault (R160). The one that falls due at this very tick is taken as made (DESIGN CHOICE, assumption log 11). -/
def recoveryWait (period age : Nat) : Nat := period - age % period

/-- The recovery timer of the fault that stands, on the working layout's poll period; none without one (R158, R160). -/
def State.recoveryTicks (s : State) : Option Nat := s.pollPeriodTicks.map fun p => recoveryWait p s.probeBus.faultAge

/-- The master watches PROBE CLK: no fault stands, the line is not in the load phases of INIT, where no start condition is made, and
no line check runs, unless the check still waits for the poll in flight (R159, R161; assumption log 10). -/
def State.watches (s : State) : Bool :=
  s.probeBus.fault.isNone && (s.line.state != .init || s.scanning)
    && (s.probeBus.check.isNone || (s.probeBus.check == some .accepted && s.probeBus.inFlight.isSome))

/-- PROBE CLK held low for more than 50 ms (R159): the transaction ends without an outcome, the flag and its time are set,
PROBE_BUS_FAULT is raised; in PROBE_SCAN the line leaves INIT (R157). -/
def State.busFault (s : State) : State :=
  if s.watches then
    let s0 := s.setPins { s.pins with probeClk := false }
    let s1 := s0.setProbeBus { s0.probeBus with
      inFlight := none, fault := some s.clock, faultAge := 0, recovery := s.pollPeriodTicks }
    let s2 := s1.raise .probeBusFault 0
    if s.scanning then s2.finishInit
    else if s.probeBus.roundOnStop then s2.startRound
    else s2
  else s

/-- A recovery attempt falls due: a bus fault stands and its recovery timer runs (R160). -/
def State.recovers (s : State) : Bool := s.probeBus.fault.isSome && s.probeBus.recovery.isSome

/-- What the master sends at a recovery attempt (R160, R161): the pulses and the stop where the attempt is made and PROBE CLK is high. -/
def State.recoverySends (s : State) (clkHigh : Bool) : List BusItem :=
  if s.recovers && s.probeBus.check.isNone && clkHigh then recoveryTransfer else []

/-- A recovery attempt of a standing fault (R160, R161): with the clock line high the master sends `State.recoverySends`, the fault
is cleared and a new round begins; during a line check it is not made. -/
def State.recoveryAttempt (s : State) (clkHigh : Bool) : State :=
  if s.recovers then
    if s.probeBus.check.isSome then s.setProbeBus { s.probeBus with recovery := s.recoveryTicks }
    else
      let s0 := s.setPins { s.pins with probeClk := clkHigh }
      if clkHigh then (s0.setProbeBus { s0.probeBus with fault := none, faultAge := 0, recovery := none }).startRound
      else s0.setProbeBus { s0.probeBus with recovery := s.recoveryTicks }
  else s

/-! ## The line check (R161 to R163) -/

/-- The end of a line check: result, distance and time recorded, idle, LINE_CHECK_DONE raised (R162). -/
def State.endCheck (s : State) (code : CheckCode) (distance : Nat) : State :=
  (s.setProbeBus { s.probeBus with check := none, result := { code := code, distance := distance, time := s.clock } }).raiseNat
    .lineCheckDone code.code

/-- The accepted check begins once no poll is in flight: the quiet command (`quietTransfer`), or INVALID where PROBE CLK is low (R161, R162). -/
def State.checkBegin (s : State) (clkHigh : Bool) : State :=
  if s.probeBus.check = some .accepted ∧ s.probeBus.inFlight = none then
    let s0 := s.setPins { s.pins with probeClk := clkHigh }
    if clkHigh then s0.setProbeBus { s0.probeBus with check := some .quiet } else s0.endCheck .invalid 0
  else s

/-- PROBE CLK stays low while the quiet command is clocked: INVALID (R162). -/
def State.quietFailed (s : State) : State :=
  if s.probeBus.check = some .quiet then s.endCheck .invalid 0 else s

/-- A falling edge on PROBE DATA in the quiet window: INVALID (R162). -/
def State.quietEdge (s : State) : State :=
  if s.probeBus.check = some .quiet then s.endCheck .invalid 0 else s

/-- The quiet window ends without an edge: the test pulse is sent (R162). -/
def State.quietEnd (s : State) : State :=
  if s.probeBus.check = some .quiet then s.setProbeBus { s.probeBus with check := some .pulse } else s

/-- The result code and distance count of a reflection (R162). -/
def reflectionResult : Reflection → CheckCode × Nat
  | .nothing => (.normal, 0)
  | .sameSense n => (.openEnd, n)
  | .oppositeSense n => (.short, n)

/-- The reflection timing ends (R162). -/
def State.checkEnd (s : State) (r : Reflection) : State :=
  if s.probeBus.check = some .pulse then s.endCheck (reflectionResult r).1 (reflectionResult r).2 else s

/-- LINE CHECK (R161): BUSY while a check runs, else accepted. -/
def lineCheckOp (s : State) : State × Answer :=
  if s.probeBus.check.isSome then (s, .refuse .busy)
  else (s.setProbeBus { s.probeBus with check := some .accepted }, .ok [])

/-- The LINE CHECK RESULT reply, 7 bytes (R163, R198). -/
def CheckResult.image (r : CheckResult) : List Byte := beBytes 1 r.code.code ++ beBytes 2 r.distance ++ be32 r.time

/-- LINE CHECK RESULT (R163): IN_PROGRESS with the result of the check before while one runs, else OK. -/
def lineCheckResultOp (s : State) : State × Answer :=
  (s, { status := if s.probeBus.check.isSome then .inProgress else .ok, payload := s.probeBus.result.image })

/-! ## PROBE READ (R164) -/

/-- The record index of a probe address: 0x20 + n for zone n, 0x2F for the hall probe (R151). -/
def probeIndex (address : Byte) : Option Nat :=
  if 0x20 ≤ address.toNat ∧ address.toNat ≤ 0x29 then some (address.toNat - 0x20)
  else if address.toNat = 0x2F then some hallIndex
  else none

/-- The last miss bytes: reason and time, 0 for none (R198). -/
def missImage : Option Miss → List Byte
  | none => beBytes 1 0 ++ be32 0
  | some m => beBytes 1 m.reason.code ++ be32 m.time

/-- A record's reading was clamped (R154). -/
def Probe.clamped (p : Probe) : Bool :=
  match p.reading with
  | some r => r.clamped
  | none => false

/-- The PROBE READ reply, 20 bytes (R164, R198). An unconfigured probe is reported not fresh. -/
def State.probeImage (s : State) (address : Byte) (i : Nat) : List Byte :=
  let p := s.probe i
  let conf := s.configured.contains i
  [address]
    ++ beBytes 1 (flagBits [conf, conf && s.probeFresh i, p.reading.isSome, p.clamped, s.probeBus.fault.isSome,
                            s.probeBus.check.isSome])
    ++ readingImage p.reading ++ beBytes 1 p.misses ++ missImage p.lastMiss ++ be32 (s.probeBus.fault.getD 0)

/-- PROBE READ (R164) changes nothing. -/
def probeReadOp (address : Byte) (s : State) : State × Answer :=
  match probeIndex address with
  | none => (s, .badValue 0)
  | some i => (s, .ok (s.probeImage address i))

/-! ## Meanings -/

/-- POLL (R152, R153, R157). -/
def execPoll (dataHigh : Bool) (s : State) : Host.Outcome State Fault Refusal := .next (s.pollDue dataHigh)

/-- POLL_STOP (R154 to R158). -/
def execPollStop (reply : Option ProbeReply) (s : State) : Host.Outcome State Fault Refusal := .next (s.pollStop reply)

/-- BUS_FAULT (R159). -/
def execBusFault (s : State) : Host.Outcome State Fault Refusal := .next s.busFault

/-- RECOVERY_ATTEMPT (R160). -/
def execRecoveryAttempt (clkHigh : Bool) (s : State) : Host.Outcome State Fault Refusal := .next (s.recoveryAttempt clkHigh)

/-- LINE_CHECK_BEGIN (R161). -/
def execLineCheckBegin (clkHigh : Bool) (s : State) : Host.Outcome State Fault Refusal := .next (s.checkBegin clkHigh)

/-- QUIET_WINDOW_EDGE (R162). -/
def execQuietWindowEdge (s : State) : Host.Outcome State Fault Refusal := .next s.quietEdge

/-- QUIET_WINDOW_END (R162). -/
def execQuietWindowEnd (s : State) : Host.Outcome State Fault Refusal := .next s.quietEnd

/-- QUIET_COMMAND_FAILED (R162). -/
def execQuietCommandFailed (s : State) : Host.Outcome State Fault Refusal := .next s.quietFailed

/-- LINE_CHECK_END (R162). -/
def execLineCheckEnd (reflection : Reflection) (s : State) : Host.Outcome State Fault Refusal :=
  if reflection.wellFormed then .next (s.checkEnd reflection) else .refused (.illFormed "LINE_CHECK_END")

/-- LINE_CHECK (R161). -/
def execLineCheck (s : State) : Host.Outcome State Fault Refusal := .next (s.serve 0x61 lineCheckOp)

/-- LINE_CHECK_RESULT (R163). -/
def execLineCheckResult (s : State) : Host.Outcome State Fault Refusal := .next (s.serve 0x62 lineCheckResultOp)

/-- PROBE_READ (R164). -/
def execProbeRead (address : Byte) (s : State) : Host.Outcome State Fault Refusal :=
  .next (s.serve 0x60 (probeReadOp address))

end Sys2Proof.Machine
end

