-- ==== Sys2Proof/Machine/Stores.lean ====
section
/-! DEFINITION. The profile store controller (spec/09): start-up loading, store jobs and their ends, and the requests that read and
write profiles, table and layout. -/

namespace Sys2Proof.Machine

/-! ## A new working layout (R137, R158) -/

/-- The ramp arbiter under a new layout (R75, R137): its record of grants is kept, and with a ramp spacing of 0 the spacing timer does
not run. With a spacing above 0 a timer that runs from a grant under the old layout runs on with the time it has left, which
no rule states (DESIGN CHOICE, assumption log 26). -/
def Arbiter.under (l : Layout) (a : Arbiter) : Arbiter := if l.rampSpacing = 0 then { a with spacing := none } else a

/-- The zones, chains and ramp arbiter set up for a layout, entered at `now`: controllers in OFF without a governing profile, every
position a gap (R75, R91, R137). -/
def State.setupLayout (s : State) (l : Layout) (now : Word32) : State :=
  { s.setStore { s.store with layout := some l } with
    arbiter := s.arbiter.under l
    zones := List.replicate l.zoneCount (Zone.fresh now)
    preChain := List.replicate l.preCount none
    mainChain := List.replicate l.mainCount none }

/-- The probe records at indices at or beyond the zone count take their reset values (R158). -/
def dropProbes (zoneCount : Nat) (records : List Probe) : List Probe :=
  records.mapIdx fun i p => if zoneCount ≤ i ∧ i < hallIndex then Probe.atReset else p

/-- The poll schedule set up for a new layout: a new round now, or at the stop of the poll in flight; a standing fault's recovery
runs on the new poll period, its attempts counted from the time of the fault (R158, R160; assumption log 11). -/
def State.setupPolls (s : State) (l : Layout) : State :=
  let b := { s.probeBus with
    records := dropProbes l.zoneCount s.probeBus.records
    recovery :=
      if s.probeBus.fault.isSome then some (recoveryWait (secondTicks l.pollPeriod) s.probeBus.faultAge) else none }
  if b.inFlight.isSome then s.setProbeBus { b with pollTimer := none, nextSlot := 0, roundOnStop := true }
  else (s.setProbeBus b).startRound

/-- A layout job completes in COLD or UNCONFIGURED (R136, R137, R158, R174): the image becomes the working layout, zones, chains and
poll schedule are set up, and a line in UNCONFIGURED goes to COLD. -/
def State.installLayout (s : State) (l : Layout) : State :=
  let s1 := (s.setupLayout l s.clock).setupPolls l
  if s.line.state = .unconfigured then s1.changeLine .cold else s1

/-! ## Start-up loading (R133, R175) -/

/-- The result of loading block 0 (R175). -/
def State.loadLayout (s : State) (j : Judged Layout) : State :=
  match j with
  | .valid l => s.setupLayout l s.link.lastResetTime
  | .blank => s
  | .invalid => s

/-- Set a profile slot. -/
def State.setSlot (s : State) (i : Nat) (sl : ProfileSlot) : State :=
  s.setStore { s.store with slots := s.store.slots.set i sl }

/-- The result of loading block 1 + slot (R175). -/
def State.loadProfile (s : State) (slot : Nat) (j : Judged Profile) : State :=
  match j with
  | .valid p => s.setSlot slot (.valid p)
  | .blank => s.setSlot slot .empty
  | .invalid => s.setSlot slot .corrupt

/-- The result of loading block 9 (R112, R175). -/
def State.loadTable (s : State) (j : Judged (List Nat)) : State :=
  match j with
  | .valid t => { s with table := t, tableLoaded := true }
  | .blank => { s with table := List.replicate tableEntries 0, tableLoaded := false }
  | .invalid => { s with table := List.replicate tableEntries 0, tableLoaded := false }

/-- Judge a block's bytes, an unreadable block being invalid (R175). -/
def judgeRead {α : Type} (content : List Byte → Option α) : Option (List Byte) → Judged α
  | none => .invalid
  | some bytes => judgeBlock content bytes

/-- Load one block from its bytes, or as unreadable (R175). -/
def State.loadBlock (s : State) (block : Nat) (bytes : Option (List Byte)) : State :=
  if block = 0 then s.loadLayout (judgeRead layoutContent bytes)
  else if block ≤ 8 then s.loadProfile (block - 1) (judgeRead profileContent bytes)
  else s.loadTable (judgeRead tableContent bytes)

/-- Set the store status of a block. -/
def State.setStatus (s : State) (block : Nat) (st : StoreStatus) : State :=
  s.setStore { s.store with status := s.store.status.set block st }

/-- The start-up phase goes on after a block: LOAD_PROFILES after block 0, LOAD_TABLE after block 8, PROBE_SCAN after block 9
(R133). -/
def State.loadNext (s : State) (block : Nat) : State :=
  let s1 := s.setStore { s.store with loadBlock := block + 1 }
  if block = 0 then s1.setLine { s1.line with phase := some .loadProfiles }
  else if block = 8 then s1.setLine { s1.line with phase := some .loadTable }
  else if block = 9 then s1.startScan
  else s1

/-- The line is in a load phase of INIT (R133). -/
def State.loading (s : State) : Bool := s.line.state == .init && !s.scanning

/-- The read of the block in turn ends (R175): judged and taken, its store status CURRENT, STORE_FAULT where it was unreadable, and the
next block or phase begins. Outside the load phases no block is being read. -/
def State.loadEnds (s : State) (bytes : Option (List Byte)) : State :=
  if s.loading then
    let b := s.store.loadBlock
    let s1 := match bytes with
      | none => s.raiseNat .storeFault b
      | some _ => s
    ((s1.loadBlock b bytes).setStatus b .current).loadNext b
  else s

/-! ## Transfers on the store bus (R171, R172, R175) -/

/-- The memory's address on the store bus (R171). -/
def storeAddress : Byte := 0x52

/-- The memory byte address at which a block begins (R171). -/
def blockAddress (block : Nat) : Nat := 512 * block

/-- The memory byte address of a page of a block, eight pages of 64 bytes to a block (R171). -/
def pageAddress (block page : Nat) : Nat := blockAddress block + 64 * page

/-- The 64 bytes of a block's image for a page (R172). -/
def pageBytes (image : List Byte) (page : Nat) : List Byte := (image.drop (64 * page)).take 64

/-- The transfer of step 1 of R172 for the page in progress: start and address with the write direction, the page's memory address
high byte first, the page's 64 bytes, stop. -/
def Job.pageWrite (j : Job) : List BusItem :=
  [.start storeAddress .write] ++ (beBytes 2 (pageAddress j.block j.page) ++ pageBytes j.image j.page).map .sent ++ [.stop]

/-- One poll of step 2 of R172: start and address with the write direction, then stop, acknowledged or not. -/
def writePoll : List BusItem := [.start storeAddress .write, .stop]

/-- The read of a block in one transfer (R175): the block's memory address with the write direction, a repeated start with the
read direction, 512 bytes clocked in, all but the last acknowledged, stop. -/
def blockRead (block : Nat) : List BusItem :=
  [.start storeAddress .write] ++ (beBytes 2 (blockAddress block)).map .sent ++ [.start storeAddress .read]
    ++ List.replicate 511 (.clockedIn true) ++ [.clockedIn false, .stop]

/-- The transfer the controller makes on the store bus as the state stands: the write of a running job's page in progress, in a
load phase the read of the block in turn, else none (R172, R175). Polls stand after the one and before the other
(`writePoll`). -/
def State.storeTransfer (s : State) : List BusItem :=
  match s.store.job with
  | some j => j.pageWrite
  | none => if s.loading then blockRead s.store.loadBlock else []

/-! ## Store jobs (R172 to R174) -/

/-- A store job starts at the acceptance of its request (R172). -/
def State.startJob (s : State) (block : Nat) (kind : JobKind) (image : List Byte) : State :=
  s.setStore { s.store with job := some { block := block, kind := kind, image := image, page := 0 } }

/-- Every zone governed by a slot takes its copy from the slot's new profile (R66, R174). -/
def State.regovern (p : Nat) (s : State) (z : Nat) : State :=
  match s.zones[z]? with
  | none => s
  | some zn =>
    if zn.governing.map (·.profile) = some p then
      match s.entryOf p z with
      | some e => s.retarget z { profile := p, entry := e }
      | none => s
    else s

/-- A profile job completes (R174): the slot takes the image's profile, or becomes EMPTY after an erase; NEWER where a live lot
names the slot. The zones the slot governs take their copies in index order (DESIGN CHOICE, assumption log 23). -/
def State.completeProfile (s : State) (block : Nat) (new : ProfileSlot) : State :=
  if s.profileNamed (block - 1) then s.setStatus block .newer
  else ((s.setSlot (block - 1) new).setStatus block .current).eachZone (State.regovern (block - 1))

/-- A layout job completes (R174): the working layout is replaced in COLD and UNCONFIGURED, else the block is NEWER. -/
def State.completeLayout (s : State) (block : Nat) (l : Layout) : State :=
  if s.line.state = .cold ∨ s.line.state = .unconfigured then (s.setStatus block .current).installLayout l
  else s.setStatus block .newer

/-- A store job completes (R174): idle, STORE_DONE, and the working copy replaced or the block marked NEWER. -/
def State.completeJob (s : State) (j : Job) : State :=
  let s1 := (s.setStore { s.store with job := none }).raiseNat .storeDone j.block
  match j.kind with
  | .profileWrite => s1.completeProfile j.block (.valid (readProfile j.image))
  | .profileErase => s1.completeProfile j.block .empty
  | .tableWrite => { s1.setStatus j.block .current with table := readTable j.image, tableLoaded := true }
  | .layoutWrite => s1.completeLayout j.block (readLayout j.image)

/-- A write-cycle poll is acknowledged: the next page, or the completion after page 7 (R172, R174). -/
def State.pageAck (s : State) : State :=
  match s.store.job with
  | none => s
  | some j => if j.page < 7 then s.setStore { s.store with job := some { j with page := j.page + 1 } } else s.completeJob j

/-- A store job fails (R173): STORE_FAULT, idle, and the block DAMAGED where a page's data had been acknowledged. -/
def State.failJob (s : State) (j : Job) (pageWritten : Bool) : State :=
  let s1 := (s.setStore { s.store with job := none }).raiseNat .storeFault j.block
  if pageWritten then s1.setStatus j.block .damaged else s1

/-- A page's poll stays unacknowledged for 25 ms: its data had been acknowledged before the poll (R172, R173). -/
def State.pageTimeout (s : State) : State :=
  match s.store.job with
  | none => s
  | some j => s.failJob j true

/-- The memory does not acknowledge an address or byte of a page write: the pages before it were acknowledged (R172, R173). -/
def State.pageNack (s : State) : State :=
  match s.store.job with
  | none => s
  | some j => s.failJob j (decide (0 < j.page))

/-! ## Writing requests (R167 to R170) -/

/-- PROFILE WRITE (R167): slot, fields in index order, IN_USE, BUSY, then the write job for block 1 + slot. -/
def profileWriteOp (slot : Byte) (image : List Byte) (s : State) : State × Answer :=
  if 7 < slot.toNat then (s, .badValue 0xFF)
  else match profileFault (readProfile image) with
    | some i => (s, .badValue i)
    | none =>
      if s.profileNamed slot.toNat then (s, .refuse .inUse)
      else if s.store.job.isSome then (s, .refuse .busy)
      else (s.startJob (1 + slot.toNat) .profileWrite (blockImage image), .ok [])

/-- PROFILE ERASE (R168): the checks of PROFILE WRITE, then a write job of the blank block. -/
def profileEraseOp (slot : Byte) (s : State) : State × Answer :=
  if 7 < slot.toNat then (s, .badValue 0xFF)
  else if s.profileNamed slot.toNat then (s, .refuse .inUse)
  else if s.store.job.isSome then (s, .refuse .busy)
  else (s.startJob (1 + slot.toNat) .profileErase blankImage, .ok [])

/-- TABLE WRITE (R169): row, entries in column order, BUSY, then the write job for block 9 of the working copy with the row
replaced. -/
def tableWriteOp (row : Byte) (entries : List Nat) (s : State) : State × Answer :=
  if 7 < row.toNat then (s, .badValue 0)
  else match tableRowFault entries with
    | some i => (s, .badValue i)
    | none =>
      if s.store.job.isSome then (s, .refuse .busy)
      else (s.startJob 9 .tableWrite (blockImage (tableImage (tableWithRow s.table row.toNat entries))), .ok [])

/-- LAYOUT WRITE (R170): NOT_NOW outside COLD and UNCONFIGURED, fields and totals, BUSY, then the write job for block 0. -/
def layoutWriteOp (image : List Byte) (s : State) : State × Answer :=
  if s.line.state ≠ .cold ∧ s.line.state ≠ .unconfigured then (s, .refuse .notNow)
  else match layoutFault (readLayout image) with
    | some i => (s, .badValue i)
    | none =>
      if s.store.job.isSome then (s, .refuse .busy) else (s.startJob 0 .layoutWrite (blockImage image), .ok [])

/-! ## Reading requests (R176) -/

/-- A store job runs on a block. -/
def State.jobOn (s : State) (block : Nat) : Bool :=
  match s.store.job with
  | some j => j.block == block
  | none => false

/-- The store status of a block. -/
def State.storeStatus (s : State) (block : Nat) : StoreStatus := s.store.status.getD block .current

/-- PROFILE READ (R176): slot state, store status, job flag, and the profile image, all 0 unless VALID. -/
def profileReadOp (slot : Byte) (s : State) : State × Answer :=
  if 7 < slot.toNat then (s, .badValue 0)
  else
    (s, .ok ([slot] ++ beBytes 1 (s.store.slots.getD slot.toNat .empty).code
      ++ beBytes 1 (s.storeStatus (1 + slot.toNat)).code ++ [flagByte (s.jobOn (1 + slot.toNat))]
      ++ (match s.profile slot.toNat with | some p => profileImage p | none => List.replicate 215 0)))

/-- TABLE READ (R176): table state, store status, job flag, and the row. A table that was loaded valid or written since is
reported so, code 1, even where its entries are all zeros, of which the words of code 0 hold as well (DEDUCED, assumption
log 24). -/
def tableReadOp (row : Byte) (s : State) : State × Answer :=
  if 7 < row.toNat then (s, .badValue 0)
  else
    (s, .ok ([row] ++ [flagByte s.tableLoaded] ++ beBytes 1 (s.storeStatus 9).code ++ [flagByte (s.jobOn 9)]
      ++ tableImage (tableRow s.table row.toNat)))

/-- LAYOUT READ (R176): whether a working layout exists, store status, job flag, and the layout image, all 0 when none exists. -/
def layoutReadOp (s : State) : State × Answer :=
  (s, .ok ([flagByte s.store.layout.isSome] ++ beBytes 1 (s.storeStatus 0).code ++ [flagByte (s.jobOn 0)]
    ++ (match s.store.layout with | some l => layoutImage l | none => List.replicate 63 0)))

/-! ## Meanings -/

/-- Serve a request whose payload length the frame may get wrong: BAD_LENGTH before every other check (R192). -/
def State.serveSized (s : State) (code : Byte) (sized : Bool) (op : State → State × Answer) : State :=
  if sized then s.serve code op else s.answer code (.refuse .badLength)

/-- PROFILE_READ (R176). -/
def execProfileRead (slot : Byte) (s : State) : Host.Outcome State Fault Refusal := .next (s.serve 0x50 (profileReadOp slot))

/-- PROFILE_WRITE (R167). -/
def execProfileWrite (slot : Byte) (image : List Byte) (s : State) : Host.Outcome State Fault Refusal :=
  .next (s.serveSized 0x51 (image.length == 215) (profileWriteOp slot image))

/-- PROFILE_ERASE (R168). -/
def execProfileErase (slot : Byte) (s : State) : Host.Outcome State Fault Refusal :=
  .next (s.serve 0x52 (profileEraseOp slot))

/-- TABLE_READ (R176). -/
def execTableRead (row : Byte) (s : State) : Host.Outcome State Fault Refusal := .next (s.serve 0x53 (tableReadOp row))

/-- TABLE_WRITE (R169). -/
def execTableWrite (row : Byte) (entries : List (BitVec 16)) (s : State) : Host.Outcome State Fault Refusal :=
  .next (s.serveSized 0x54 (entries.length == 21) (tableWriteOp row (entries.map BitVec.toNat)))

/-- LAYOUT_READ (R176). -/
def execLayoutRead (s : State) : Host.Outcome State Fault Refusal := .next (s.serve 0x55 layoutReadOp)

/-- LAYOUT_WRITE (R170). -/
def execLayoutWrite (image : List Byte) (s : State) : Host.Outcome State Fault Refusal :=
  .next (s.serveSized 0x56 (image.length == 63) (layoutWriteOp image))

/-- STORE_POLL_ACK (R172, R174). -/
def execStorePollAck (s : State) : Host.Outcome State Fault Refusal := .next s.pageAck

/-- STORE_POLL_TIMEOUT (R172, R173). -/
def execStorePollTimeout (s : State) : Host.Outcome State Fault Refusal := .next s.pageTimeout

/-- STORE_TRANSFER_NACK (R172, R173). -/
def execStoreTransferNack (s : State) : Host.Outcome State Fault Refusal := .next s.pageNack

/-- LOAD_BLOCK_READ (R175). -/
def execLoadBlockRead (bytes : List Byte) (s : State) : Host.Outcome State Fault Refusal :=
  if bytes.length = 512 then .next (s.loadEnds (some bytes)) else .refused (.illFormed "LOAD_BLOCK_READ")

/-- LOAD_POLL_TIMEOUT (R175). -/
def execLoadPollTimeout (s : State) : Host.Outcome State Fault Refusal := .next (s.loadEnds none)

/-- LOAD_TRANSFER_NACK (R175). -/
def execLoadTransferNack (s : State) : Host.Outcome State Fault Refusal := .next (s.loadEnds none)

end Sys2Proof.Machine
end

