-- ==== Sys2Proof/Machine/Parts.lean ====
section
/-! DEFINITION. The part-level requests IDENTIFY, STATUS, TIME SET, TIME READ, RESET (R149, R195 to R197), and both resets (R149,
R150). -/

namespace Sys2Proof.Machine

/-! ## IDENTIFY (R195) -/

/-- The text ACOBRIN ULPICO LG40, one byte per character (R195, R198). -/
def identityText : List Byte :=
  [0x41, 0x43, 0x4F, 0x42, 0x52, 0x49, 0x4E, 0x20, 0x55, 0x4C, 0x50, 0x49, 0x43, 0x4F, 0x20, 0x4C, 0x47, 0x34, 0x30]

/-- The capacities in the order of R195: rod table slots, lot slots, report queue, profile slots, zones, probe addresses, landing
queue, transfer buffer, chain positions. -/
def capacities : List Byte :=
  beBytes 2 4096 ++ beBytes 1 16 ++ beBytes 2 256 ++ beBytes 1 8 ++ beBytes 1 10 ++ beBytes 1 11 ++ beBytes 1 4
    ++ beBytes 1 8 ++ beBytes 2 4000

/-- IDENTIFY (R195): text, revision 0x01, node address, BAUD value, capacities; changes nothing. -/
def identifyOp (s : State) : State × Answer :=
  (s, .ok (identityText ++ beBytes 1 1 ++ beBytes 1 s.link.address.toNat ++ beBytes 1 s.link.rate.toNat ++ capacities))

/-! ## STATUS (R196) -/

/-- The start-up phase code, 0 for none. -/
def phaseCode : Option StartPhase → Nat
  | none => 0
  | some p => p.code

/-- The STATUS reply, 30 bytes (R196, R198). -/
def State.statusImage (s : State) : List Byte :=
  beBytes 1 s.line.state.code ++ beBytes 1 (phaseCode s.line.phase) ++ beBytes 2 s.line.holdMask.toNat
    ++ beBytes 1 s.line.holdOrigin.code ++ be32 s.line.entered ++ be32 s.clock ++ beBytes 1 s.link.lastResetKind.code
    ++ be32 s.link.lastResetTime ++ beBytes 1 s.enabledPending ++ beBytes 1 s.disabledPending
    ++ beBytes 2 s.reports.reports.length ++ be32 s.openLotId
    ++ beBytes 1 (match s.store.job with | some j => j.block | none => 0xFF)
    ++ beBytes 1 s.preSeq.state.code ++ beBytes 1 s.mainSeq.state.code ++ [flagByte s.spreaderHold]

/-- STATUS (R196) changes nothing. -/
def statusOp (s : State) : State × Answer := (s, .ok s.statusImage)

/-! ## TIME SET and TIME READ (R197) -/

/-- The line clock set to a value, and nothing else (R197). -/
def State.setClock (s : State) (v : Word32) : State := { s with clock := v }

/-- TIME SET (R197): the reply carries the clock as set. -/
def timeSetOp (v : Word32) (s : State) : State × Answer := (s.setClock v, .ok (be32 v))

/-- TIME READ (R197) changes nothing. -/
def timeReadOp (s : State) : State × Answer := (s, .ok (be32 s.clock))

/-! ## Resets (R149, R150) -/

/-- RESET (R149): answered OK; the soft reset is taken at the end of the reply. -/
def resetOp (s : State) : State × Answer := (s.setLink { s.link with resetAtEnd := true }, .ok [])

/-- Every block at its reset values for a reset taken at clock value `now`, with the straps at the levels of the pins. Kept from
before: the pins, the queue of waiting commands, and the model's counter of free values. -/
def State.atReset (s : State) (kind : ResetKind) (now : Word32) (enabled : BitVec 20) : State :=
  { State.reset with
    clock := now
    line := Line.atReset now
    preSeq := Sequencer.atReset now
    mainSeq := Sequencer.atReset now
    notices := { records := List.replicate 20 none, enabled := enabled }
    link := Link.atReset kind now s.pins.addr s.pins.baud
    pins := s.pins
    pending := s.pending
    freeCount := s.freeCount }

/-- The straps driven to new levels. -/
def State.strap (s : State) (addr : BitVec 4) (baud : BitVec 2) : State :=
  s.setPins { s.pins with addr := addr, baud := baud }

/-- The soft reset (R149): the clock runs on and the notice enable set is kept. -/
def State.softReset (s : State) : State := s.atReset .soft s.clock s.notices.enabled

/-- Power-on reset (R150): clock 0, every notice kind enabled. -/
def State.powerOnReset (s : State) : State := s.atReset .powerOn 0 (BitVec.allOnes 20)

/-! ## Meanings -/

/-- IDENTIFY (R195): taken in every line state. -/
def execIdentify (s : State) : Host.Outcome State Fault Refusal := .next (s.serveAlways 0x01 identifyOp)

/-- STATUS (R196): taken in every line state. -/
def execStatus (s : State) : Host.Outcome State Fault Refusal := .next (s.serveAlways 0x02 statusOp)

/-- TIME_SET (R197). -/
def execTimeSet (value : Word32) (s : State) : Host.Outcome State Fault Refusal := .next (s.serve 0x03 (timeSetOp value))

/-- TIME_READ (R197): taken in every line state. -/
def execTimeRead (s : State) : Host.Outcome State Fault Refusal := .next (s.serveAlways 0x04 timeReadOp)

/-- RESET (R149). -/
def execReset (s : State) : Host.Outcome State Fault Refusal := .next (s.serve 0x05 resetOp)

/-- SOFT_RESET (R149, R190). -/
def execSoftReset (addr : BitVec 4) (baud : BitVec 2) (s : State) : Host.Outcome State Fault Refusal :=
  .next (s.strap addr baud).softReset

/-- POWER_ON_RESET (R150, R190). -/
def execPowerOnReset (addr : BitVec 4) (baud : BitVec 2) (s : State) : Host.Outcome State Fault Refusal :=
  .next (s.strap addr baud).powerOnReset

end Sys2Proof.Machine
end

