-- ==== Sys2Proof/Machine/Links.lean ====
section
/-! DEFINITION. The link port (spec/11): the receiver, the serving of request frames by their codes and payloads, broadcasts, the
pending request, the end of a reply, and the frames as the part sends them. -/

namespace Sys2Proof.Machine

/-! ## Payload fields (R198) -/

/-- A byte of a payload. -/
def payByte (p : List Byte) (at_ : Nat) : Byte := p.getD at_ 0

/-- Four bytes of a payload as a 32-bit word. -/
def pay32 (p : List Byte) (at_ : Nat) : Word32 := BitVec.ofNat 32 (fieldNat p at_ 4)

/-- Two bytes of a payload as a 16-bit word. -/
def pay16 (p : List Byte) (at_ : Nat) : BitVec 16 := BitVec.ofNat 16 (fieldNat p at_ 2)

/-- The 21 table entries of a TABLE WRITE payload (R169). -/
def payEntries (p : List Byte) : List Nat := (List.range 21).map fun c => fieldNat p (1 + 2 * c) 2

/-! ## Serving a request frame (R192) -/

/-- Hand a request of a right length to its owning block by its code (R192, table of request codes); a code outside the table
is answered UNKNOWN. -/
def State.ownerServe (s : State) (code : Byte) (p : List Byte) : State :=
  match code.toNat with
  | 0x01 => s.serveAlways code identifyOp
  | 0x02 => s.serveAlways code statusOp
  | 0x03 => s.serve code (timeSetOp (pay32 p 0))
  | 0x04 => s.serveAlways code timeReadOp
  | 0x05 => s.serve code resetOp
  | 0x10 => s.serve code lineStartOp
  | 0x11 => s.serve code (lineHoldOp (pay16 p 0))
  | 0x12 => s.serve code lineReleaseOp
  | 0x13 => s.serve code lineRunOutOp
  | 0x14 => s.serve code lineShutdownOp
  | 0x20 => s.serve code (zoneReadOp (payByte p 0))
  | 0x21 => s.serve code (zoneRestartOp (payByte p 0))
  | 0x22 => s.serve code (chainReadOp (payByte p 0))
  | 0x23 => s.serve code (chainClearOp (payByte p 0) (payByte p 1))
  | 0x24 => s.serve code captureReadOp
  | 0x30 => s.serve code (lotOpenOp (pay32 p 0) (payByte p 4) (payByte p 5))
  | 0x31 => s.serve code lotCloseOp
  | 0x32 => s.serve code (lotReadOp (pay32 p 0))
  | 0x33 => s.serve code (rodReadOp (pay32 p 0))
  | 0x34 => s.serve code (rodMarkOp (pay32 p 0))
  | 0x35 => s.serve code (trainReadOp (payByte p 0) (pay16 p 1) (payByte p 3))
  | 0x40 => s.serve code reportReadOp
  | 0x41 => s.serve code (reportReleaseOp (payByte p 0))
  | 0x42 => s.serveAlways code noticeFetchOp
  | 0x43 => s.serve code (noticeEnableOp (pay32 p 0))
  | 0x50 => s.serve code (profileReadOp (payByte p 0))
  | 0x51 => s.serve code (profileWriteOp (payByte p 0) (p.drop 1))
  | 0x52 => s.serve code (profileEraseOp (payByte p 0))
  | 0x53 => s.serve code (tableReadOp (payByte p 0))
  | 0x54 => s.serve code (tableWriteOp (payByte p 0) (payEntries p))
  | 0x55 => s.serve code layoutReadOp
  | 0x56 => s.serve code (layoutWriteOp p)
  | 0x60 => s.serve code (probeReadOp (payByte p 0))
  | 0x61 => s.serve code lineCheckOp
  | 0x62 => s.serve code lineCheckResultOp
  | _ => s.answer code (.refuse .unknown)

/-- Take a request addressed to this node: UNKNOWN, BAD_LENGTH, NOT_READY, then the owning block (R192). -/
def State.takeRequest (s : State) (code : Byte) (p : List Byte) : State :=
  match requestLength code with
  | none => s.answer code (.refuse .unknown)
  | some n => if p.length = n then s.ownerServe code p else s.answer code (.refuse .badLength)

/-- The receiver is hunting (R191). -/
def State.hunt (s : State) : State := s.setLink { s.link with receiver := .hunting }

/-- Take a broadcast at its turn (R193): TIME SET with a payload of 4, LINE HOLD with a payload of 2; any other, and any in INIT, is
ignored. -/
def State.takeBroadcast (s : State) (code : Byte) (p : List Byte) : State :=
  if s.line.state = .init then s
  else if code = 0x03 ∧ p.length = 4 then s.setClock (pay32 p 0)
  else if code = 0x11 ∧ p.length = 2 then s.broadcastHold
  else s

/-- Take a frame for this node: a request, or at address 0 a broadcast (R192, R193). -/
def State.takeFrame (s : State) (f : Frame) : State :=
  if f.address = 0 then s.hunt.takeBroadcast f.code f.payload else s.takeRequest f.code f.payload

/-- A broadcast with a code and a payload length that R193 takes: TIME SET with 4 bytes, LINE HOLD with 2. -/
def broadcastable (f : Frame) : Bool :=
  (f.code == 0x03 && f.payload.length == 4) || (f.code == 0x11 && f.payload.length == 2)

/-- The frame is not for this node: another node's address, or a broadcast that is ignored as it is received, in INIT or with another
code or length (R191, R193). -/
def State.ignoresFrame (s : State) (f : Frame) : Bool :=
  if f.address = 0 then s.line.state == .init || !broadcastable f else f.address.toNat != s.link.address.toNat

/-- A frame with a correct CRC completes (R191, R192, R193): dropped unless it is for this node; taken when the port is idle; held as
the pending request, or dropped where one is held, while a request is being served; dropped while a reply is sent. A broadcast that
R193 ignores is dropped at its last byte and holds no pending place (DEDUCED, assumption log 25). -/
def State.frameIn (s : State) (f : Frame) : State :=
  let s1 := s.hunt
  if s.ignoresFrame f then s1
  else match s.link.port with
    | .idle => s1.takeFrame f
    | .preparing _ _ =>
      match s.link.held with
      | none => s1.setLink { s1.link with held := some f }
      | some _ => s1
    | .sending _ => s1

/-! ## The receiver (R191) -/

/-- The number of bytes of a frame after 0xA5 whose length byte is `n`: address, code, length, payload, CRC. -/
def frameBytes (n : Nat) : Nat := 3 + n + 2

/-- The last CRC byte closes a frame (R191): a CRC mismatch discards it silently. -/
def State.closeFrame (s : State) (bytes : List Byte) : State :=
  let body := bytes.take (bytes.length - 2)
  if bytes.drop (bytes.length - 2) = crcBytes body then
    s.frameIn { address := payByte bytes 0, code := payByte bytes 1, payload := body.drop 3 }
  else s.hunt

/-- A byte added to the frame being collected (R191): a length byte above 240 discards it, the last CRC byte closes it. -/
def State.collect (s : State) (bytes : List Byte) : State :=
  if bytes.length = 3 ∧ 240 < (payByte bytes 2).toNat then s.hunt
  else if 3 ≤ bytes.length ∧ bytes.length = frameBytes (payByte bytes 2).toNat then s.closeFrame bytes
  else s.setLink { s.link with receiver := .collecting bytes s.clock }

/-- A byte received on the link (R191): dropped while LINK DE is asserted. -/
def State.linkByte (s : State) (b : Byte) : State :=
  if s.linkDe then s
  else match s.link.receiver with
    | .hunting => if b = 0xA5 then s.setLink { s.link with receiver := .collecting [] s.clock } else s
    | .collecting bytes _ => s.collect (bytes ++ [b])

/-! ## The reply (R192) -/

/-- The reply frame as sent: 0x5A, node address, code, status, length, payload, CRC over the address through the payload (R192,
R198). -/
def Reply.frame (r : Reply) (address : BitVec 4) : List Byte :=
  let body := [address.setWidth 8, r.code, r.status.code, BitVec.ofNat 8 r.payload.length] ++ r.payload
  [0x5A] ++ body ++ crcBytes body

/-- The reply in the buffer: prepared or being sent. -/
def Port.reply : Port → Option Reply
  | .idle => none
  | .preparing r _ => some r
  | .sending r => some r

/-- The end of a reply (R149, R190, R192): after the reply to RESET the soft reset; else LINK DE is released, the receiver hunts, and the
pending request is taken. Without a reply outstanding nothing ends. -/
def State.replyEnd (s : State) : State :=
  match s.link.port.reply with
  | none => s
  | some _ =>
    if s.link.resetAtEnd then s.softReset
    else
      let s1 := s.setLink { s.link with port := .idle, receiver := .hunting, held := none }
      match s.link.held with
      | none => s1
      | some f => s1.takeFrame f

/-! ## Meanings -/

/-- BROADCAST_TIME_SET (R193, R197): ignored in INIT. -/
def execBroadcastTimeSet (value : Word32) (s : State) : Host.Outcome State Fault Refusal :=
  .next (if s.line.state = .init then s.hunt else s.hunt.setClock value)

/-- BROADCAST_LINE_HOLD (R143, R193): the mask the frame carries is not used. -/
def execBroadcastLineHold (_mask : BitVec 16) (s : State) : Host.Outcome State Fault Refusal :=
  .next s.hunt.broadcastHold

/-- UNKNOWN_REQUEST (R192). -/
def execUnknownRequest (code : Byte) (s : State) : Host.Outcome State Fault Refusal :=
  if (requestLength code).isNone then .next (s.answer code (.refuse .unknown)) else .refused (.illFormed "UNKNOWN_REQUEST")

/-- FRAME_DISCARDED (R191, R193): no reply, no state but the receiver's. -/
def execFrameDiscarded (s : State) : Host.Outcome State Fault Refusal := .next s.hunt

/-- BYTE_GAP (R191): a partial frame is discarded. -/
def execByteGap (s : State) : Host.Outcome State Fault Refusal := .next s.hunt

/-- REPLY_END (R149, R192). -/
def execReplyEnd (s : State) : Host.Outcome State Fault Refusal := .next s.replyEnd

/-- LINK_BYTE (R191). -/
def execLinkByte (byte : Byte) (s : State) : Host.Outcome State Fault Refusal := .next (s.linkByte byte)

/-- FRAME_HELD_PENDING (R192). -/
def execFrameHeldPending (frame : Frame) (s : State) : Host.Outcome State Fault Refusal :=
  if frame.payload.length ≤ 240 then .next (s.frameIn frame) else .refused (.illFormed "FRAME_HELD_PENDING")

end Sys2Proof.Machine
end

