-- ==== Sys2Proof/Machine/Dispatch.lean ====
section
/-! DEFINITION. The dispatch: one arm per command, each one direct call of its meaning. -/

namespace Sys2Proof.Machine

/-- The effect of a command on everything but the queue of waiting commands. -/
def exec (i : Instr) (s : State) : Host.Outcome State Fault Refusal :=
  match i with
  | .identify => Sys2Proof.Machine.execIdentify s
  | .status => Sys2Proof.Machine.execStatus s
  | .timeSet value => Sys2Proof.Machine.execTimeSet value s
  | .broadcastTimeSet value => Sys2Proof.Machine.execBroadcastTimeSet value s
  | .timeRead => Sys2Proof.Machine.execTimeRead s
  | .reset => Sys2Proof.Machine.execReset s
  | .softReset addr baud => Sys2Proof.Machine.execSoftReset addr baud s
  | .powerOnReset addr baud => Sys2Proof.Machine.execPowerOnReset addr baud s
  | .lineStart => Sys2Proof.Machine.execLineStart s
  | .lineHold mask => Sys2Proof.Machine.execLineHold mask s
  | .broadcastLineHold mask => Sys2Proof.Machine.execBroadcastLineHold mask s
  | .lineRelease => Sys2Proof.Machine.execLineRelease s
  | .lineRunOut => Sys2Proof.Machine.execLineRunOut s
  | .lineShutdown => Sys2Proof.Machine.execLineShutdown s
  | .zoneRead zone => Sys2Proof.Machine.execZoneRead zone s
  | .zoneRestart zone => Sys2Proof.Machine.execZoneRestart zone s
  | .chainRead chain => Sys2Proof.Machine.execChainRead chain s
  | .chainClear chain moved => Sys2Proof.Machine.execChainClear chain moved s
  | .captureRead => Sys2Proof.Machine.execCaptureRead s
  | .lotOpen id profile gap => Sys2Proof.Machine.execLotOpen id profile gap s
  | .lotClose => Sys2Proof.Machine.execLotClose s
  | .lotRead id => Sys2Proof.Machine.execLotRead id s
  | .rodRead number => Sys2Proof.Machine.execRodRead number s
  | .rodMark number => Sys2Proof.Machine.execRodMark number s
  | .trainRead part first count => Sys2Proof.Machine.execTrainRead part first count s
  | .reportRead => Sys2Proof.Machine.execReportRead s
  | .reportRelease count => Sys2Proof.Machine.execReportRelease count s
  | .noticeFetch => Sys2Proof.Machine.execNoticeFetch s
  | .noticeEnable kinds => Sys2Proof.Machine.execNoticeEnable kinds s
  | .profileRead slot => Sys2Proof.Machine.execProfileRead slot s
  | .profileWrite slot image => Sys2Proof.Machine.execProfileWrite slot image s
  | .profileErase slot => Sys2Proof.Machine.execProfileErase slot s
  | .tableRead row => Sys2Proof.Machine.execTableRead row s
  | .tableWrite row entries => Sys2Proof.Machine.execTableWrite row entries s
  | .layoutRead => Sys2Proof.Machine.execLayoutRead s
  | .layoutWrite image => Sys2Proof.Machine.execLayoutWrite image s
  | .probeRead address => Sys2Proof.Machine.execProbeRead address s
  | .lineCheck => Sys2Proof.Machine.execLineCheck s
  | .lineCheckResult => Sys2Proof.Machine.execLineCheckResult s
  | .unknownRequest code => Sys2Proof.Machine.execUnknownRequest code s
  | .frameDiscarded => Sys2Proof.Machine.execFrameDiscarded s
  | .byteGap => Sys2Proof.Machine.execByteGap s
  | .replyEnd => Sys2Proof.Machine.execReplyEnd s
  | .hang => Sys2Proof.Machine.execHang s
  | .cut => Sys2Proof.Machine.execCut s
  | .curtainPulse channel => Sys2Proof.Machine.execCurtainPulse channel s
  | .stepDone chain => Sys2Proof.Machine.execStepDone chain s
  | .stripReadyChange level => Sys2Proof.Machine.execStripReadyChange level s
  | .intervalExpiry chain => Sys2Proof.Machine.execIntervalExpiry chain s
  | .stepTimeout chain => Sys2Proof.Machine.execStepTimeout chain s
  | .blockLimit chain => Sys2Proof.Machine.execBlockLimit chain s
  | .zoneTick zone => Sys2Proof.Machine.execZoneTick zone s
  | .economyTimerExpiry zone => Sys2Proof.Machine.execEconomyTimerExpiry zone s
  | .rampLimitExpiry zone => Sys2Proof.Machine.execRampLimitExpiry zone s
  | .purgeTimerExpiry zone => Sys2Proof.Machine.execPurgeTimerExpiry zone s
  | .spacingTimerExpiry => Sys2Proof.Machine.execSpacingTimerExpiry s
  | .poll dataHigh => Sys2Proof.Machine.execPoll dataHigh s
  | .pollStop reply => Sys2Proof.Machine.execPollStop reply s
  | .busFault => Sys2Proof.Machine.execBusFault s
  | .recoveryAttempt clkHigh => Sys2Proof.Machine.execRecoveryAttempt clkHigh s
  | .lineCheckBegin clkHigh => Sys2Proof.Machine.execLineCheckBegin clkHigh s
  | .quietWindowEdge => Sys2Proof.Machine.execQuietWindowEdge s
  | .quietWindowEnd => Sys2Proof.Machine.execQuietWindowEnd s
  | .lineCheckEnd reflection => Sys2Proof.Machine.execLineCheckEnd reflection s
  | .storePollAck => Sys2Proof.Machine.execStorePollAck s
  | .storePollTimeout => Sys2Proof.Machine.execStorePollTimeout s
  | .storeTransferNack => Sys2Proof.Machine.execStoreTransferNack s
  | .loadBlockRead bytes => Sys2Proof.Machine.execLoadBlockRead bytes s
  | .loadPollTimeout => Sys2Proof.Machine.execLoadPollTimeout s
  | .linkByte byte => Sys2Proof.Machine.execLinkByte byte s
  | .frameHeldPending frame => Sys2Proof.Machine.execFrameHeldPending frame s
  | .quietCommandFailed => Sys2Proof.Machine.execQuietCommandFailed s
  | .loadTransferNack => Sys2Proof.Machine.execLoadTransferNack s

end Sys2Proof.Machine
end

