-- ==== Sys2Proof/Machine/Tick.lean ====
section
/-! DEFINITION. The time-driven part of the model (R197: timers count ticks of the line clock): one tick of 10 ms, and the timer
event that is due, in the model's fixed order (DESIGN CHOICE, assumption logs 2 and 4). No row of the table is a tick: the
step does it on an empty queue. -/

namespace Sys2Proof.Machine

/-! ## One tick -/

/-- One tick of a sequencer's timers. -/
def Sequencer.tick (q : Sequencer) : Sequencer :=
  { q with intervalTimer := timerTick q.intervalTimer, stepTimer := timerTick q.stepTimer,
           blockedTimer := timerTick q.blockedTimer }

/-- One tick of a zone's timers. -/
def Zone.tick (zn : Zone) : Zone :=
  { zn with tickTimer := timerTick zn.tickTimer, economyTimer := timerTick zn.economyTimer,
            rampTimer := timerTick zn.rampTimer, purgeTimer := timerTick zn.purgeTimer }

/-- One tick of the spacing timer (R75). -/
def Arbiter.tick (a : Arbiter) : Arbiter := { a with spacing := timerTick a.spacing }

/-- One tick of the probe bus master's timers; a standing fault ages (R152, R160). -/
def ProbeBus.tick (b : ProbeBus) : ProbeBus :=
  { b with pollTimer := timerTick b.pollTimer, recovery := timerTick b.recovery,
           faultAge := if b.fault.isSome then b.faultAge + 1 else b.faultAge }

/-- A reply under preparation begins at this tick (R192: within 20 ms of its request): at the second tick at the latest, and
at the first by the free value (assumption log 5). -/
def replyStarts (waited count : Nat) : Bool := decide (1 ≤ waited) || Config.replyBegins count

/-- One tick of the link port: a prepared reply waits, or begins with LINK DE asserted, which discards a frame partly received
(R190, R191, R192). -/
def Link.tick (k : Link) (count : Nat) : Link :=
  match k.port with
  | .preparing r w =>
    { k with
      port := if replyStarts w count then .sending r else .preparing r (w + 1)
      receiver := if replyStarts w count then .hunting else k.receiver }
  | .idle => k
  | .sending _ => k

/-- One tick of 10 ms: the clock advances modulo 2^32 (R197) and every running timer counts it. -/
def State.tick (s : State) : State :=
  { s with
    clock := s.clock + 1
    preSeq := s.preSeq.tick
    mainSeq := s.mainSeq.tick
    zones := s.zones.map Zone.tick
    arbiter := s.arbiter.tick
    probeBus := s.probeBus.tick
    link := s.link.tick s.freeCount
    freeCount := s.freeCount + 1 }

/-! ## Events due -/

/-- The line check accepted and not held up by a poll in flight begins (R161); PROBE CLK is as the master last found it. -/
def State.checkDue (s : State) : Option Instr :=
  if s.probeBus.check = some .accepted ∧ s.probeBus.inFlight = none then some (.lineCheckBegin s.pins.probeClk) else none

/-- The timer event due at a chain (R47, R49, R57). -/
def State.chainDue (s : State) (c : Chain) : Option Instr :=
  let q := s.seq c
  match q.state with
  | .idle => if timerDue q.intervalTimer then some (.intervalExpiry c) else none
  | .stepping => if timerDue q.stepTimer then some (.stepTimeout c) else none
  | .blocked => if timerDue q.blockedTimer then some (.blockLimit c) else none
  | .stopped => none
  | .jammed => none

/-- The timer event due at a zone (R79, R81, R87, R105). -/
def Zone.due (z : Nat) (zn : Zone) : Option Instr :=
  if timerDue zn.tickTimer then some (.zoneTick z)
  else if timerDue zn.economyTimer then some (.economyTimerExpiry z)
  else if zn.state = .ramping ∧ timerDue zn.rampTimer = true then some (.rampLimitExpiry z)
  else if zn.state = .purging ∧ timerDue zn.purgeTimer = true then some (.purgeTimerExpiry z)
  else none

/-- The first event due over the zones in index order. -/
def State.zonesDue (s : State) : Option Instr := (s.zones.take 10).zipIdx.findSome? fun (zn, z) => zn.due z

/-- The spacing timer's expiry (R75). -/
def State.spacingDue (s : State) : Option Instr :=
  if timerDue s.arbiter.spacing then some .spacingTimerExpiry else none

/-- The poll whose slot falls due (R152, R157); PROBE DATA is as the master last found it. -/
def State.pollSlotDue (s : State) : Option Instr :=
  if timerDue s.probeBus.pollTimer then some (.poll s.pins.probeData) else none

/-- The recovery attempt due (R160). -/
def State.recoveryDue (s : State) : Option Instr :=
  if s.probeBus.fault.isSome = true ∧ timerDue s.probeBus.recovery = true then some (.recoveryAttempt s.pins.probeClk)
  else none

/-- The event due now, in the model's fixed order (assumption log 4). -/
def State.nextDue (s : State) : Option Instr :=
  s.checkDue <|> s.chainDue .pre <|> s.chainDue .main <|> s.zonesDue <|> s.spacingDue <|> s.pollSlotDue <|> s.recoveryDue

end Sys2Proof.Machine
end

