-- ==== Sys2Proof/Machine/Step.lean ====
section
/-! DEFINITION. The step of the part: the command at the front of the queue; on an empty queue the timer event that is due, else
one tick of the line clock (assumption log 2). -/

namespace Sys2Proof.Machine

/-- One step on an empty queue: the event that is due, or one tick. -/
def State.idleStep (s : State) : Host.Outcome State Fault Refusal :=
  match s.nextDue with
  | some c => exec c s
  | none => .next s.tick

/-- One step: the command at the front of the queue is executed with the queue's rest; an empty queue idles. -/
def step (s : State) : Host.Outcome State Fault Refusal :=
  match s.pending with
  | c :: rest => exec c { s with pending := rest }
  | [] => s.idleStep

/-- `s` with the command that a table word spells at the front of its queue; unchanged where the word spells none (no row of
the table gives bits). -/
def State.withFetchWord (s : State) (nbits w : Nat) : State :=
  match Sys2Proof.decodeTableWord nbits w with
  | some c => { s with pending := c :: s.pending }
  | none => s

end Sys2Proof.Machine
end

