-- ==== Sys2Proof/Safety.lean ====
section
/-! DEFINITION. What counts as a safe part, in the terms the claims use: what a reply is, which row is which request frame, and the
laws of the train, the lots, the arbiter and the modes that the spec states over the whole machine. -/

namespace Sys2Proof

open Machine in
/-- The request code and payload of the frame a request row stands for (R198, table of request codes); none for a row that is
no request of the table. -/
def Instr.request : Instr → Option (Byte × List Byte)
  | .identify => some (0x01, [])
  | .status => some (0x02, [])
  | .timeSet v => some (0x03, be32 v)
  | .timeRead => some (0x04, [])
  | .reset => some (0x05, [])
  | .lineStart => some (0x10, [])
  | .lineHold mask => some (0x11, beBytes 2 mask.toNat)
  | .lineRelease => some (0x12, [])
  | .lineRunOut => some (0x13, [])
  | .lineShutdown => some (0x14, [])
  | .zoneRead zone => some (0x20, [zone])
  | .zoneRestart zone => some (0x21, [zone])
  | .chainRead chain => some (0x22, [chain])
  | .chainClear chain moved => some (0x23, [chain, moved])
  | .captureRead => some (0x24, [])
  | .lotOpen id profile gap => some (0x30, be32 id ++ [profile, gap])
  | .lotClose => some (0x31, [])
  | .lotRead id => some (0x32, be32 id)
  | .rodRead number => some (0x33, be32 number)
  | .rodMark number => some (0x34, be32 number)
  | .trainRead part first count => some (0x35, [part] ++ beBytes 2 first.toNat ++ [count])
  | .reportRead => some (0x40, [])
  | .reportRelease count => some (0x41, [count])
  | .noticeFetch => some (0x42, [])
  | .noticeEnable kinds => some (0x43, be32 kinds)
  | .profileRead slot => some (0x50, [slot])
  | .profileWrite slot image => some (0x51, slot :: image)
  | .profileErase slot => some (0x52, [slot])
  | .tableRead row => some (0x53, [row])
  | .tableWrite row entries => some (0x54, row :: entries.flatMap fun e => beBytes 2 e.toNat)
  | .layoutRead => some (0x55, [])
  | .layoutWrite image => some (0x56, image)
  | .probeRead address => some (0x60, [address])
  | .lineCheck => some (0x61, [])
  | .lineCheckResult => some (0x62, [])
  | .broadcastTimeSet _ | .softReset _ _ | .powerOnReset _ _ | .broadcastLineHold _ | .unknownRequest _ | .frameDiscarded
  | .byteGap | .replyEnd | .hang | .cut | .curtainPulse _ | .stepDone _ | .stripReadyChange _ | .intervalExpiry _
  | .stepTimeout _ | .blockLimit _ | .zoneTick _ | .economyTimerExpiry _ | .rampLimitExpiry _ | .purgeTimerExpiry _
  | .spacingTimerExpiry | .poll _ | .pollStop _ | .busFault | .recoveryAttempt _ | .lineCheckBegin _ | .quietWindowEdge
  | .quietWindowEnd | .lineCheckEnd _ | .storePollAck | .storePollTimeout | .storeTransferNack | .loadBlockRead _
  | .loadPollTimeout | .linkByte _ | .frameHeldPending _ | .quietCommandFailed | .loadTransferNack => none

/-- The request rows that read a block and change nothing (R18, R21, R43, R63, R90, R129, R163, R164, R176, R187, R195, R196,
R197). -/
def Instr.reads : Instr → Bool
  | .identify | .status | .timeRead | .zoneRead _ | .chainRead _ | .captureRead | .lotRead _ | .rodRead _ | .trainRead _ _ _
  | .reportRead | .profileRead _ | .tableRead _ | .layoutRead | .probeRead _ | .lineCheckResult => true
  | .timeSet _ | .broadcastTimeSet _ | .reset | .softReset _ _ | .powerOnReset _ _ | .lineStart | .lineHold _
  | .broadcastLineHold _ | .lineRelease | .lineRunOut | .lineShutdown | .zoneRestart _ | .chainClear _ _ | .lotOpen _ _ _
  | .lotClose | .rodMark _ | .reportRelease _ | .noticeFetch | .noticeEnable _ | .profileWrite _ _ | .profileErase _
  | .tableWrite _ _ | .layoutWrite _ | .lineCheck | .unknownRequest _ | .frameDiscarded | .byteGap | .replyEnd | .hang | .cut
  | .curtainPulse _ | .stepDone _ | .stripReadyChange _ | .intervalExpiry _ | .stepTimeout _ | .blockLimit _ | .zoneTick _
  | .economyTimerExpiry _ | .rampLimitExpiry _ | .purgeTimerExpiry _ | .spacingTimerExpiry | .poll _ | .pollStop _ | .busFault
  | .recoveryAttempt _ | .lineCheckBegin _ | .quietWindowEdge | .quietWindowEnd | .lineCheckEnd _ | .storePollAck
  | .storePollTimeout | .storeTransferNack | .loadBlockRead _ | .loadPollTimeout | .linkByte _ | .frameHeldPending _
  | .quietCommandFailed | .loadTransferNack => false

namespace Machine

/-! ## Replies -/

/-- The link port with a reply of this status and payload prepared and the receiver hunting (R191, R192). -/
def Link.prepared (k : Link) (code : Byte) (status : Status) (payload : List Byte) : Link :=
  { k with port := .preparing { code := code, status := status, payload := payload } 0, receiver := .hunting }

/-- The link port with the receiver hunting (R191). -/
def Link.hunting (k : Link) : Link := { k with receiver := .hunting }

/-- A field of a payload: `width` bytes at byte offset `at_`, most significant byte first, hold `n` (R198). -/
def HasField (payload : List Byte) (at_ width n : Nat) : Prop := fieldNat payload at_ width = n % 256 ^ width

/-- A signed field of a payload: two bytes at byte offset `at_` hold `v` in two's complement (R198). -/
def HasSigned (payload : List Byte) (at_ : Nat) (v : Int) : Prop := fieldNat payload at_ 2 = (v % 65536).toNat

/-- A refused request leaves every state as it was, but for the reply that carries its status (R194). -/
def Refuses (s : State) (c : Instr) (code : Byte) (status : Status) (payload : List Byte) : Prop :=
  exec c s = .next { s with link := s.link.prepared code status payload }

/-- A reading request: it is answered OK with `length` bytes that satisfy `holds`, and changes nothing else. -/
def Reads (s : State) (c : Instr) (code : Byte) (length : Nat) (holds : List Byte → Prop) : Prop :=
  ∃ payload, exec c s = .next { s with link := s.link.prepared code .ok payload } ∧ payload.length = length ∧ holds payload

/-- The notice unit after one occurrence of kind k at the clock value `now` (R179). -/
def NoticeUnit.occurred (n : NoticeUnit) (k : NoticeKind) (now detail : Word32) : NoticeUnit :=
  { n with records := n.records.modify k.number fun r => some (Notice.occur now detail r) }

/-! ## Frames on the link (R191) -/

/-- A request frame's bytes: 0xA5, address, code, length, payload, CRC over address through payload, high byte first. -/
def requestBytes (f : Frame) : List Byte :=
  let body := [f.address, f.code, BitVec.ofNat 8 f.payload.length] ++ f.payload
  [0xA5] ++ body ++ crcBytes body

/-- The commands that receive a row of bytes on the link. -/
def received (bytes : List Byte) : List Instr := bytes.map .linkByte

/-- The state that a row of commands leads to, where every one of them answers a next state. -/
def runs : List Instr → State → Option State
  | [], s => some s
  | c :: rest, s =>
    match exec c s with
    | .next t => runs rest t
    | .fault _ => none
    | .refused _ => none

/-! ## What a change of the line state does to the other blocks (R24, R46, R69, R87) -/

/-- A chain after the line took away its permission to step: IDLE and BLOCKED go to STOPPED with their timers stopped, every other
state stays as it is (R46, R62). -/
def Sequencer.held (now : Word32) (q : Sequencer) : Sequencer :=
  if q.state = .idle ∨ q.state = .blocked then
    { q with state := .stopped, intervalTimer := none, stepTimer := none, blockedTimer := none, entered := now }
  else q

/-- The pulses a channel received since the hang edge: counter times prescale plus divider, or 1,048,575 times prescale where it
overflowed (R24). -/
def pulsesOf (prescale : Nat) (ch : Channel) : Nat :=
  if ch.overflow then 1048575 * prescale else ch.count * prescale + ch.divider

/-- The capture unit after disarming (R24): DISARMED, a rod that was hanging abandoned with its pulses added to trim, the latch and the
rod number counter as they were. -/
def Capture.disarmed (prescales : Nat → Nat) (c : Capture) : Capture :=
  { c with
    state := .disarmed
    channels := c.channels.mapIdx fun i ch =>
      if c.state = .hanging then
        { divider := 0, count := 0, overflow := false, trim := min (ch.trim + pulsesOf (prescales i) ch) 4294967295 }
      else ch }

/-- A zone that has gone to PURGING at `now`: HEAT off, VENT open, the purge timer at the purge time; with a purge time of 0 it has
passed through PURGING to OFF, HEAT off and VENT closed (R87). -/
def Zone.purged (now : Word32) (ticks : Nat) (zn : Zone) : Prop :=
  zn.entered = now ∧ zn.startPending = false ∧ zn.heat = false ∧ zn.rampTimer = none ∧
  if ticks = 0 then zn.state = .off ∧ zn.vent = false ∧ zn.purgeTimer = none
  else zn.state = .purging ∧ zn.vent = true ∧ zn.purgeTimer = some ticks

/-- A zone that has entered WAITING, where a grant may have followed within the same event: HEAT off and VENT closed while it
waits (R69, R74, R75). -/
def Zone.queued (now : Word32) (zn : Zone) : Prop :=
  zn.entered = now ∧ ((zn.state = .waiting ∧ zn.heat = false ∧ zn.vent = false) ∨ (zn.state = .ramping ∧ zn.rampTimer.isSome = true))

/-- The zone states that a line hold or a shutdown moves: WAITING, RAMPING, CONDITIONED, ECONOMY (R83). -/
def ZoneState.moving (z : ZoneState) : Prop := z = .waiting ∨ z = .ramping ∨ z = .conditioned ∨ z = .economy

/-- Zone by zone, `holds` relates the controller before to the controller after, and no controller is added or lost. -/
def EachZone (before after : List Zone) (holds : Nat → Zone → Zone → Prop) : Prop :=
  after.length = before.length ∧ ∀ z a b, before[z]? = some a → after[z]? = some b → holds z a b

/-- The state of a zone, none without a controller. -/
def State.zoneState (s : State) (z : Nat) : Option ZoneState := (s.zones[z]?).map (·.state)

/-! ## Readings, outputs and latches (R66 to R69, R72, R88) -/

/-- HEAT n against a temperature target: the level after a reading, by the level before (R68). -/
def HeatFollows (target temp : Int) (was now : Bool) : Prop :=
  (temp ≤ target - 5 → now = true) ∧ (target ≤ temp → now = false) ∧
  (target - 5 < temp → temp < target → now = was)

/-- VENT n against a humidity target: the level after a reading, by the level before (R69). -/
def VentFollows (target hum : Nat) (was now : Bool) : Prop :=
  (target + 5 ≤ hum → now = true) ∧ (hum ≤ target → now = false) ∧ (target < hum → hum < target + 5 → now = was)

/-- The outputs of a zone in a state after a reading, by the outputs before: the working targets in RAMPING and CONDITIONED, the
hold targets in HOLDING, the lowered temperature and a closed vent in ECONOMY, and in the other states no change (R66, R68, R69). -/
def ZoneEntry.Regulates (e : ZoneEntry) (st : ZoneState) (r : Reading) (heat vent heat' vent' : Bool) : Prop :=
  match st with
  | .ramping | .conditioned => HeatFollows e.workTemp r.temp heat heat' ∧ VentFollows e.workHum r.hum vent vent'
  | .holding => HeatFollows e.holdTemp r.temp heat heat' ∧ VentFollows e.holdHum r.hum vent vent'
  | .economy => HeatFollows (e.workTemp - e.economyOffset) r.temp heat heat' ∧ vent' = false
  | .off | .waiting | .purging | .failed => heat' = heat ∧ vent' = vent

/-- A reading is in band about a pair of targets, the edges included (R67). -/
def ZoneEntry.About (e : ZoneEntry) (temp : Int) (hum : Nat) (r : Reading) : Prop :=
  temp - e.tempBand ≤ r.temp ∧ r.temp ≤ temp + e.tempBand ∧ hum ≤ r.hum + e.humBand ∧ r.hum ≤ hum + e.humBand

/-- A reading is in band of the targets that a zone state has in force (R66, R67). -/
def ZoneEntry.InBand (e : ZoneEntry) (st : ZoneState) (r : Reading) : Prop :=
  match st with
  | .waiting | .ramping | .conditioned => e.About e.workTemp e.workHum r
  | .holding => e.About e.holdTemp e.holdHum r
  | .economy | .off | .purging | .failed => False

/-- `b` is zone z's controller `a` after it took a copy of a profile's entry: governing profile and copy are the new ones, and unless
the zone is blind its outputs follow the new targets and a latch in CONDITIONED or HOLDING drops where the last reading is out of band
(R66, R72, R88). -/
def State.TakesCopy (s : State) (z : Nat) (g : Governing) (a b : Zone) : Prop :=
  b = { a with governing := some g, latch := b.latch, heat := b.heat, vent := b.vent } ∧
  (s.blind z = true → b.latch = a.latch ∧ b.heat = a.heat ∧ b.vent = a.vent) ∧
  (∀ r, s.blind z = false → (s.probe z).reading = some r →
    g.entry.Regulates a.state r a.heat a.vent b.heat b.vent ∧
    (a.state = .conditioned ∨ a.state = .holding →
      (g.entry.InBand a.state r → b.latch = a.latch) ∧ (¬ g.entry.InBand a.state r → b.latch = false)) ∧
    (a.state ≠ .conditioned → a.state ≠ .holding → b.latch = a.latch))

/-- The notice unit after BAND_LOST for every zone whose latch has gone from high to low, the zones in index order (R72; the order is
the model's choice, assumption log 23). -/
def NoticeUnit.bandLosts (n : NoticeUnit) (now : Word32) (before after : List Zone) : NoticeUnit :=
  ((before.zip after).zipIdx.filter fun p => p.1.1.latch && !p.1.2.latch).foldl
    (fun m p => m.occurred .bandLost now (BitVec.ofNat 32 p.2)) n

/-! ## Grants and economy timers (R75, R78, R80) -/

/-- How many heads of a ramp queue of `n` zones the grant tests of one event take with `free` slots: none while the spacing timer
runs, else one at most with a ramp spacing above 0, and up to the free slots with a spacing of 0 (R75). -/
def Arbiter.grants (a : Arbiter) (l : Layout) (free n : Nat) : Nat :=
  if 0 < a.spacing.getD 0 then 0
  else if l.rampSpacing = 0 then min n free
  else min 1 (min n free)

/-- The arbiter after `k` grants at `now` from a queue (R75). -/
def Arbiter.granting (a : Arbiter) (l : Layout) (now : Word32) (queue : List Nat) (k : Nat) : Arbiter :=
  if k = 0 then { a with queue := queue }
  else
    { queue := queue.drop k, granted := true, lastGrant := now
      spacing := if l.rampSpacing = 0 then none else some (l.rampSpacing * 100) }

/-- `b` is the WAITING zone `a` after a grant now: RAMPING with its ramp limit timer started, its outputs held while it is blind, else
following its last reading against the working targets (R68, R69, R78). -/
def State.Granted (s : State) (l : Layout) (z : Nat) (a b : Zone) : Prop :=
  a.state = .waiting ∧
  b = { a with
    state := .ramping, entered := s.clock, rampTimer := some (l.rampLimit * 6000), heat := b.heat, vent := b.vent } ∧
  (s.blind z = true ∨ a.governing = none → b.heat = a.heat ∧ b.vent = a.vent) ∧
  (∀ g r, a.governing = some g → s.blind z = false → (s.probe z).reading = some r →
    g.entry.Regulates .ramping r a.heat a.vent b.heat b.vent)

/-- Zone z, which the event left as `w`, after the grants of the event: each of the first `k` zones of the ramp queue has been granted, every
other zone is as it was left (R74, R75). -/
def State.AfterGrants (s : State) (l : Layout) (queue : List Nat) (k z : Nat) (w b : Zone) : Prop :=
  (z ∉ queue.take k → b = w) ∧ (z ∈ queue.take k → s.Granted l z w b)

/-- A zone as a change of the line to STARTING, HOLD, RUN_OUT or SHUTDOWN leaves it: its tick timer runs on, or starts where it was stopped
(R73), and its economy timer is stopped (R80). -/
def Zone.ticking (tick : Nat) (a : Zone) : Zone := { a with tickTimer := some (a.tickTimer.getD tick), economyTimer := none }

/-- A zone that has entered WAITING at `now`: HEAT off and VENT closed, no start pending, no timer of a zone state running (R69, R74). -/
def Zone.waits (now : Word32) (a : Zone) : Zone :=
  { a with
    state := .waiting, entered := now, startPending := false, economyTimer := none, rampTimer := none, purgeTimer := none
    heat := false, vent := false }

/-! ## Holds (R83, R142) -/

/-- What a line hold with a mask does to zone z (R83): a moving zone in the mask is HOLDING with its latch high, its outputs held while it
is blind, else following its last reading against the hold targets (R68, R69); one outside the mask has purged; a PURGING zone keeps
its purge timer and has no start pending; an OFF or FAILED zone stays. The governing profile and copy are kept, and the tick timer
runs on. -/
def State.ZoneHeld (s : State) (l : Layout) (mask : BitVec 10) (z : Nat) (a b : Zone) : Prop :=
  let kept := a.ticking (l.tickPeriod * 100)
  (a.state.moving → mask.getLsbD z = true →
    b = { kept with
      state := .holding, latch := true, entered := s.clock, startPending := false, rampTimer := none, purgeTimer := none
      heat := b.heat, vent := b.vent } ∧
    (s.blind z = true ∨ a.governing = none → b.heat = a.heat ∧ b.vent = a.vent) ∧
    (∀ g r, a.governing = some g → s.blind z = false → (s.probe z).reading = some r →
      g.entry.Regulates .holding r a.heat a.vent b.heat b.vent)) ∧
  (a.state.moving → mask.getLsbD z = false →
    b.purged s.clock (l.purgeTime * 6000) ∧ b.governing = a.governing ∧ b.latch = a.latch ∧ b.tickTimer = kept.tickTimer ∧
    b.economyTimer = none) ∧
  (a.state = .purging → b = { kept with startPending := false }) ∧
  (a.state = .off ∨ a.state = .failed ∨ a.state = .holding → b = kept)

/-- `t` is `s` after a line hold with a mask and an origin, but for the link port (R83, R142): line HOLD, LINE_STATE raised, capture armed,
IDLE and BLOCKED chains stopped, each zone moved by the mask, and the ramp queue emptied without a grant. -/
def HeldBy (s t : State) (l : Layout) (mask : BitVec 10) (origin : HoldOrigin) : Prop :=
  t = { s with
    line := { state := .hold, phase := none, holdMask := mask, holdOrigin := origin, entered := s.clock }
    capture := if s.line.state = .starting then { s.capture with state := .idle } else s.capture
    preSeq := s.preSeq.held s.clock
    mainSeq := s.mainSeq.held s.clock
    notices := s.notices.occurred .lineState s.clock 5
    zones := t.zones
    arbiter := { s.arbiter with queue := [] }
    link := t.link } ∧
  EachZone s.zones t.zones (s.ZoneHeld l mask)

/-! ## Timers -/

/-- A zone's economy timer as its three conditions leave it: started from 0, running on, or stopped (R80). -/
def State.economyAfter (s : State) (l : Layout) (z : Nat) (a : Zone) : Option Nat :=
  if a.state = .conditioned ∧ s.line.state = .running ∧ s.zoneRods z = 0 then
    some (a.economyTimer.getD (l.economyDelay * 6000))
  else none

/-- The timer event `c` is due as the state stands, at a rank of the order in which the model takes events that are due together
(assumption log 4): an accepted line check that no poll in flight holds up begins (R161); the timer of a chain's state has run its
time (R47, R49, R57); of a zone, the tick, economy, ramp limit and purge timers (R73, R79, R81, R87); the spacing timer (R75); the
poll slot (R152); the recovery timer of a standing fault (R160). -/
def State.DueAt (s : State) (rank : Nat) (c : Instr) : Prop :=
  (rank = 0 ∧ c = .lineCheckBegin s.pins.probeClk ∧ s.probeBus.check = some .accepted ∧ s.probeBus.inFlight = none) ∨
  (∃ ch : Chain, rank = (if ch = .pre then 1 else 2) ∧
    ((c = .intervalExpiry ch ∧ (s.seq ch).state = .idle ∧ (s.seq ch).intervalTimer = some 0) ∨
     (c = .stepTimeout ch ∧ (s.seq ch).state = .stepping ∧ (s.seq ch).stepTimer = some 0) ∨
     (c = .blockLimit ch ∧ (s.seq ch).state = .blocked ∧ (s.seq ch).blockedTimer = some 0))) ∨
  (∃ z zn, z < 10 ∧ s.zones[z]? = some zn ∧
    ((rank = 3 + 4 * z ∧ c = .zoneTick z ∧ zn.tickTimer = some 0) ∨
     (rank = 4 + 4 * z ∧ c = .economyTimerExpiry z ∧ zn.economyTimer = some 0) ∨
     (rank = 5 + 4 * z ∧ c = .rampLimitExpiry z ∧ zn.state = .ramping ∧ zn.rampTimer = some 0) ∨
     (rank = 6 + 4 * z ∧ c = .purgeTimerExpiry z ∧ zn.state = .purging ∧ zn.purgeTimer = some 0))) ∨
  (rank = 43 ∧ c = .spacingTimerExpiry ∧ s.arbiter.spacing = some 0) ∨
  (rank = 44 ∧ c = .poll s.pins.probeData ∧ s.probeBus.pollTimer = some 0) ∨
  (rank = 45 ∧ c = .recoveryAttempt s.pins.probeClk ∧ s.probeBus.fault.isSome = true ∧ s.probeBus.recovery = some 0)

/-! ## Automatic changes of the line state (R134, R141, R147) -/

/-- The line-level state that the line enters at `now` outside HOLD (R131). -/
def LineState.entered (l : LineState) (now : Word32) : Line :=
  { state := l, phase := none, holdMask := 0, holdOrigin := .noHold, entered := now }

/-- The condition under which a line in RUN_OUT goes to COLD: the train empty, the latch free, both chains STOPPED, every zone OFF
(R147). -/
abbrev State.RunOutComplete (s : State) : Prop :=
  s.line.state = .runOut ∧ s.trainEmpty = true ∧ s.preSeq.state = .stopped ∧ s.mainSeq.state = .stopped ∧
  ∀ zn ∈ s.zones, zn.state = .off

/-- A line in RUN_OUT whose completion condition holds goes to COLD, LINE_STATE raised, the capture unit disarmed, the tick and economy
timers stopped (R24, R73, R147); every other state as it is. -/
def State.settled (s : State) : State :=
  if s.RunOutComplete then
    { s with
      line := LineState.entered .cold s.clock
      capture := s.capture.disarmed s.prescale
      zones := s.zones.map fun zn => { zn with tickTimer := none, economyTimer := none }
      notices := s.notices.occurred .lineState s.clock 2 }
  else s

/-- A STOPPED sequencer goes to IDLE with its interval timer started at a step interval; every other one is as it was (R46). -/
def Sequencer.woken (now : Word32) (interval : Nat) (q : Sequencer) : Sequencer :=
  if q.state = .stopped then
    { q with state := .idle, entered := now, intervalTimer := some interval, stepTimer := none, blockedTimer := none }
  else q

/-- A line in STARTING with every zone CONDITIONED goes to RUNNING, LINE_STATE raised, the capture unit IDLE, the STOPPED chains IDLE, the
tick timers running on and the economy timers of zones without rods started (R141); every other state as it is. -/
def State.startedRunning (s : State) (l : Layout) : State :=
  if s.line.state = .starting ∧ ∀ zn ∈ s.zones, zn.state = .conditioned then
    { s with
      line := LineState.entered .running s.clock
      capture := { s.capture with state := .idle }
      preSeq := s.preSeq.woken s.clock (l.preInterval * 10)
      mainSeq := s.mainSeq.woken s.clock (l.mainInterval * 10)
      zones := s.zones.mapIdx fun z zn => { zn with
        tickTimer := some (zn.tickTimer.getD (l.tickPeriod * 100))
        economyTimer := if s.zoneRods z = 0 then some (zn.economyTimer.getD (l.economyDelay * 6000)) else none }
      notices := s.notices.occurred .lineState s.clock 4 }
  else s

/-- The probe bus master as a new round begins at `now`; without a working layout no round runs (R152). -/
def ProbeBus.newRound (b : ProbeBus) (layout : Option Layout) (now : Word32) : ProbeBus :=
  match layout with
  | some _ => { b with pollTimer := some 0, nextSlot := 0, roundStart := now, roundOnStop := false }
  | none => { b with pollTimer := none, nextSlot := 0, roundOnStop := false }

/-- The line leaves INIT: to COLD with a working layout and to UNCONFIGURED without, INIT_DONE raised with its result code and LINE_STATE,
and a new round of polls begins (R134, R152). -/
def State.leftInit (s : State) : State :=
  { s with
    line := LineState.entered (if s.store.layout = none then .unconfigured else .cold) s.clock
    preSeq := s.preSeq.held s.clock
    mainSeq := s.mainSeq.held s.clock
    zones := s.zones.map fun zn => { zn with tickTimer := none, economyTimer := none }
    probeBus := s.probeBus.newRound s.store.layout s.clock
    notices := (s.notices.occurred .initDone s.clock
        (if s.store.layout = none then 2 else if s.tableLoaded = false ∨ .corrupt ∈ s.store.slots then 1 else 0)).occurred
      .lineState s.clock (if s.store.layout = none then 1 else 2) }

/-- What follows the end of a poll: in the start-up scan the next probe is polled at once, and after the last the line leaves INIT (R157);
a round that waited for the stop begins (R158). -/
def State.pollEnded (s : State) : State :=
  if s.line.state = .init ∧ s.line.phase = some .probeScan then
    if s.probeBus.nextSlot + 1 < s.configured.length then
      { s with probeBus := { s.probeBus with pollTimer := some 0, nextSlot := s.probeBus.nextSlot + 1 } }
    else s.leftInit
  else if s.probeBus.roundOnStop then { s with probeBus := s.probeBus.newRound s.store.layout s.clock }
  else s

/-! ## The shifts and their hand-offs (R37, R49, R51, R52, R54 to R56) -/

/-- The lot table after a pre-chain shift that took no rod: the OPEN lot's gap pending count is counted down (R54). -/
def State.gapCounted (s : State) : List (Option Lot) :=
  match s.landing, s.openSlot with
  | [], some slot => s.lots.modify slot (Option.map fun lot => { lot with gapPending := lot.gapPending - 1 })
  | _, _ => s.lots

/-- The train after the moves of a pre-chain shift: the rod at the last position joins the buffer's tail, every content moves up by one,
the landing head or a gap enters position 0, and every rod's location follows (R52, R54). -/
def State.preMoved (s : State) : State :=
  { s with
    rods := s.rods.map fun r => { r with location := preMove s.preChain.length s.buffer.length r.location }
    landing := s.landing.tail
    preChain := (s.landing.head? :: s.preChain).dropLast
    buffer := s.buffer ++ (lastRod s.preChain).toList
    lots := s.gapCounted }

/-- The record of the latched rod as a write-out makes it, under its lot profile and the mass factors of the layout, at the landing
queue's tail (R2, R30, R35, R36). -/
def Latch.written (w : Latch) (l : Layout) (slot : Nat) (p : Profile) (index : Nat) : Rod :=
  let overflowed := w.overflow.any id
  { number := w.number, lotSlot := slot, hangTime := w.hangTime, cutTime := w.cutTime, counts := w.counts
    charge := if overflowed ∨ w.noCut = true then none else some
      (min (((w.counts.zipWith (· * ·) l.massFactors).sum + 500) / 1000) 65535)
    moisture := p.initialMoisture, stress := 0, heat := 0, lastAccounted := w.cutTime
    marks := { Marks.empty with
      overflow := overflowed, noCut := w.noCut, shortCurtain := w.counts.any fun c => decide (c < p.minCurtain) }
    location := .landing index }

/-- `t` is `s` after a pre-chain shift, before the hand-offs. With the latch free the train has moved. With a rod in the latch and no lot
OPEN that rod is scrapped NO_LOT; with a lot OPEN and room on the landing queue it is written out into the OPEN lot at the tail, and
LANDING_FULL is raised where the queue comes to 4 rods (R34, R37, R39, R40, R52). -/
def PreShifted (s t : State) (l : Layout) : Prop :=
  let m := s.preMoved
  (s.capture.latch = none ∧ t = m) ∨
  (∃ w, s.capture.latch = some w ∧ s.openSlot = none ∧
    let q := m.offerReport (.rodScrap w.number 0 .noLot w.cutTime) none 0
    t = { q with
      capture := { s.capture with latch := none }
      notices := q.notices.occurred .rodScrapped s.clock w.number }) ∨
  (∃ w slot lot p, s.capture.latch = some w ∧ s.openSlot = some slot ∧ s.lot slot = some lot ∧
    s.profile lot.profile = some p ∧ m.landing.length < 4 ∧
    t = { m with
      rods := m.rods ++ [w.written l slot p m.landing.length]
      landing := m.landing ++ [w.number]
      lots := m.lots.modify slot (Option.map fun x => { x with
        born := x.born + 1, inTrain := x.inTrain + 1, firstRod := if x.born = 0 then w.number else x.firstRod
        lastRod := w.number })
      capture := { s.capture with latch := none }
      notices := if m.landing.length = 3 then s.notices.occurred .landingFull s.clock 0 else s.notices })

/-- `t` is `s` after a main-chain shift, before the hand-offs: the rod at the last position is graded at this clock value, a gap there
grades nothing; every content moves up by one, the buffer head or a gap enters position 0, and every rod's location follows (R55). -/
def MainShifted (s t : State) : Prop :=
  ∃ g : State,
    (lastRod s.mainChain = none → g = s) ∧ (∀ n, lastRod s.mainChain = some n → g = s.gradeExit n s.clock) ∧
    t = { g with
      rods := g.rods.map fun r => { r with location := mainMove r.location }
      mainChain := (s.buffer.head? :: s.mainChain).dropLast
      buffer := s.buffer.tail }

/-- `t` is `s` after a chain's shift, before the hand-offs. -/
def Shifted (s t : State) (l : Layout) : Chain → Prop
  | .pre => PreShifted s t l
  | .main => MainShifted s t

/-- Zone z adopts a profile at a shift of chain c: the rod at its first position is of a lot whose profile is not the governing
one (R88). -/
def State.Adopts (t : State) (c : Chain) (l : Layout) (z : Nat) (a : Zone) (g : Governing) : Prop :=
  l.zoneChain z = c ∧ a.governing.map Governing.profile ≠ some g.profile ∧
  ∃ n r lot p, (t.positions c)[l.zoneFirst z]? = some (some n) ∧ t.rod n = some r ∧ t.lot r.lotSlot = some lot ∧
    lot.profile = g.profile ∧ t.profile g.profile = some p ∧ p.zones[z]? = some g.entry

/-- What the hand-offs after a shift of chain c do to zone z, whose controller was `a` (R56): adoption; in RUN_OUT the purge of a zone
whose run-out condition holds (R86); the wake of an ECONOMY zone whose wake condition holds, with its place in the ramp
queue (R82); for every other zone the economy timer as its conditions leave it (R80), and for a WAITING one perhaps a grant. -/
def State.ZoneAfterShift (t : State) (c : Chain) (l : Layout) (z : Nat) (a b : Zone) : Prop :=
  let runsOut := t.line.state = .runOut ∧ a.state.moving ∧ t.runOutCondition z = true
  let wakes := a.state = .economy ∧ t.wakeCondition z = true
  ∃ m : Zone,
    (∀ g, t.Adopts c l z a g → t.TakesCopy z g a m) ∧ ((∀ g, ¬ t.Adopts c l z a g) → m = a) ∧
    b.governing = m.governing ∧ b.latch = m.latch ∧ b.tickTimer = a.tickTimer ∧
    b.economyTimer = (if b.state = .conditioned then t.economyAfter l z a else none) ∧
    (runsOut → b.purged t.clock t.purgeTicks) ∧
    (wakes → b.queued t.clock) ∧
    (¬ runsOut → ¬ wakes →
      b = { m with economyTimer := t.economyAfter l z a } ∨ t.Granted l z { m with economyTimer := none } b)

/-- The zones that a shift wakes, in index order (R82). -/
def State.wokenZones (t : State) : List Nat :=
  (List.range t.zones.length).filter fun z => t.zoneState z == some .economy && t.wakeCondition z

/-- `u` is `t` after the hand-offs of a shift of chain c: zone by zone as `ZoneAfterShift` says, BAND_LOST for every latch that dropped,
the ramp queue with the woken zones at its tail and without the zones that wait no longer, outside RUN_OUT with exactly the grants of R75,
and a BLOCKED pre chain released by a main shift that took the buffer's head (R49, R56). -/
def HandedOff (t u : State) (c : Chain) (l : Layout) (tookBuffer : Bool) : Prop :=
  let queue := t.arbiter.queue ++ t.wokenZones
  EachZone t.zones u.zones (t.ZoneAfterShift c l) ∧
  u.arbiter.queue = queue.filter (fun z => u.zoneState z == some .waiting) ∧
  (t.line.state ≠ .runOut → u.arbiter = t.arbiter.granting l t.clock queue
    (if t.wokenZones = [] then 0 else t.arbiter.grants l (l.rampSlots - t.slotsInUse) queue.length)) ∧
  u = { t with
    zones := u.zones
    arbiter := u.arbiter
    notices := t.notices.bandLosts t.clock t.zones u.zones
    preSeq :=
      if c = .main ∧ tookBuffer = true ∧ t.preSeq.state = .blocked ∧ t.takeCondition .pre = true then
        { t.preSeq with
          state := .stepping, entered := t.clock, intervalTimer := none, stepTimer := some (l.stepTimeout * 100)
          blockedTimer := none }
      else t.preSeq }

/-- A sequencer that has counted one shift at `now` (R51). -/
def Sequencer.counted (q : Sequencer) (now : Word32) : Sequencer :=
  { q with shiftCount := q.shiftCount + 1, lastShift := now }

/-- A sequencer that has gone to IDLE with its interval timer at a step interval, or to STOPPED without one (R51, R60). -/
def Sequencer.rested (q : Sequencer) (now : Word32) (interval : Option Nat) : Sequencer :=
  { q with
    state := if interval = none then .stopped else .idle
    entered := now, intervalTimer := interval, stepTimer := none, blockedTimer := none }

/-- The step interval of a chain in ticks. -/
def Layout.interval (l : Layout) : Chain → Nat
  | .pre => l.preInterval * 10
  | .main => l.mainInterval * 10

/-- The interval timer with which a chain goes on after its shift: none, to STOPPED, where the line does not allow steps or the chain is
empty with its upstream in RUN_OUT (R50, R51). -/
def State.goesOn (u : State) (c : Chain) (l : Layout) : Option Nat :=
  if u.line.state = .running ∨ (u.line.state = .runOut ∧ u.emptyUpTo c = false) then some (l.interval c) else none

/-! ## Laws of the modes -/

/-- The timer that runs is the one of the chain's state (table Chain states). -/
def Sequencer.timed (q : Sequencer) : Prop :=
  (q.intervalTimer.isSome = true ↔ q.state = .idle) ∧ (q.stepTimer.isSome = true ↔ q.state = .stepping) ∧
  (q.blockedTimer.isSome = true → q.state = .blocked)

/-- The law of the modes: a start-up phase in INIT alone, a hold mask and origin in HOLD alone (R131), the capture unit armed
exactly in the armed line states (R24), a chain waiting to step only where the line allows steps (R46), and the timers of the chain
states. -/
def ModeLaw (s : State) : Prop :=
  (s.line.phase.isSome = true ↔ s.line.state = .init) ∧
  (s.line.state ≠ .hold → s.line.holdMask = 0 ∧ s.line.holdOrigin = .noHold) ∧
  (s.capture.state = .disarmed ↔ s.line.state.arms = false) ∧
  (∀ c, (s.seq c).timed) ∧
  (∀ c, (s.seq c).state = .idle ∨ (s.seq c).state = .blocked → s.line.state.steps = true)

/-! ## Capacities (R15, R53, R184) -/

/-- A step of the pre chain has been issued and its shift not applied: STEPPING, or JAMMED with the late-applied flag clear. -/
def State.preStepOpen (s : State) : Prop :=
  s.preSeq.state = .stepping ∨ (s.preSeq.state = .jammed ∧ s.preSeq.lateApplied = false)

/-- The landing queue never holds more than 4 rods, the transfer buffer never more than 8, the rod table never more than 4,012 and the
report queue never more than 256 reports; the room that an open pre-chain step was issued under is still there (R15, R53, R184). -/
def CapacityLaw (s : State) : Prop :=
  s.landing.length ≤ 4 ∧ s.buffer.length ≤ 8 ∧ s.rods.length ≤ 4012 ∧ s.reports.reports.length ≤ 256 ∧
  (s.preStepOpen → s.takeCondition .pre = true)

/-! ## The ramp arbiter (R74, R75) -/

/-- The line states in which no zone is in motion: INIT, UNCONFIGURED, COLD. -/
def LineState.resting (l : LineState) : Prop := l = .init ∨ l = .unconfigured ∨ l = .cold

/-- The law of the arbiter: the queue holds each WAITING zone once and no other (R74), no more zones ramp than the layout's ramp
slots (R75), there are as many zones as the layout says, none without one (R65), every zone is OFF in INIT, UNCONFIGURED and
COLD (R91, R137), the start-pending flag is set in PURGING alone (R65), and in HOLD and SHUTDOWN no zone ramps, dries or waits and no
start is pending (R83, R85). -/
def ArbiterLaw (s : State) : Prop :=
  s.arbiter.queue.Nodup ∧
  (∀ z, z ∈ s.arbiter.queue ↔ s.zoneState z = some .waiting) ∧
  (∀ l, s.store.layout = some l → s.slotsInUse ≤ l.rampSlots) ∧
  (s.store.layout = none → s.zones = []) ∧
  (∀ l, s.store.layout = some l → s.zones.length = l.zoneCount) ∧
  (s.line.state.resting → ∀ zn ∈ s.zones, zn.state = .off) ∧
  (∀ zn ∈ s.zones, zn.startPending = true → zn.state = .purging) ∧
  (s.line.state = .hold ∨ s.line.state = .shutdown → ∀ zn ∈ s.zones, zn.startPending = false ∧
    (zn.state = .off ∨ zn.state = .purging ∨ zn.state = .failed ∨ (zn.state = .holding ∧ s.line.state = .hold)))

/-- The law of the spacing timer: it runs neither before the first grant since a reset nor with a ramp spacing of 0 (R75). -/
def SpacingLaw (s : State) : Prop :=
  (s.arbiter.granted = false → s.arbiter.spacing = none) ∧
  (∀ l, s.store.layout = some l → l.rampSpacing = 0 → s.arbiter.spacing = none)

/-! ## The train (R14, R17) -/

/-- The rod number at a place of the train. -/
def State.rodAt (s : State) : Location → Option Word32
  | .landing i => s.landing[i]?
  | .pre p => (s.preChain[p]?).join
  | .buffer i => s.buffer[i]?
  | .main q => (s.mainChain[q]?).join

/-- No rod is live and nothing stands in the train. -/
def State.noRods (s : State) : Prop :=
  s.rods = [] ∧ s.landing = [] ∧ s.buffer = [] ∧ allGaps s.preChain = true ∧ allGaps s.mainChain = true

/-- A layout that a running layout job will install passed its checks (R170). -/
def State.jobSound (s : State) : Prop :=
  ∀ j, s.store.job = some j → j.kind = .layoutWrite → layoutFault (readLayout j.image) = none

/-- The law of the train: rod numbers are distinct and the latched rod is not live (R7); every live rod stands at the place its
location names and every rod of a place is live there (R14); the chains are as long as the layout says, within R170's bounds (R10,
R12); in INIT, UNCONFIGURED and COLD the train is empty, the latch free and the chains stopped (R17). -/
def TrainLaw (s : State) : Prop :=
  (s.rods.map (·.number)).Nodup ∧
  (∀ l, s.capture.latch = some l → ∀ r ∈ s.rods, r.number ≠ l.number) ∧
  (∀ r ∈ s.rods, s.rodAt r.location = some r.number) ∧
  (∀ loc n, s.rodAt loc = some n → ∃ r ∈ s.rods, r.number = n ∧ r.location = loc) ∧
  (∀ l, s.store.layout = some l →
    layoutFault l = none ∧ s.preChain.length = l.preCount ∧ s.mainChain.length = l.mainCount) ∧
  (s.line.state ≠ .init → s.line.state ≠ .unconfigured → s.store.layout.isSome = true) ∧
  (s.line.state.resting →
    s.noRods ∧ s.capture.latch = none ∧ s.preSeq.state = .stopped ∧ s.mainSeq.state = .stopped) ∧
  s.jobSound

/-! ## The order of the train (R16) -/

/-- The rod numbers of the train in reading order, and after them the latched rod's: the main chain from its last position back, the
buffer from head to tail, the pre chain from its last position back, the landing queue from head to tail (R16). -/
def State.rodNumbers (s : State) : List Word32 :=
  s.mainChain.reverse.filterMap id ++ s.buffer ++ s.preChain.reverse.filterMap id ++ s.landing
    ++ (s.capture.latch.map Latch.number).toList

/-- Number `a` was given before `b`, with the counter at `c`: numbers from the counter up are those given before it wrapped, and
come before the numbers below it (R8, R16). -/
def GivenBefore (c a b : Word32) : Prop :=
  (a.toNat < b.toNat ∧ (b.toNat < c.toNat ∨ c.toNat ≤ a.toNat)) ∨ (b.toNat < c.toNat ∧ c.toNat ≤ a.toNat)

/-- The law of the order: no rod has number 0, and along the train numbers strictly increase but for the one point where they
wrapped (R8, R16). -/
def OrderLaw (s : State) : Prop :=
  s.capture.rodCounter ≠ 0 ∧ (∀ n ∈ s.rodNumbers, n ≠ 0) ∧ s.rodNumbers.Pairwise (GivenBefore s.capture.rodCounter)

/-! ## Lots (R119, R121, R127, R20) -/

/-- The number of live rods of the lot in a slot. -/
def State.liveRods (s : State) (slot : Nat) : Nat := s.rods.countP fun r => r.lotSlot == slot

/-- The law of one lot: born equals scrapped plus in-train plus the four exit counts, modulo 2^32, and in-train equals its live
rods (R121). -/
def State.lotBalanced (s : State) (slot : Nat) (l : Lot) : Prop :=
  l.born = l.scrapped + BitVec.ofNat 32 l.inTrain + l.accepted + l.reviewed + l.reworked + l.rejected ∧
  l.inTrain = s.liveRods slot

/-- The law of the lot table: at most one lot is OPEN and no two share an id (R119), every lot is balanced (R121), a CLOSED lot has rods
in the train (R119, R127), and every live rod's slot holds a lot (R20). -/
def LotLaw (s : State) : Prop :=
  (∀ i j a b, s.lot i = some a → s.lot j = some b → (a.state = .opened ∧ b.state = .opened) ∨ a.id = b.id → i = j) ∧
  (∀ i l, s.lot i = some l → s.lotBalanced i l) ∧
  (∀ i l, s.lot i = some l → l.state = .closed → 0 < l.inTrain) ∧
  (∀ r ∈ s.rods, (s.lot r.lotSlot).isSome = true)

end Machine

end Sys2Proof
end

