-- ==== Sys2Proof/Certificates/Slice0/Obligations.lean ====
section
/-! DEFINITION. The statements for the provers, one `def Obligations.<Name> : Prop` each, in the order of OBLIGATIONS.json. Each
docstring says which rules of spec/ the statement formalises, or which choice of the model it states. -/

open Sys2Proof Sys2Proof.Machine

/-! ## The step, the queue and the clock -/

/-- O1. The command at the front of the queue is executed with the queue's rest: the queue is first in, first out. The queue is the model's own,
not the spec's: that commands reach the part through it, one a step, is the model's choice (assumption log 2). -/
def Obligations.StepRunsTheFrontCommand : Prop :=
  ∀ (c : Instr) (rest : List Instr) (s : State),
    step { s with pending := c :: rest } = exec c { s with pending := rest }

/-- O2. On an empty queue the timer event that is due is executed, else one tick of 10 ms passes: the clock advances by 1
modulo 2^32 and every running timer counts it, a stopped timer stays stopped, a standing bus fault ages, and nothing else but the link port (where a
prepared reply waits or begins) changes. The order of events due together and the tick on an empty queue are the
model's choices (assumption logs 2 and 4). An event is due exactly where an accepted line check waits for no poll or a timer of `State.DueAt` stands at 0; of several the earliest in that
order is taken, with the bus line as the master last found it (log 4). Whatever the free value, a prepared reply has begun after two ticks, 20 ms, with LINK DE asserted and
the receiver hunting (assumption log 5). -/
def Obligations.EmptyQueueTakesTheDueEventOrOneTick : Prop :=
  ∀ s : State, s.pending = [] →
    (∀ r, s.link.port = .preparing r 0 →
      s.tick.tick.link.port = .sending r ∧ s.tick.tick.link.receiver = .hunting ∧ s.tick.tick.linkDe = true) ∧
    (∀ rank c, s.DueAt rank c → (∀ j, j < rank → ∀ d, ¬ s.DueAt j d) → s.nextDue = some c) ∧
    ((∀ rank c, ¬ s.DueAt rank c) → s.nextDue = none) ∧
    (∀ c, s.nextDue = some c → step s = exec c s) ∧
    (s.nextDue = none → ∃ k : Link, step s = .next { s with
      clock := s.clock + 1
      preSeq := { s.preSeq with
        intervalTimer := s.preSeq.intervalTimer.map (· - 1)
        stepTimer := s.preSeq.stepTimer.map (· - 1)
        blockedTimer := s.preSeq.blockedTimer.map (· - 1) }
      mainSeq := { s.mainSeq with
        intervalTimer := s.mainSeq.intervalTimer.map (· - 1)
        stepTimer := s.mainSeq.stepTimer.map (· - 1)
        blockedTimer := s.mainSeq.blockedTimer.map (· - 1) }
      zones := s.zones.map fun zn => { zn with
        tickTimer := zn.tickTimer.map (· - 1)
        economyTimer := zn.economyTimer.map (· - 1)
        rampTimer := zn.rampTimer.map (· - 1)
        purgeTimer := zn.purgeTimer.map (· - 1) }
      arbiter := { s.arbiter with spacing := s.arbiter.spacing.map (· - 1) }
      probeBus := { s.probeBus with
        pollTimer := s.probeBus.pollTimer.map (· - 1)
        recovery := s.probeBus.recovery.map (· - 1)
        faultAge := if s.probeBus.fault.isSome then s.probeBus.faultAge + 1 else s.probeBus.faultAge }
      link := k
      freeCount := s.freeCount + 1 } ∧
      (s.link.port = .idle → k = s.link) ∧ (∀ r, s.link.port = .sending r → k = s.link))

/-! ## Resets -/

/-- O3. The values that the reset tables give: INIT with phase LOAD_LAYOUT and no hold, capture DISARMED with every count 0, no
latch and rod number 1, an empty train, STOPPED chains, no zones, an empty ramp queue, an all-zero table, lane ACCEPT, no
lots, eleven empty probe records, the poll schedule stopped with no poll in flight and no recovery, no bus fault, no line check and result NONE, an idle store with EMPTY slots and CURRENT
blocks, no notice pending and every kind enabled, an empty report queue with sequence number 0, and a silent link. The link's address 1 follows from
the straps at 0, which are the model's choice (assumption log 1), as the link rate 0 does. -/
def Obligations.ResetLeavesTheResetValues : Prop :=
  State.reset.clock = 0 ∧
  State.reset.line = { state := .init, phase := some .loadLayout, holdMask := 0, holdOrigin := .noHold, entered := 0 } ∧
  State.reset.capture =
    { state := .disarmed, hangTime := 0, latch := none, rodCounter := 1,
      channels := List.replicate 6 { divider := 0, count := 0, overflow := false, trim := 0 } } ∧
  State.reset.rods = [] ∧ State.reset.landing = [] ∧ State.reset.buffer = [] ∧
  (∀ c, State.reset.positions c = [] ∧ State.reset.seq c =
    { state := .stopped, intervalTimer := none, stepTimer := none, blockedTimer := none, lateApplied := false, shiftCount := 0,
      lastShift := 0, entered := 0 }) ∧
  State.reset.zones = [] ∧ State.reset.arbiter = { queue := [], granted := false, lastGrant := 0, spacing := none } ∧
  State.reset.table = List.replicate 168 0 ∧ State.reset.divert = .accept ∧ State.reset.lots = List.replicate 16 none ∧
  State.reset.probeBus.records = List.replicate 11 { reading := none, misses := 0, lastMiss := none } ∧
  State.reset.probeBus.pollTimer = none ∧ State.reset.probeBus.inFlight = none ∧ State.reset.probeBus.recovery = none ∧
  State.reset.probeBus.roundOnStop = false ∧ State.reset.tableLoaded = false ∧ State.reset.slotsInUse = 0 ∧
  State.reset.spreaderHold = true ∧ State.reset.attention = false ∧ State.reset.linkDe = false ∧
  (∀ c, State.reset.stepOut c = false) ∧ (∀ n, State.reset.heat n = false ∧ State.reset.vent n = false) ∧
  State.reset.probeBus.fault = none ∧ State.reset.probeBus.check = none ∧
  State.reset.probeBus.result = { code := .noCheck, distance := 0, time := 0 } ∧
  State.reset.store =
    { job := none, layout := none, slots := List.replicate 8 .empty, status := List.replicate 10 .current, loadBlock := 0 } ∧
  State.reset.notices = { records := List.replicate 20 none, enabled := BitVec.allOnes 20 } ∧
  State.reset.reports = { reports := [], nextSequence := 0 } ∧
  State.reset.link.rate = 0 ∧ State.reset.link.resetAtEnd = false ∧ State.reset.link.address = 1 ∧
  State.reset.link.port = .idle ∧ State.reset.link.receiver = .hunting ∧
  State.reset.link.held = none ∧ State.reset.link.lastResetKind = .powerOn ∧ State.reset.link.lastResetTime = 0

/-- O4. Both resets, in every state. POWER_ON_RESET: every block at its power-on values, the straps sampled (a strap value of 0 is
address 1), the clock 0, every notice kind enabled. SOFT_RESET: the same but for the clock, which runs on, the notice enable set,
which is kept, the kind and time of the reset, and the entry times of line and chains, which are the clock at the reset. RESET outside INIT is answered OK and changes
nothing else until the end of its reply; REPLY_END after it takes the soft reset with the straps as they stand and drops a held request; after any other reply
REPLY_END releases the port, the receiver hunts, and a held request is taken; with no reply outstanding REPLY_END changes nothing (the last
and the SOFT_RESET row in every state are the model's reading: assumption log 13). -/
def Obligations.ResetsSetEveryBlock : Prop :=
  (∀ (addr : BitVec 4) (baud : BitVec 2) (s : State),
    exec (.powerOnReset addr baud) s = .next { State.reset with
      link := { State.reset.link with address := if addr = 0 then 1 else addr, rate := baud }
      pins := { s.pins with addr := addr, baud := baud }
      pending := s.pending
      freeCount := s.freeCount } ∧
    exec (.softReset addr baud) s = .next { State.reset with
      clock := s.clock
      line := { State.reset.line with entered := s.clock }
      preSeq := { State.reset.preSeq with entered := s.clock }
      mainSeq := { State.reset.mainSeq with entered := s.clock }
      notices := { State.reset.notices with enabled := s.notices.enabled }
      link := { State.reset.link with address := if addr = 0 then 1 else addr, rate := baud, lastResetKind := .soft,
                                      lastResetTime := s.clock }
      pins := { s.pins with addr := addr, baud := baud }
      pending := s.pending
      freeCount := s.freeCount }) ∧
  (∀ s : State,
    (s.line.state ≠ .init → exec .reset s = .next { s with
      link := { s.link.prepared 0x05 .ok [] with resetAtEnd := true } }) ∧
    (s.link.port ≠ .idle → s.link.resetAtEnd = true →
      exec .replyEnd s = exec (.softReset s.pins.addr s.pins.baud) s) ∧
    (s.link.port ≠ .idle → s.link.resetAtEnd = false → s.link.held = none →
      exec .replyEnd s = .next { s with link := { s.link with port := .idle, receiver := .hunting } }) ∧
    (∀ f, s.link.port ≠ .idle → s.link.resetAtEnd = false → s.link.held = some f →
      exec .replyEnd s = .next
        (({ s with link := { s.link with port := .idle, receiver := .hunting, held := none } } : State).takeFrame f)) ∧
    (s.link.port = .idle → exec .replyEnd s = .next s))

/-! ## Commands and requests -/

/-- O5. Every well-formed command completes with a next state in every state; a command fails to complete only where it is
ill-formed and no request of the link, and then by that name. -/
def Obligations.WellFormedCommandsComplete : Prop :=
  ∀ (c : Instr) (s : State),
    (c.wellFormed = true → ∃ t, exec c s = .next t) ∧
    (c.wellFormed = false → c.request.isNone = true → ∃ name, exec c s = .refused (.illFormed name)) ∧
    (∀ code p, c.wellFormed = false → c.request = some (code, p) → Refuses s c code .badLength [])

/-- O6. A reading request completes in every state and changes nothing but the link port, which holds its reply. -/
def Obligations.ReadingRequestsChangeNothing : Prop :=
  ∀ (c : Instr) (s : State), c.reads = true →
    ∃ code request status payload, c.request = some (code, request) ∧
      exec c s = .next { s with link := s.link.prepared code status payload }

/-- O7. In INIT every request but IDENTIFY, STATUS, TIME READ and NOTICE FETCH is refused NOT_READY before its own checks and
changes nothing else, and a broadcast TIME SET or LINE HOLD is ignored. -/
def Obligations.InitRefusesRequests : Prop :=
  ∀ s : State, s.line.state = .init →
    (∀ (c : Instr) (code : Byte) (p : List Byte), c.wellFormed = true → c.request = some (code, p) →
      code ≠ 0x01 → code ≠ 0x02 → code ≠ 0x04 → code ≠ 0x42 → Refuses s c code .notReady []) ∧
    (∀ v, exec (.broadcastTimeSet v) s = .next { s with link := s.link.hunting }) ∧
    (∀ mask, exec (.broadcastLineHold mask) s = .next { s with link := s.link.hunting })

/-- O8. Every well-formed request row is the taking of the frame that spells it: the link port, given the row's request code
and payload, does exactly what the row does, in every state. No byte of a payload is read at the wrong place. -/
def Obligations.RequestRowsAreTheirFrames : Prop :=
  ∀ (c : Instr) (code : Byte) (p : List Byte) (s : State), c.wellFormed = true → c.request = some (code, p) →
    requestLength code = some p.length ∧ exec c s = .next (s.takeRequest code p)

/-- O9. The bytes of a frame for this node, or of a broadcast, received one after another with the port idle and the receiver
hunting, are the taking of that frame: the receiver neither loses nor reorders a byte, and its CRC is the frame's. -/
def Obligations.ReceivedBytesAreTheFrame : Prop :=
  ∀ (f : Frame) (s : State), f.payload.length ≤ 240 → s.link.receiver = .hunting → s.link.port = .idle →
    (f.address = 0 ∨ f.address.toNat = s.link.address.toNat) →
    runs (received (requestBytes f)) s = some (s.takeFrame f)

/-- O10. The layout and profile images are faithful both ways: an image of 63 (215) bytes is the image of what is read from it, and
a layout (profile) that passes its field checks is what is read from its image. -/
def Obligations.StoreImagesRoundTrip : Prop :=
  (∀ bytes : List Byte, bytes.length = 63 → layoutImage (readLayout bytes) = bytes) ∧
  (∀ bytes : List Byte, bytes.length = 215 → profileImage (readProfile bytes) = bytes) ∧
  (∀ l : Layout, layoutFault l = none → l.positions.length = 10 → (∀ n ∈ l.positions, n < 65536) →
    l.prescales.length = 6 → l.massFactors.length = 6 →
    (layoutImage l).length = 63 ∧ readLayout (layoutImage l) = l) ∧
  (∀ p : Profile, profileFault p = none → p.name.length = 12 → p.zones.length = 10 →
    (profileImage p).length = 215 ∧ readProfile (profileImage p) = p)

/-- O11. The receiver: bytes are dropped while LINK DE is asserted; in hunting every byte but 0xA5 is dropped and 0xA5 begins a
frame; while collecting, a byte that neither closes the frame nor is a length above 240 is added with its time, and a length byte above
240 discards the frame. The byte that closes a frame drops it where the CRC is wrong, and where the frame is addressed to another node. A gap and a discarded frame leave the receiver hunting. Nothing but the receiver changes. -/
def Obligations.ReceiverCollectsFrames : Prop :=
  ∀ (b : Byte) (s : State),
    (s.linkDe = true → exec (.linkByte b) s = .next s) ∧
    (s.linkDe = false → s.link.receiver = .hunting → b ≠ 0xA5 → exec (.linkByte b) s = .next s) ∧
    (s.linkDe = false → s.link.receiver = .hunting →
      exec (.linkByte 0xA5) s = .next { s with link := { s.link with receiver := .collecting [] s.clock } }) ∧
    (∀ bytes last, s.linkDe = false → s.link.receiver = .collecting bytes last →
      bytes.length = 2 → 240 < b.toNat → exec (.linkByte b) s = .next { s with link := s.link.hunting }) ∧
    (∀ bytes last, s.linkDe = false → s.link.receiver = .collecting bytes last →
      bytes.length < 2 ∨ (bytes.length = 2 ∧ b.toNat ≤ 240) ∨
        (2 < bytes.length ∧ bytes.length + 1 ≠ 5 + (bytes.getD 2 0).toNat) →
      exec (.linkByte b) s = .next { s with link := { s.link with receiver := .collecting (bytes ++ [b]) s.clock } }) ∧
    (∀ bytes last, s.linkDe = false → s.link.receiver = .collecting bytes last →
      2 < bytes.length → bytes.length + 1 = 5 + (bytes.getD 2 0).toNat →
      let body := bytes.take (bytes.length - 1)
      let sent := bytes.drop (bytes.length - 1) ++ [b]
      let crc : List Byte := [(crc16 body >>> 8).setWidth 8, (crc16 body).setWidth 8]
      (sent ≠ crc → exec (.linkByte b) s = .next { s with link := s.link.hunting }) ∧
      (sent = crc → bytes.getD 0 0 ≠ 0 → (bytes.getD 0 0).toNat ≠ s.link.address.toNat →
        exec (.linkByte b) s = .next { s with link := s.link.hunting })) ∧
    exec .byteGap s = .next { s with link := s.link.hunting } ∧
    exec .frameDiscarded s = .next { s with link := s.link.hunting }

/-- O12. A correct frame that completes while a request is being served is held as the one pending request, or dropped without a
trace where one is held; a broadcast received in INIT, or with another code or length than R193's, is ignored whatever the port does and takes no
pending place (the model's reading: assumption log 25); a frame for another node is dropped, and so is one that completes while a reply is sent. A request code outside
the table is answered UNKNOWN. That a row is taken whatever the port holds is the model's reading (assumption log 12). -/
def Obligations.BusyPortHoldsOneRequest : Prop :=
  ∀ (f : Frame) (s : State), f.payload.length ≤ 240 →
    let taken := s.line.state ≠ .init ∧
      ((f.code = 0x03 ∧ f.payload.length = 4) ∨ (f.code = 0x11 ∧ f.payload.length = 2))
    (f.address = 0 → ¬ taken → exec (.frameHeldPending f) s = .next { s with link := s.link.hunting }) ∧
    (∀ r w, s.link.port = .preparing r w → (f.address = 0 ∧ taken) ∨ (f.address ≠ 0 ∧ f.address.toNat = s.link.address.toNat) →
      s.link.held = none →
      exec (.frameHeldPending f) s = .next { s with link := { s.link.hunting with held := some f } }) ∧
    (∀ r w g, s.link.port = .preparing r w → s.link.held = some g →
      exec (.frameHeldPending f) s = .next { s with link := s.link.hunting }) ∧
    (∀ r, s.link.port = .sending r → exec (.frameHeldPending f) s = .next { s with link := s.link.hunting }) ∧
    (f.address ≠ 0 → f.address.toNat ≠ s.link.address.toNat →
      exec (.frameHeldPending f) s = .next { s with link := s.link.hunting }) ∧
    (∀ code, requestLength code = none → Refuses s (.unknownRequest code) code .unknown [])

/-- O13. Outside INIT, TIME SET sets the line clock and changes the clock value alone beside its reply, which carries the clock as
set; a broadcast TIME SET does the same without a reply. TIME READ, IDENTIFY and STATUS, in every line state, answer
their 4, 34 and 30 bytes, each field at its place, and change nothing. -/
def Obligations.PartLevelRequests : Prop :=
  ∀ (v : Word32) (s : State),
    (s.line.state ≠ .init → ∃ p, exec (.timeSet v) s = .next { s with clock := v, link := s.link.prepared 0x03 .ok p } ∧
      p.length = 4 ∧ HasField p 0 4 v.toNat) ∧
    (s.line.state ≠ .init → exec (.broadcastTimeSet v) s = .next { s with clock := v, link := s.link.hunting }) ∧
    (Reads s .timeRead 0x04 4 fun p => HasField p 0 4 s.clock.toNat) ∧
    (Reads s .identify 0x01 34 fun p =>
      fieldBytes p 0 19 = [0x41, 0x43, 0x4F, 0x42, 0x52, 0x49, 0x4E, 0x20, 0x55, 0x4C, 0x50, 0x49, 0x43, 0x4F, 0x20, 0x4C, 0x47,
        0x34, 0x30] ∧
      HasField p 19 1 1 ∧ HasField p 20 1 s.link.address.toNat ∧ HasField p 21 1 s.link.rate.toNat ∧ HasField p 22 2 4096 ∧
      HasField p 24 1 16 ∧ HasField p 25 2 256 ∧ HasField p 27 1 8 ∧ HasField p 28 1 10 ∧ HasField p 29 1 11 ∧
      HasField p 30 1 4 ∧ HasField p 31 1 8 ∧ HasField p 32 2 4000) ∧
    (Reads s .status 0x02 30 fun p =>
      HasField p 0 1 s.line.state.code ∧ HasField p 1 1 ((s.line.phase.map StartPhase.code).getD 0) ∧
      HasField p 2 2 s.line.holdMask.toNat ∧ HasField p 4 1 s.line.holdOrigin.code ∧ HasField p 5 4 s.line.entered.toNat ∧
      HasField p 9 4 s.clock.toNat ∧ HasField p 13 1 s.link.lastResetKind.code ∧ HasField p 14 4 s.link.lastResetTime.toNat ∧
      HasField p 18 1 s.enabledPending ∧ HasField p 19 1 s.disabledPending ∧ HasField p 20 2 s.reports.reports.length ∧
      HasField p 22 4 s.openLotId.toNat ∧
      HasField p 26 1 ((s.store.job.map (·.block)).getD 0xFF) ∧ HasField p 27 1 s.preSeq.state.code ∧
      HasField p 28 1 s.mainSeq.state.code ∧ HasField p 29 1 (if s.spreaderHold then 1 else 0))

/-! ## Line requests -/

/-- O14. LINE START in COLD and SHUTDOWN with an OPEN lot whose profile slot is VALID and a table that is not all zeros moves the line to STARTING: every zone takes the OPEN lot's profile and its copy of that profile's entry and keeps its latch, its tick
timer runs on, or starts where it was stopped; the zones in OFF and FAILED enter WAITING, HEAT off and VENT closed, and join the ramp queue in index order, and the head of that queue is granted as the slots and the spacing allow; a zone in PURGING has start pending
set and stays; LINE_STATE is raised, the reply is the new line state, and nothing else changes. -/
def Obligations.LineStartStartsEveryZone : Prop :=
  ∀ (s : State) (lot : Lot) (prof : Profile), ModeLaw s → ArbiterLaw s → s.zones ≠ [] →
    s.line.state = .cold ∨ s.line.state = .shutdown → s.openLot = some lot → s.profile lot.profile = some prof →
    (∃ e ∈ s.table, e ≠ 0) →
    ∃ l, s.store.layout = some l ∧
      let queue := (List.range s.zones.length).filter fun z => s.zoneState z == some .off || s.zoneState z == some .failed
      let k := s.arbiter.grants l l.rampSlots queue.length
      ∃ zones, exec .lineStart s = .next { s with
          line := { state := .starting, phase := none, holdMask := 0, holdOrigin := .noHold, entered := s.clock }
          zones := zones
          arbiter := s.arbiter.granting l s.clock queue k
          notices := s.notices.occurred .lineState s.clock 3
          link := s.link.prepared 0x10 .ok [3] } ∧
        EachZone s.zones zones fun z a b =>
          (∀ e, prof.zones[z]? = some e → b.governing = some { profile := lot.profile, entry := e }) ∧
          (prof.zones[z]? = none → b.governing = a.governing) ∧
          (a.state = .off ∨ a.state = .failed →
            s.AfterGrants l queue k z ({ a.ticking (l.tickPeriod * 100) with governing := b.governing }.waits s.clock) b) ∧
          (a.state = .purging →
            b = { a.ticking (l.tickPeriod * 100) with governing := b.governing, startPending := true })

/-- O15. The refusals of the line requests, each the first check that fails, each leaving every state as it was: LINE START outside
COLD and SHUTDOWN, then without an OPEN lot, with a profile slot that is not VALID, with a table of zeros; LINE HOLD, LINE RELEASE, LINE
RUN-OUT and LINE SHUTDOWN in a line state that does not take them; LINE RUN-OUT while a chain is JAMMED. A broadcast hold in a line
state that does not take it is ignored. -/
def Obligations.LineRequestsAreRefused : Prop :=
  ∀ (s : State) (mask : BitVec 16), s.line.state ≠ .init →
    (s.line.state ≠ .cold → s.line.state ≠ .shutdown → Refuses s .lineStart 0x10 .notNow []) ∧
    (s.line.state = .cold ∨ s.line.state = .shutdown →
      (s.openLot = none → Refuses s .lineStart 0x10 .noLot []) ∧
      (∀ l, s.openLot = some l → s.profile l.profile = none → Refuses s .lineStart 0x10 .badProfile []) ∧
      (∀ l, s.openLot = some l → (s.profile l.profile).isSome = true → (∀ e ∈ s.table, e = 0) →
        Refuses s .lineStart 0x10 .badTable [])) ∧
    (s.line.state ≠ .starting → s.line.state ≠ .running → s.line.state ≠ .runOut →
      Refuses s (.lineHold mask) 0x11 .notNow [] ∧
      exec (.broadcastLineHold mask) s = .next { s with link := s.link.hunting }) ∧
    (s.line.state ≠ .hold → Refuses s .lineRelease 0x12 .notNow []) ∧
    (s.line.state ≠ .running ∨ s.preSeq.state = .jammed ∨ s.mainSeq.state = .jammed → Refuses s .lineRunOut 0x13 .notNow []) ∧
    (s.line.state ≠ .starting → s.line.state ≠ .running → s.line.state ≠ .hold → s.line.state ≠ .runOut →
      Refuses s .lineShutdown 0x14 .notNow [])

/-- O16. LINE HOLD in STARTING, RUNNING and RUN_OUT holds the line with the request's set of zones 0..9 and origin HOST (mask bits 10 to 15
name no zone: assumption log 6), empties the ramp queue without a grant, regulates the zones it takes to HOLDING against the hold targets unless they are blind, and answers the new line state; a broadcast hold does the same with the layout's default hold mask, whatever mask
the frame carries, origin BROADCAST, and no reply. -/
def Obligations.HoldsMoveTheZonesByTheMask : Prop :=
  ∀ (s : State) (mask : BitVec 16) (l : Layout), ArbiterLaw s → s.store.layout = some l →
    s.line.state = .starting ∨ s.line.state = .running ∨ s.line.state = .runOut →
    (∃ t, exec (.lineHold mask) s = .next t ∧ HeldBy s t l (mask.setWidth 10) .host ∧ t.link = s.link.prepared 0x11 .ok [5]) ∧
    (∃ t, exec (.broadcastLineHold mask) s = .next t ∧ HeldBy s t l (BitVec.ofNat 10 l.defaultMask) .broadcast ∧
      t.link = s.link.hunting)

/-- O17. LINE RELEASE in HOLD moves the line to STARTING: zones in HOLDING and OFF enter WAITING, HEAT off and VENT closed, and join the ramp queue in index order, whose head is granted as the slots and the spacing allow; zones in PURGING have start pending set; FAILED
zones stay; no governing profile and no latch changes and the tick timers run on; the capture unit is disarmed with a hanging rod abandoned to trim, the chains, the train, the lots and the reports are untouched. -/
def Obligations.LineReleaseRampsTheZonesAgain : Prop :=
  ∀ s : State, ModeLaw s → ArbiterLaw s → s.zones ≠ [] → s.line.state = .hold →
    ∃ l, s.store.layout = some l ∧
      let queue := (List.range s.zones.length).filter fun z => s.zoneState z == some .holding || s.zoneState z == some .off
      let k := s.arbiter.grants l l.rampSlots queue.length
      ∃ zones, exec .lineRelease s = .next { s with
          line := { state := .starting, phase := none, holdMask := 0, holdOrigin := .noHold, entered := s.clock }
          capture := s.capture.disarmed s.prescale
          zones := zones
          arbiter := s.arbiter.granting l s.clock queue k
          notices := s.notices.occurred .lineState s.clock 3
          link := s.link.prepared 0x12 .ok [3] } ∧
        EachZone s.zones zones fun z a b =>
          let kept := a.ticking (l.tickPeriod * 100)
          (a.state = .holding ∨ a.state = .off → s.AfterGrants l queue k z (kept.waits s.clock) b) ∧
          (a.state = .purging → b = { kept with startPending := true }) ∧
          (a.state = .failed → b = kept)

/-- O18. LINE RUN-OUT in RUNNING with no chain JAMMED closes the OPEN lot (with rods in train it is kept CLOSED, and reports and notices but LINE_STATE stay; with none it drains: its LOT_SUMMARY is
offered, LOT_DRAINED raised, its slot freed; every other lot is untouched) and moves the line to RUN_OUT: a chain in IDLE or BLOCKED that is empty with its upstream stops, every other chain and every live rod stays, a zone
whose run-out condition holds purges, and every other zone stays with its economy timer stopped, or is granted from WAITING by a slot released. Where that completes the run-out (the train empty, both chains STOPPED, every zone OFF) the
line goes on to COLD within the event. The run-out condition: no rod in the latch, on the landing queue, at the zone's positions or at any before them on the path, the transfer buffer empty for the last pre-chain zone and for every main-chain zone. The reply gives the state reached and the closed lot. -/
def Obligations.LineRunOutClosesTheLot : Prop :=
  ∀ (s : State) (l : Layout), ArbiterLaw s → s.store.layout = some l → s.line.state = .running → s.preSeq.state ≠ .jammed →
    s.mainSeq.state ≠ .jammed →
    (∀ z, s.runOutCondition z = true ↔
      s.capture.latch = none ∧ s.landing = [] ∧ (l.preZones ≤ z + 1 → s.buffer = []) ∧
      (l.preZones ≤ z → ∀ x ∈ s.preChain, x = none) ∧
      ∀ p n, (s.positions (l.zoneChain z))[p]? = some (some n) → l.zoneFirst z + l.zoneSize z ≤ p) ∧
    ∃ (u : State) (payload : List Byte),
      exec .lineRunOut s = .next { u.settled with link := s.link.prepared 0x13 .ok payload } ∧
      payload.length = 5 ∧ HasField payload 0 1 u.settled.line.state.code ∧ HasField payload 1 4 s.openLotId.toNat ∧
      u = { s with
        line := { state := .runOut, phase := none, holdMask := 0, holdOrigin := .noHold, entered := s.clock }
        preSeq := if s.emptyUpTo .pre then s.preSeq.held s.clock else s.preSeq
        mainSeq := if s.trainEmpty then s.mainSeq.held s.clock else s.mainSeq
        zones := u.zones
        arbiter := { u.arbiter with queue := s.arbiter.queue.filter fun z => u.zoneState z == some .waiting }
        lots := u.lots
        reports := u.reports
        notices := u.notices } ∧
      (∀ slot lot, s.openSlot = some slot → s.lot slot = some lot →
        (0 < lot.inTrain → u.lots = s.lots.set slot (some { lot with state := .closed }) ∧ u.reports = s.reports ∧
          u.notices = s.notices.occurred .lineState s.clock 6) ∧
        (lot.inTrain = 0 →
          let q := s.offerReport (.lotSummary slot { lot with state := .closed } s.clock) (some slot) lot.id
          u.lots = s.lots.set slot none ∧ u.reports = q.reports ∧
          u.notices = (q.notices.occurred .lotDrained s.clock lot.id).occurred .lineState s.clock 6)) ∧
      (s.openSlot = none →
        u.lots = s.lots ∧ u.reports = s.reports ∧ u.notices = s.notices.occurred .lineState s.clock 6) ∧
      EachZone s.zones u.zones fun z a b =>
        let kept := a.ticking (l.tickPeriod * 100)
        b.governing = a.governing ∧ b.latch = a.latch ∧
        (a.state.moving → s.runOutCondition z = true → b.purged s.clock s.purgeTicks) ∧
        (¬ (a.state.moving ∧ s.runOutCondition z = true) → b = kept ∨ s.Granted l z kept b)

/-- O19. LINE SHUTDOWN in STARTING, RUNNING, HOLD and RUN_OUT moves the line to SHUTDOWN: every zone that is not FAILED purges (one already
PURGING keeps its timer and has no start pending), the ramp queue is emptied without a grant, the tick timers run on, the capture unit is disarmed, IDLE and BLOCKED chains stop, the train, the lots and the
reports are kept. -/
def Obligations.LineShutdownPurgesTheZones : Prop :=
  ∀ s : State, ArbiterLaw s →
    s.line.state = .starting ∨ s.line.state = .running ∨ s.line.state = .hold ∨ s.line.state = .runOut →
    ∃ zones,
      exec .lineShutdown s = .next { s with
        line := { state := .shutdown, phase := none, holdMask := 0, holdOrigin := .noHold, entered := s.clock }
        capture := if s.line.state = .starting then s.capture else s.capture.disarmed s.prescale
        preSeq := s.preSeq.held s.clock
        mainSeq := s.mainSeq.held s.clock
        zones := zones
        arbiter := { s.arbiter with queue := [] }
        notices := s.notices.occurred .lineState s.clock 7
        link := s.link.prepared 0x14 .ok [7] } ∧
      EachZone s.zones zones fun _ a b => ∃ l, s.store.layout = some l ∧
        let kept := a.ticking (l.tickPeriod * 100)
        (a.state.moving ∨ a.state = .holding ∨ a.state = .off →
          b.purged s.clock (l.purgeTime * 6000) ∧ b.governing = a.governing ∧ b.latch = a.latch ∧ b.tickTimer = kept.tickTimer ∧
          b.economyTimer = none) ∧
        (a.state = .purging → b = { kept with startPending := false }) ∧
        (a.state = .failed → b = kept)

/-! ## Zones -/

/-- O20. ZONE RESTART of a FAILED zone answers OK: in HOLD and SHUTDOWN the zone goes to OFF; in STARTING, RUNNING and RUN_OUT it enters WAITING at the ramp queue's
tail and may be granted within the event, and in RUN_OUT it purges at once where its run-out condition holds, which may complete the run-out; governing
profile and copy are kept, and nothing but zones and ramp queue changes. It is refused NOT_NOW in UNCONFIGURED and for a zone that is not FAILED, and BAD_VALUE at or beyond the zone count. -/
def Obligations.ZoneRestartLeavesFailed : Prop :=
  ∀ (s : State) (zone : Byte), s.line.state ≠ .init →
    (s.line.state = .unconfigured → Refuses s (.zoneRestart zone) 0x21 .notNow []) ∧
    (s.line.state ≠ .unconfigured → s.zones.length ≤ zone.toNat → Refuses s (.zoneRestart zone) 0x21 .badValue [0]) ∧
    (∀ zn, s.line.state ≠ .unconfigured → s.zones[zone.toNat]? = some zn → zn.state ≠ .failed →
      Refuses s (.zoneRestart zone) 0x21 .notNow []) ∧
    (∀ zn, s.line.state = .hold ∨ s.line.state = .shutdown → s.zones[zone.toNat]? = some zn → zn.state = .failed →
      exec (.zoneRestart zone) s = .next { s with
        zones := s.zones.set zone.toNat { zn with
          state := .off, entered := s.clock, startPending := false, economyTimer := none, rampTimer := none, purgeTimer := none,
          heat := false, vent := false }
        link := s.link.prepared 0x21 .ok [] }) ∧
    (∀ zn, s.line.state = .starting ∨ s.line.state = .running ∨ (s.line.state = .runOut ∧
        s.runOutCondition zone.toNat = false ∧ s.trainEmpty = false) →
      s.zones[zone.toNat]? = some zn → zn.state = .failed →
      ∃ zones arbiter, exec (.zoneRestart zone) s = .next { s with
          zones := zones, arbiter := arbiter, link := s.link.prepared 0x21 .ok [] } ∧
        ∃ b, zones[zone.toNat]? = some b ∧ b.queued s.clock ∧ b.governing = zn.governing) ∧
    (∀ (zn : Zone) (l : Layout), ArbiterLaw s → s.store.layout = some l →
      s.line.state = .starting ∨ s.line.state = .running ∨ s.line.state = .runOut →
      s.zones[zone.toNat]? = some zn → zn.state = .failed →
      ∃ u : State, exec (.zoneRestart zone) s = .next { u.settled with link := s.link.prepared 0x21 .ok [] } ∧
        u = { s with zones := u.zones, arbiter := u.arbiter } ∧
        u.arbiter.queue = (s.arbiter.queue ++ [zone.toNat]).filter (fun y => u.zoneState y == some .waiting) ∧
        (s.line.state ≠ .runOut ∨ s.runOutCondition zone.toNat = false →
          u.arbiter = s.arbiter.granting l s.clock (s.arbiter.queue ++ [zone.toNat])
            (s.arbiter.grants l (l.rampSlots - s.slotsInUse) (s.arbiter.queue.length + 1))) ∧
        EachZone s.zones u.zones fun y a b => b.governing = a.governing ∧ b.latch = a.latch ∧
          (y ≠ zone.toNat → b = a ∨ s.Granted l y a b) ∧
          (y = zone.toNat → s.line.state = .runOut → s.runOutCondition y = true → b.purged s.clock s.purgeTicks) ∧
          (y = zone.toNat → s.line.state ≠ .runOut ∨ s.runOutCondition y = false → b.queued s.clock))

/-- O21. The zones of a layout that passes its checks tile the chains: every pre-chain position and every main-chain position belongs to
exactly one zone, and the transfer buffer to the last pre-chain zone alone. The zones stand in index order, the first ones on the pre chain and the others on the main chain: the first position of a zone is the sum of the position
counts of the zones before it on its chain. -/
def Obligations.ZonesTileTheChains : Prop :=
  ∀ l : Layout, layoutFault l = none → l.positions.length = 10 →
    (∀ p, p < l.preCount → ∃ z, (z < l.preZones ∧ l.zoneHas z (.pre p) = true) ∧ ∀ y, l.zoneHas y (.pre p) = true → y = z) ∧
    (∀ q, q < l.mainCount → ∃ z, (l.preZones ≤ z ∧ z < l.zoneCount ∧ l.zoneHas z (.main q) = true) ∧
      ∀ y, y < l.zoneCount → l.zoneHas y (.main q) = true → y = z) ∧
    l.preCount = (l.positions.take l.preZones).sum ∧ (l.preZones ≤ l.zoneCount → l.preCount + l.mainCount = (l.positions.take l.zoneCount).sum) ∧
    (∀ z, l.zoneChain z = (if z < l.preZones then .pre else .main) ∧ l.zoneSize z = l.positions.getD z 0 ∧
      l.zoneFirst z + (if z < l.preZones then 0 else l.preCount) = (l.positions.take z).sum) ∧
    (∀ z p, (l.zoneHas z (.pre p) = true ↔ z < l.preZones ∧ l.zoneFirst z ≤ p ∧ p < l.zoneFirst z + l.zoneSize z) ∧
      (l.zoneHas z (.main p) = true ↔ l.preZones ≤ z ∧ l.zoneFirst z ≤ p ∧ p < l.zoneFirst z + l.zoneSize z)) ∧
    (∀ i z, l.zoneHas z (.buffer i) = true ↔ z + 1 = l.preZones) ∧
    (∀ i z, l.zoneHas z (.landing i) = false)

/-- O22. A zone's tick with its timer running accounts each rod of the zone at the clock value of the expiry with the latch as it stood at the start,
then sets the latch high in CONDITIONED and HOLDING where the last reading of a zone that is not blind is in band, restarts the tick timer for one tick
period, and changes nothing else; with the timer stopped, or for no zone, it changes nothing, and commanded it is taken
whatever time the timer has left (the model's reading: assumption log 3). -/
def Obligations.ZoneTickAccountsTheZonesRods : Prop :=
  ∀ (s : State) (z : Nat), z < 10 →
    (s.zones[z]? = none → exec (.zoneTick z) s = .next s) ∧
    (∀ zn, s.zones[z]? = some zn → zn.tickTimer = none → exec (.zoneTick z) s = .next s) ∧
    (∀ zn l g, s.zones[z]? = some zn → zn.tickTimer.isSome = true → s.store.layout = some l → zn.governing = some g →
      ∃ rods latch, exec (.zoneTick z) s = .next { s with
          rods := rods
          zones := s.zones.set z { zn with latch := latch, tickTimer := some (l.tickPeriod * 100) } } ∧
        rods = s.rods.map (fun r =>
          if l.zoneHas z r.location then
            accountRod s.table
              { state := zn.state, latch := zn.latch, profile := g.profile, coefficient := g.entry.coefficient,
                gradientLimit := g.entry.gradientLimit, temp := (s.workingClimate l z zn.state g.entry).1,
                hum := (s.workingClimate l z zn.state g.entry).2, estimated := s.blind z }
              s.clock ((s.lot r.lotSlot).map (·.profile)) ((s.rodProfile r).map (·.heatThreshold)) r
          else r) ∧
        (s.blind z = true → latch = zn.latch) ∧
        (zn.state ≠ .conditioned → zn.state ≠ .holding → latch = zn.latch) ∧
        (∀ rd, s.blind z = false → (s.probe z).reading = some rd → zn.state = .conditioned ∨ zn.state = .holding →
          (g.entry.InBand zn.state rd → latch = true) ∧ (¬ g.entry.InBand zn.state rd → latch = zn.latch)))

/-- O23. The economy timer's expiry in a CONDITIONED zone: with the wake condition holding, the timer starts again and nothing else changes; else the
zone goes to ECONOMY, its vent closed, its latch kept, its heat evaluated against the working temperature less the economy offset unless it is
blind, and no notice is raised. The wake condition: a rod within the wake lead before the zone's first position on its own chain or at one of its own positions, on the landing queue for zone 0, or in the transfer buffer for the first main-chain zone. With the timer stopped, or in another zone state, nothing changes, and commanded it is taken whatever time is left (the model's
reading: assumption log 3). -/
def Obligations.EconomyTimerExpiry : Prop :=
  ∀ (s : State) (z : Nat) (zn : Zone) (l : Layout) (g : Governing), z < 10 → s.zones[z]? = some zn →
    s.store.layout = some l → zn.governing = some g →
    (s.wakeCondition z = true ↔
      (∃ p n, (s.positions (l.zoneChain z))[p]? = some (some n) ∧ l.zoneFirst z ≤ p + l.wakeLead ∧
        p < l.zoneFirst z + l.zoneSize z) ∨
      (z = l.preZones ∧ s.buffer ≠ []) ∨ (z = 0 ∧ s.landing ≠ [])) ∧
    (zn.economyTimer = none ∨ zn.state ≠ .conditioned → exec (.economyTimerExpiry z) s = .next s) ∧
    (zn.state = .conditioned → zn.economyTimer.isSome = true → s.wakeCondition z = true →
      exec (.economyTimerExpiry z) s = .next { s with
        zones := s.zones.set z { zn with economyTimer := some (l.economyDelay * 6000) } }) ∧
    (zn.state = .conditioned → zn.economyTimer.isSome = true → s.wakeCondition z = false →
      ∃ heat, exec (.economyTimerExpiry z) s = .next { s with
          zones := s.zones.set z { zn with
            state := .economy, entered := s.clock, startPending := false, economyTimer := none, rampTimer := none,
            purgeTimer := none, heat := heat, vent := false } } ∧
        (s.blind z = true → heat = zn.heat) ∧
        (∀ r, s.blind z = false → (s.probe z).reading = some r →
          (r.temp ≤ g.entry.workTemp - g.entry.economyOffset - 5 → heat = true) ∧
          (g.entry.workTemp - g.entry.economyOffset ≤ r.temp → heat = false) ∧
          (g.entry.workTemp - g.entry.economyOffset - 5 < r.temp → r.temp < g.entry.workTemp - g.entry.economyOffset →
            heat = zn.heat)))

/-- O24. The ramp limit's expiry in RAMPING: the zone is FAILED, HEAT off and VENT closed, ZONE_FAILED is raised with its index, its slot is released to the ramp queue, whose head is granted as
the slots and the spacing allow, and every other zone is as it was; the line state does not change. In any other zone state nothing changes (the
model's reading: assumption log 3), but that a run-out whose completion condition already holds is completed. -/
def Obligations.RampLimitFailsTheZone : Prop :=
  ∀ (s : State) (z : Nat) (zn : Zone), z < 10 → s.zones[z]? = some zn →
    (zn.state ≠ .ramping → s.line.state ≠ .runOut → exec (.rampLimitExpiry z) s = .next s) ∧
    (zn.state ≠ .ramping → exec (.rampLimitExpiry z) s = .next s.settled) ∧
    (∀ l, ArbiterLaw s → s.store.layout = some l → zn.state = .ramping →
      let k := s.arbiter.grants l (l.rampSlots - (s.slotsInUse - 1)) s.arbiter.queue.length
      ∃ zones, exec (.rampLimitExpiry z) s = .next { s with
          zones := zones
          arbiter := s.arbiter.granting l s.clock s.arbiter.queue k
          notices := s.notices.occurred .zoneFailed s.clock (BitVec.ofNat 32 z) } ∧
        EachZone s.zones zones fun y a b =>
          (y = z → b = { a with state := .failed, entered := s.clock, startPending := false, economyTimer := none, rampTimer := none,
                                purgeTimer := none, heat := false, vent := false }) ∧
          (y ≠ z → s.AfterGrants l s.arbiter.queue k y a b))

/-- O25. The purge timer's expiry in PURGING: with start pending clear the zone goes to OFF with HEAT off and VENT closed, and nothing else changes
outside RUN_OUT; with it set the flag is cleared and the zone enters WAITING, where a grant may follow, and in RUN_OUT it purges once more where its run-out condition holds. In RUN_OUT, with the train empty, the latch free, both chains STOPPED and every
other zone OFF, the expiry takes the line to COLD: LINE_STATE is raised, the capture unit disarmed and every tick timer stopped. In another zone state
the expiry changes nothing (the model's reading: assumption log 3). -/
def Obligations.PurgeTimerEndsThePurge : Prop :=
  ∀ (s : State) (z : Nat) (zn : Zone), z < 10 → s.zones[z]? = some zn →
    (zn.state ≠ .purging → s.line.state ≠ .runOut → exec (.purgeTimerExpiry z) s = .next s) ∧
    (zn.state ≠ .purging → exec (.purgeTimerExpiry z) s = .next s.settled) ∧
    (zn.state = .purging → zn.startPending = false →
      exec (.purgeTimerExpiry z) s = .next ({ s with
        zones := s.zones.set z { zn with
          state := .off, entered := s.clock, economyTimer := none, rampTimer := none, purgeTimer := none, heat := false,
          vent := false } } : State).settled) ∧
    (∀ l, ArbiterLaw s → s.store.layout = some l → zn.state = .purging → zn.startPending = true →
      ∃ u : State, exec (.purgeTimerExpiry z) s = .next u.settled ∧
        u = { s with zones := u.zones, arbiter := u.arbiter } ∧
        u.arbiter.queue = (s.arbiter.queue ++ [z]).filter (fun y => u.zoneState y == some .waiting) ∧
        (s.line.state ≠ .runOut ∨ s.runOutCondition z = false →
          u.arbiter = s.arbiter.granting l s.clock (s.arbiter.queue ++ [z])
            (s.arbiter.grants l (l.rampSlots - s.slotsInUse) (s.arbiter.queue.length + 1))) ∧
        EachZone s.zones u.zones fun y a b => b.governing = a.governing ∧ b.latch = a.latch ∧
          (y ≠ z → b = a ∨ s.Granted l y a b) ∧
          (y = z → b.startPending = false) ∧
          (y = z → s.line.state = .runOut → s.runOutCondition y = true → b.purged s.clock s.purgeTicks) ∧
          (y = z → s.line.state ≠ .runOut ∨ s.runOutCondition y = false → b.queued s.clock)) ∧
    (zn.state = .purging → zn.startPending = false → s.line.state ≠ .runOut →
      exec (.purgeTimerExpiry z) s = .next { s with
        zones := s.zones.set z { zn with
          state := .off, entered := s.clock, economyTimer := none, rampTimer := none, purgeTimer := none, heat := false,
          vent := false } }) ∧
    (zn.state = .purging → zn.startPending = true → s.line.state ≠ .runOut →
      ∃ zones arbiter, exec (.purgeTimerExpiry z) s = .next { s with zones := zones, arbiter := arbiter } ∧
        ∃ b, zones[z]? = some b ∧ b.queued s.clock ∧ b.startPending = false ∧ b.governing = zn.governing) ∧
    (zn.state = .purging → zn.startPending = false → s.line.state = .runOut → s.trainEmpty = true →
      (∀ c, (s.seq c).state = .stopped) → (∀ y a, s.zones[y]? = some a → y ≠ z → a.state = .off) →
      ∃ zones, exec (.purgeTimerExpiry z) s = .next { s with
          line := { state := .cold, phase := none, holdMask := 0, holdOrigin := .noHold, entered := s.clock }
          capture := s.capture.disarmed s.prescale
          zones := zones
          notices := s.notices.occurred .lineState s.clock 2 } ∧
        zones.length = s.zones.length ∧ ∀ b ∈ zones, b.state = .off ∧ b.tickTimer = none ∧ b.economyTimer = none)

/-- O26. The spacing timer's expiry stops the timer. With the queue empty or every slot in use it grants nothing; else, with a ramp spacing above 0, it grants
the head and the head alone: that zone is RAMPING with its ramp limit timer, the grant's time is recorded, and the spacing timer starts again. With a ramp spacing of 0 it grants from the head as many zones as there are
free slots, and the timer stays stopped. The outputs of a granted zone follow its last reading unless it is blind. With the timer stopped nothing changes, and commanded the expiry is taken whatever time is
left (the model's reading: assumption log 3). -/
def Obligations.SpacingExpiryGrantsOneHead : Prop :=
  ∀ (s : State) (l : Layout), s.store.layout = some l →
    (s.arbiter.spacing = none → exec .spacingTimerExpiry s = .next s) ∧
    (s.arbiter.spacing.isSome = true → s.arbiter.queue = [] ∨ l.rampSlots ≤ s.slotsInUse →
      exec .spacingTimerExpiry s = .next { s with arbiter := { s.arbiter with spacing := none } }) ∧
    (∀ z rest zn, s.arbiter.spacing.isSome = true → s.arbiter.queue = z :: rest → s.slotsInUse < l.rampSlots → 0 < l.rampSpacing →
      s.zones[z]? = some zn →
      ∃ b, exec .spacingTimerExpiry s = .next { s with
          arbiter := { queue := rest, granted := true, lastGrant := s.clock, spacing := some (l.rampSpacing * 100) }
          zones := s.zones.set z b } ∧
        b.state = .ramping ∧ b.rampTimer = some (l.rampLimit * 6000) ∧ b.entered = s.clock ∧ b.governing = zn.governing ∧
        b.latch = zn.latch ∧ b.tickTimer = zn.tickTimer ∧ (s.blind z = true → b.heat = zn.heat ∧ b.vent = zn.vent) ∧
        (∀ g r, zn.governing = some g → s.blind z = false → (s.probe z).reading = some r →
          g.entry.Regulates .ramping r zn.heat zn.vent b.heat b.vent)) ∧
    (ArbiterLaw s → s.arbiter.spacing.isSome = true → l.rampSpacing = 0 → s.arbiter.queue ≠ [] →
      s.slotsInUse < l.rampSlots →
      let k := min s.arbiter.queue.length (l.rampSlots - s.slotsInUse)
      ∃ zones, exec .spacingTimerExpiry s = .next { s with
          arbiter := { queue := s.arbiter.queue.drop k, granted := true, lastGrant := s.clock, spacing := none }
          zones := zones } ∧
        EachZone s.zones zones fun y a b =>
          (y ∉ s.arbiter.queue.take k → b = a) ∧
          (y ∈ s.arbiter.queue.take k → s.Granted l y a b ∧
            ∀ g r, a.governing = some g → s.blind y = false → (s.probe y).reading = some r →
              g.entry.Regulates .ramping r a.heat a.vent b.heat b.vent))

/-! ## The probe bus -/

/-- O27. The verdict of a poll is the first test that fails, in the order of R154; a valid humidity above 1,000 is clamped to 1,000 and the reading says so. A poll that stops with a miss, for a configured probe, in
every line state: the miss count advances, saturating at 255, reason and time are recorded, the last valid reading stays, ZONE_BLIND is raised exactly when a zone probe's count goes from 2 to 3, and nothing else
changes. The stop of a probe that the layout no longer configures records nothing. After the stop, in the start-up scan the next probe is polled at once, and after the last the line leaves INIT: INIT_DONE with its result, COLD with a
working layout and UNCONFIGURED without, and the first round of polls; outside INIT a round that waited for the stop begins. With no poll in flight a stop changes nothing (the model's reading: assumption log 3). -/
def Obligations.PollsAreJudgedAndMissesCounted : Prop :=
  (∀ p : ProbeReply,
    judgePoll none = .miss .noAck ∧
    (p.check ≠ p.tempHigh ^^^ p.tempLow ^^^ p.humHigh ^^^ p.humLow ^^^ p.status → judgePoll (some p) = .miss .check) ∧
    (p.check = p.tempHigh ^^^ p.tempLow ^^^ p.humHigh ^^^ p.humLow ^^^ p.status →
      let temp : Int := (p.tempHigh ++ p.tempLow).toInt
      let hum : Nat := (p.humHigh ++ p.humLow).toNat
      (p.status.getLsbD 0 = true → judgePoll (some p) = .miss .sensor) ∧
      (p.status.getLsbD 0 = false →
        (temp < -400 ∨ 1500 < temp → judgePoll (some p) = .miss .rangeT) ∧
        (-400 ≤ temp → temp ≤ 1500 →
          (1050 < hum → judgePoll (some p) = .miss .rangeH) ∧
          (1000 < hum → hum ≤ 1050 → judgePoll (some p) = .valid temp 1000 true) ∧
          (hum ≤ 1000 → judgePoll (some p) = .valid temp hum false))))) ∧
  (∀ (s : State) (reply : Option ProbeReply),
    (s.probeBus.inFlight = none → exec (.pollStop reply) s = .next s) ∧
    (∀ i, s.probeBus.inFlight = some i → s.configured.contains i = false →
      exec (.pollStop reply) s = .next ({ s with probeBus := { s.probeBus with inFlight := none } } : State).pollEnded) ∧
    (∀ i reason p, s.probeBus.inFlight = some i → s.configured.contains i = true → s.probeBus.records[i]? = some p →
      judgePoll reply = .miss reason →
      exec (.pollStop reply) s = .next ({ s with
        probeBus := { s.probeBus with
          inFlight := none
          records := s.probeBus.records.set i
            { p with misses := min (p.misses + 1) 255, lastMiss := some { reason := reason, time := s.clock } } }
        notices := if i ≠ 10 ∧ p.misses = 2 then s.notices.occurred .zoneBlind s.clock (BitVec.ofNat 32 i) else s.notices } :
          State).pollEnded))

/-- O28. A valid reading of a configured probe, in every line state, is recorded with a miss count of 0. The hall probe's goes to no zone. A zone probe's is acted on by the zone's state: RAMPING and in band goes to CONDITIONED with its latch
high, ZONE_CONDITIONED raised and its slot released to the ramp queue; CONDITIONED and HOLDING out of band of the targets in force drops a high latch and raises BAND_LOST; HEAT and VENT follow the targets in force of RAMPING,
CONDITIONED, HOLDING and ECONOMY with their hysteresis; WAITING, OFF, PURGING and FAILED change nothing. Every other zone stays, its economy timer as its conditions leave it, or is granted the released slot. In STARTING the reading
that makes the last zone CONDITIONED takes the line to RUNNING, with capture and chains IDLE. Then, as after every poll, the start-up scan goes on or ends INIT, and a round that waited for the stop begins. -/
def Obligations.ReadingsMoveTheZone : Prop :=
  ∀ (s : State) (i : Nat) (p : Probe) (reply : Option ProbeReply) (t : Int) (h : Nat) (clamped : Bool),
    ArbiterLaw s → s.probeBus.inFlight = some i → s.configured.contains i = true → s.probeBus.records[i]? = some p →
    judgePoll reply = .valid t h clamped →
    let r : Reading := { temp := t, hum := h, clamped := clamped, time := s.clock }
    let recorded : ProbeBus := { s.probeBus with
      inFlight := none
      records := s.probeBus.records.set i { p with reading := some r, misses := 0 } }
    (i = 10 → exec (.pollStop reply) s = .next ({ s with probeBus := recorded } : State).pollEnded) ∧
    (∀ (l : Layout) (zn : Zone), i < 10 → s.store.layout = some l → s.zones[i]? = some zn →
      ∃ (u : State) (b : Zone), exec (.pollStop reply) s = .next (u.startedRunning l).pollEnded ∧
        u = { s with zones := u.zones, arbiter := u.arbiter, notices := u.notices, probeBus := recorded } ∧
        u.zones[i]? = some b ∧ b.governing = zn.governing ∧ b.tickTimer = zn.tickTimer ∧
        b.economyTimer = s.economyAfter l i { zn with
          state := b.state, economyTimer := if zn.state = .conditioned then zn.economyTimer else none } ∧
        (EachZone s.zones u.zones fun y a c => y ≠ i →
          c = { a with economyTimer := s.economyAfter l y a } ∨ s.Granted l y { a with economyTimer := none } c) ∧
        (zn.governing = none → b.heat = zn.heat ∧ b.vent = zn.vent) ∧
        (∀ g, zn.governing = some g →
          g.entry.Regulates zn.state r zn.heat zn.vent b.heat b.vent ∧
          (zn.state = .ramping → g.entry.InBand .ramping r →
            b.state = .conditioned ∧ b.latch = true ∧ b.rampTimer = none ∧ b.entered = s.clock ∧
            u.notices = s.notices.occurred .zoneConditioned s.clock (BitVec.ofNat 32 i) ∧
            u.arbiter = s.arbiter.granting l s.clock s.arbiter.queue
              (s.arbiter.grants l (l.rampSlots - (s.slotsInUse - 1)) s.arbiter.queue.length)) ∧
          (zn.state = .ramping → ¬ g.entry.InBand .ramping r →
            b.state = .ramping ∧ b.entered = zn.entered ∧ b.latch = zn.latch ∧ b.rampTimer = zn.rampTimer ∧
            u.notices = s.notices ∧ u.arbiter = s.arbiter) ∧
          (zn.state = .conditioned ∨ zn.state = .holding →
            b.state = zn.state ∧ b.entered = zn.entered ∧ u.arbiter = s.arbiter ∧
            (g.entry.InBand zn.state r → b.latch = zn.latch ∧ u.notices = s.notices) ∧
            (¬ g.entry.InBand zn.state r → b.latch = false ∧ u.notices =
              if zn.latch then s.notices.occurred .bandLost s.clock (BitVec.ofNat 32 i) else s.notices))) ∧
        (zn.state = .economy ∨ zn.state = .waiting ∨ zn.state = .off ∨ zn.state = .purging ∨ zn.state = .failed →
          b.state = zn.state ∧ b.entered = zn.entered ∧ b.latch = zn.latch ∧ u.notices = s.notices ∧ u.arbiter = s.arbiter))

/-! ## Reading zones, chains and capture -/

/-- O29. ZONE READ answers 35 bytes, CHAIN READ 19 and CAPTURE READ 73, each field at its place, and they change nothing. ZONE READ is refused NOT_NOW in UNCONFIGURED and BAD_VALUE for a
zone index at or beyond the zone count; a chain code above 1 is refused BAD_VALUE. The targets in force follow from the zone state; SPREADER HOLD is asserted exactly while the line is not RUNNING, the landing queue holds 3 rods or more, the OPEN lot's gap is pending, or no lot is OPEN. The take condition of a chain
without positions is the model's reading (assumption log 8). -/
def Obligations.ZoneChainAndCaptureReplies : Prop :=
  (∀ (s : State) (zone : Byte), s.line.state ≠ .init →
    (s.line.state = .unconfigured → Refuses s (.zoneRead zone) 0x20 .notNow []) ∧
    (s.line.state ≠ .unconfigured → s.zones.length ≤ zone.toNat → Refuses s (.zoneRead zone) 0x20 .badValue [0]) ∧
    (∀ zn, s.line.state ≠ .unconfigured → s.zones[zone.toNat]? = some zn →
      (zn.governing = none → zn.targets = none) ∧
      (∀ g, zn.governing = some g →
        (zn.state = .waiting ∨ zn.state = .ramping ∨ zn.state = .conditioned →
          zn.targets = some (g.entry.workTemp, some g.entry.workHum)) ∧
        (zn.state = .holding → zn.targets = some (g.entry.holdTemp, some g.entry.holdHum)) ∧
        (zn.state = .economy → zn.targets = some (g.entry.workTemp - g.entry.economyOffset, none)) ∧
        (zn.state = .off ∨ zn.state = .purging ∨ zn.state = .failed → zn.targets = none)) ∧
      (∀ l, s.store.layout = some l → s.zoneRods zone.toNat =
        (((s.positions (l.zoneChain zone.toNat)).drop (l.zoneFirst zone.toNat)).take (l.zoneSize zone.toNat)).countP Option.isSome
          + (if zone.toNat + 1 = l.preZones then s.buffer.length else 0)) ∧
      Reads s (.zoneRead zone) 0x20 35 fun p =>
        HasField p 0 1 zone.toNat ∧ HasField p 1 1 zn.state.code ∧ HasField p 2 1 (if zn.startPending then 1 else 0) ∧
        HasField p 3 1 ((zn.governing.map Governing.profile).getD 0xFF) ∧
        (zn.targets = none → HasField p 4 1 0 ∧ HasField p 5 2 0 ∧ HasField p 7 2 0) ∧
        (∀ t, zn.targets = some (t, none) → HasField p 4 1 1 ∧ HasSigned p 5 t ∧ HasField p 7 2 0) ∧
        (∀ t h, zn.targets = some (t, some h) → HasField p 4 1 3 ∧ HasSigned p 5 t ∧ HasField p 7 2 h) ∧
        HasField p 9 1 (if zn.latch then 1 else 0) ∧ HasField p 10 1 (if s.blind zone.toNat then 1 else 0) ∧
        HasField p 11 1 (s.probe zone.toNat).misses ∧
        ((s.probe zone.toNat).reading = none →
          HasField p 12 1 0 ∧ HasField p 13 2 0 ∧ HasField p 15 2 0 ∧ HasField p 17 4 0) ∧
        (∀ r, (s.probe zone.toNat).reading = some r →
          HasField p 12 1 1 ∧ HasSigned p 13 r.temp ∧ HasField p 15 2 r.hum ∧ HasField p 17 4 r.time.toNat) ∧
        HasField p 21 1 ((if zn.heat then 1 else 0) + 2 * (if zn.vent then 1 else 0)) ∧
        HasField p 22 2 (s.zoneRods zone.toNat) ∧
        (zn.state ≠ .waiting → HasField p 24 1 0xFF) ∧
        (zn.state = .waiting → ∀ place, s.arbiter.queue.findIdx? (· == zone.toNat) = some place → HasField p 24 1 place) ∧
        HasField p 25 2 (zn.rampTimer.getD 0 / 100) ∧ HasField p 27 2 (zn.purgeTimer.getD 0 / 100) ∧
        HasField p 29 2 (zn.economyTimer.getD 0 / 100) ∧ HasField p 31 4 zn.entered.toNat)) ∧
  (∀ s : State, s.line.state ≠ .init →
    (∀ code : Byte, 1 < code.toNat → Refuses s (.chainRead code) 0x22 .badValue [0]) ∧
    (∀ c : Chain, Reads s (.chainRead (BitVec.ofNat 8 (chainCode c))) 0x22 19 fun p =>
      HasField p 0 1 (chainCode c) ∧ HasField p 1 1 (s.seq c).state.code ∧
      HasField p 2 1 ((if (s.seq c).lateApplied then 1 else 0) + 2 * (if (s.seq c).state = .stepping then 1 else 0)
        + 4 * (if s.takeCondition c then 1 else 0) + 8 * (if c = .main ∧ s.pins.stripReady = true then 1 else 0)) ∧
      HasField p 3 2 (s.positions c).length ∧ HasField p 5 2 ((s.positions c).countP Option.isSome) ∧
      HasField p 7 4 (s.seq c).shiftCount.toNat ∧ HasField p 11 4 (s.seq c).lastShift.toNat ∧
      HasField p 15 4 (s.seq c).entered.toNat) ∧
    (s.spreaderHold = true ↔ s.line.state ≠ .running ∨ 3 ≤ s.landing.length ∨ s.gapPending = true ∨ s.openLot = none) ∧
    (s.gapPending = true ↔ ∃ lot, s.openLot = some lot ∧ 0 < lot.gapPending) ∧
    (s.openLot = none ↔ ∀ lot, some lot ∈ s.lots → lot.state ≠ .opened) ∧
    (∀ lot, s.openLot = some lot → some lot ∈ s.lots ∧ lot.state = .opened) ∧
    (s.capture.channels.length = 6 → Reads s .captureRead 0x24 73 fun p =>
      HasField p 0 1 s.capture.state.code ∧
      (s.capture.state = .hanging → HasField p 1 4 s.capture.hangTime.toNat) ∧
      (s.capture.state ≠ .hanging → HasField p 1 4 0) ∧
      (∀ c ch, s.capture.channels[c]? = some ch → HasField p (5 + 4 * c) 4 ch.count ∧ HasField p (30 + 4 * c) 4 ch.trim ∧
        (BitVec.ofNat 8 (fieldNat p 29 1)).getLsbD c = ch.overflow) ∧
      (s.capture.latch = none → HasField p 54 1 0 ∧ HasField p 55 4 0 ∧ HasField p 59 4 0 ∧ HasField p 63 4 0) ∧
      (∀ l, s.capture.latch = some l →
        HasField p 54 1 (1 + 2 * (if l.noCut then 1 else 0) + 4 * (if l.overflowed then 1 else 0)) ∧
        HasField p 55 4 l.number.toNat ∧ HasField p 59 4 l.hangTime.toNat ∧ HasField p 63 4 l.cutTime.toNat) ∧
      HasField p 67 4 s.capture.rodCounter.toNat ∧ HasField p 71 1 s.landing.length ∧
      HasField p 72 1 ((if s.spreaderHold then 1 else 0) + 2 * (if s.line.state ≠ .running then 1 else 0)
        + 4 * (if 3 ≤ s.landing.length then 1 else 0) + 8 * (if s.gapPending then 1 else 0)
        + 16 * (if s.openLot = none then 1 else 0))))

/-! ## Chains -/

/-- O30. The completion of a pre-chain step, in every line state: the train moves as R52 says, with a rod in the latch scrapped NO_LOT where no lot is OPEN or written out into the OPEN lot, raising LANDING_FULL where the queue comes
back to 4 rods; the hand-offs follow (adoption with its BAND_LOST, economy timers, wakes with their places in the ramp queue and their grants, and in RUN_OUT the purges); the shift is counted at this clock value; and the chain goes to IDLE with its
interval timer at one step interval, or to STOPPED where the line does not allow steps or, in RUN_OUT, where chain and upstream are empty, which may complete the run-out. The clock, the main chain and the link are untouched. That
zones act in index order is the model's choice (assumption log 23), and that every ECONOMY zone makes its wake test its reading (log 19). -/
def Obligations.PreStepShiftsTheTrain : Prop :=
  ∀ (s t : State) (l : Layout), ArbiterLaw s → s.store.layout = some l → s.preSeq.state = .stepping → PreShifted s t l →
    ∃ u, HandedOff t u .pre l (!s.buffer.isEmpty) ∧
      exec (.stepDone .pre) s = .next ({ u with
        preSeq := (u.preSeq.counted s.clock).rested s.clock (u.goesOn .pre l) } : State).settled

/-- O31. The completion of a main-chain step, in every line state: a rod at the last position is graded at this clock value, a gap there grades nothing; then every content moves up by one, the buffer head or a gap enters position 0,
every rod's location follows; the hand-offs follow, with the release of a BLOCKED pre chain where the buffer's head was taken; the shift is counted at this clock value; and the chain goes to IDLE with its interval timer, or to STOPPED where
the line does not allow steps or, in RUN_OUT, where the train is empty, which may complete the run-out. Capture, landing queue and pre-chain positions are untouched. That zones act in index order is the model's choice
(assumption log 23), and that every ECONOMY zone makes its wake test its reading (log 19). -/
def Obligations.MainStepGradesAndShifts : Prop :=
  ∀ (s t : State) (l : Layout), ArbiterLaw s → s.store.layout = some l → s.mainSeq.state = .stepping → MainShifted s t →
    ∃ u, HandedOff t u .main l (!s.buffer.isEmpty) ∧
      exec (.stepDone .main) s = .next ({ u with
        mainSeq := (u.mainSeq.counted s.clock).rested s.clock (u.goesOn .main l) } : State).settled

/-- O32. Exit grading of a live rod: it is accounted once more by the last zone, with that zone's state, climate and profile copy and its latch as they stand, which it does not touch; the divert lines show its disposition; its record is
freed; its lot counts one exit of the disposition (an accepted rod's charge into the accepted charge total) and one rod less in train; its ROD_EXIT, with the values of the final accounting, joins the report queue's tail. A CLOSED lot whose
last rod this was drains: its LOT_SUMMARY follows, LOT_DRAINED is raised and its slot is free. Against a full queue the
report is lost and counted; the lot drains all the same, its LOT_SUMMARY lost at 255 reports and both reports at 256. -/
def Obligations.ExitGradesTheRod : Prop :=
  ∀ (s : State) (n : Word32) (r : Rod) (lot : Lot) (p : Profile) (l : Layout) (z : Nat) (zn : Zone) (g : Governing),
    s.rod n = some r → s.lot r.lotSlot = some lot → s.profile lot.profile = some p → s.store.layout = some l →
    z + 1 = s.zones.length → s.zones[z]? = some zn → zn.governing = some g →
    let r' := accountRod s.table
      { state := zn.state, latch := zn.latch, profile := g.profile, coefficient := g.entry.coefficient,
        gradientLimit := g.entry.gradientLimit, temp := (s.workingClimate l z zn.state g.entry).1,
        hum := (s.workingClimate l z zn.state g.entry).2, estimated := s.blind z }
      s.clock (some lot.profile) (some p.heatThreshold) r
    let d := disposition p r'
    let counted : Lot := { lot with
      inTrain := lot.inTrain - 1
      accepted := if d = .accept then lot.accepted + 1 else lot.accepted
      acceptedCharge :=
        if d = .accept then min (lot.acceptedCharge + r.charge.getD 0) 4294967295 else lot.acceptedCharge
      reviewed := if d = .review then lot.reviewed + 1 else lot.reviewed
      reworked := if d = .rework then lot.reworked + 1 else lot.reworked
      rejected := if d = .reject then lot.rejected + 1 else lot.rejected }
    let exit : Report :=
      { sequence := s.reports.nextSequence
        body := .rodExit n lot.id d r'.moisture r'.stress r'.heat r'.marks r.charge r.hangTime s.clock }
    let left := s.rods.filter fun x => x.number != n
    (s.reports.reports.length < 256 → lot.state = .opened ∨ 1 < lot.inTrain →
      s.gradeExit n s.clock = { s with
        divert := d
        lots := s.lots.set r.lotSlot (some counted)
        reports := { reports := s.reports.reports ++ [exit], nextSequence := s.reports.nextSequence + 1 }
        rods := left
        notices := if s.reports.reports.length = 191 then s.notices.occurred .reportHigh s.clock 192 else s.notices }) ∧
    (s.reports.reports.length < 255 → lot.state = .closed → lot.inTrain ≤ 1 →
      s.gradeExit n s.clock = { s with
        divert := d
        lots := s.lots.set r.lotSlot none
        reports := {
          reports := s.reports.reports ++ [exit,
            { sequence := s.reports.nextSequence + 1, body := .lotSummary r.lotSlot counted s.clock }]
          nextSequence := s.reports.nextSequence + 1 + 1 }
        rods := left
        notices := (if s.reports.reports.length = 191 ∨ s.reports.reports.length = 190 then
          s.notices.occurred .reportHigh s.clock 192 else s.notices).occurred .lotDrained s.clock lot.id }) ∧
    (s.reports.reports.length = 255 → lot.state = .closed → lot.inTrain ≤ 1 →
      s.gradeExit n s.clock = { s with
        divert := d
        lots := s.lots.set r.lotSlot none
        reports := { reports := s.reports.reports ++ [exit], nextSequence := s.reports.nextSequence + 1 + 1 }
        rods := left
        notices := (s.notices.occurred .reportLost s.clock lot.id).occurred .lotDrained s.clock lot.id }) ∧
    (s.reports.reports.length = 256 → lot.state = .closed → lot.inTrain ≤ 1 →
      s.gradeExit n s.clock = { s with
        divert := d
        lots := s.lots.set r.lotSlot none
        reports := { s.reports with nextSequence := s.reports.nextSequence + 1 + 1 }
        rods := left
        notices := ((s.notices.occurred .reportLost s.clock lot.id).occurred .reportLost s.clock lot.id).occurred
          .lotDrained s.clock lot.id }) ∧
    (s.reports.reports.length = 256 → lot.state = .opened ∨ 1 < lot.inTrain →
      s.gradeExit n s.clock = { s with
        divert := d
        lots := s.lots.set r.lotSlot (some { counted with reportsLost := min (lot.reportsLost + 1) 65535 })
        reports := { s.reports with nextSequence := s.reports.nextSequence + 1 }
        rods := left
        notices := s.notices.occurred .reportLost s.clock lot.id })

/-- O33. A late STEP DONE, taken while a chain is JAMMED with the late-applied flag clear: the shift is applied with its hand-offs and counted as at a completion, among them the release of a BLOCKED pre chain by a main shift; the late-applied flag
is set, LATE_STEP is raised with the chain's code, the chain stays JAMMED and nothing restarts it. That zones act in index order, and that every ECONOMY zone makes its wake test, is the model's (assumption
logs 23 and 19). -/
def Obligations.LateStepDoneShiftsOnce : Prop :=
  (∀ (s : State) (c : Chain), (s.seq c).state = .jammed → (s.seq c).lateApplied = false → s.line.state ≠ .runOut →
    s.notices.records.length = 20 →
    ∃ t, exec (.stepDone c) s = .next t ∧
      t.seq c = { s.seq c with lateApplied := true, shiftCount := (s.seq c).shiftCount + 1, lastShift := s.clock } ∧
      t.positions c = ((if c = .pre then s.landing.head? else s.buffer.head?) :: s.positions c).dropLast ∧
      t.noticePending 8 = true ∧ t.line = s.line ∧ t.clock = s.clock ∧ t.link = s.link) ∧
  (∀ (s t : State) (c : Chain) (l : Layout), ArbiterLaw s → s.store.layout = some l → (s.seq c).state = .jammed →
    (s.seq c).lateApplied = false → Shifted s t l c →
    ∃ u, HandedOff t u c l (!s.buffer.isEmpty) ∧
      exec (.stepDone c) s = .next (({ u with
        notices := u.notices.occurred .lateStep s.clock (BitVec.ofNat 32 (chainCode c)) } : State).setSeq c
          { (u.seq c).counted s.clock with lateApplied := true }).settled)

/-- O34. The interval timer's expiry in IDLE, outside RUN_OUT or with rods on the chain or upstream of it: with the take condition holding the step is issued (STEPPING, the step timeout started), else the chain is
BLOCKED with its blocked timer started; nothing else changes. In RUN_OUT, with chain and upstream empty, the chain is STOPPED, which may complete the run-out. The take condition: the last position is a gap, or the buffer holds fewer than 8 rods (pre chain) or STRIP READY is high (main chain; a chain without positions: assumption log 8). In any other chain state nothing changes, and
commanded the expiry is taken whatever time is left (the model's reading: assumption log 3). -/
def Obligations.IntervalExpiryStepsOrBlocks : Prop :=
  (∀ s : State,
    (s.takeCondition .pre = true ↔ (∀ n, s.preChain.getLast? ≠ some (some n)) ∨ s.buffer.length < 8) ∧
    (s.takeCondition .main = true ↔ (∀ n, s.mainChain.getLast? ≠ some (some n)) ∨ s.pins.stripReady = true) ∧
    (s.emptyUpTo .pre = true ↔ (∀ x ∈ s.preChain, x = none) ∧ s.landing = [] ∧ s.capture.latch = none) ∧
    (s.emptyUpTo .main = true ↔ s.emptyUpTo .pre = true ∧ s.buffer = [] ∧ ∀ x ∈ s.mainChain, x = none) ∧
    s.trainEmpty = s.emptyUpTo .main) ∧
  (∀ (s : State) (c : Chain) (l : Layout), s.store.layout = some l →
    s.line.state ≠ .runOut ∨ (s.emptyUpTo c = false ∧ s.trainEmpty = false) →
    ((s.seq c).state ≠ .idle → exec (.intervalExpiry c) s = .next s) ∧
    ((s.seq c).state = .idle → s.takeCondition c = true → exec (.intervalExpiry c) s = .next (s.setSeq c { s.seq c with
      state := .stepping, entered := s.clock, intervalTimer := none, stepTimer := some (l.stepTimeout * 100),
      blockedTimer := none })) ∧
    ((s.seq c).state = .idle → s.takeCondition c = false → exec (.intervalExpiry c) s = .next (s.setSeq c { s.seq c with
      state := .blocked, entered := s.clock, intervalTimer := none, stepTimer := none,
      blockedTimer := some (l.blockLimit * 100) }))) ∧
  (∀ (s : State) (c : Chain), s.line.state = .runOut → (s.seq c).state = .idle → s.emptyUpTo c = true →
    exec (.intervalExpiry c) s = .next (s.setSeq c { s.seq c with
      state := .stopped, entered := s.clock, intervalTimer := none, stepTimer := none, blockedTimer := none }).settled) ∧
  (∀ (s : State) (c : Chain), (s.seq c).state ≠ .idle → exec (.intervalExpiry c) s = .next s.settled)

/-- O35. The step timeout's expiry in STEPPING jams the chain with the late-applied flag clear and raises CHAIN_JAM. In RUNNING and RUN_OUT the line is then held with the layout's default mask and origin
JAM of this chain; in every other line state nothing else changes. In any other chain state nothing changes at all, and commanded the expiry is taken whatever time is left (the model's reading: assumption log 3). -/
def Obligations.StepTimeoutJamsTheChain : Prop :=
  ∀ (s : State) (c : Chain) (l : Layout), s.store.layout = some l →
    let jammed := s.setSeq c { s.seq c with
      state := .jammed, entered := s.clock, intervalTimer := none, stepTimer := none, blockedTimer := none, lateApplied := false }
    let raised := { jammed with
      notices := s.notices.occurred .chainJam s.clock (BitVec.ofNat 32 (chainCode c)) }
    ((s.seq c).state ≠ .stepping → exec (.stepTimeout c) s = .next s) ∧
    ((s.seq c).state = .stepping → s.line.state ≠ .running → s.line.state ≠ .runOut →
      exec (.stepTimeout c) s = .next raised) ∧
    (ArbiterLaw s → (s.seq c).state = .stepping → s.line.state = .running ∨ s.line.state = .runOut →
      ∃ t, exec (.stepTimeout c) s = .next t ∧ HeldBy raised t l (BitVec.ofNat 10 l.defaultMask) (.jam c) ∧ t.link = s.link)

/-- O36. The blocked timer's expiry in BLOCKED raises CHAIN_BLOCKED once with the chain's code and leaves the chain BLOCKED; a second expiry, or one in another state, changes nothing. A rise of
STRIP READY lets a BLOCKED main chain issue its step; a fall, and a rise in every other chain state, changes nothing but the level. A main-chain shift that takes the
buffer's head lets a BLOCKED pre chain issue its step. That an expiry without its timer changes nothing, and that one commanded is taken whatever time is left, is the model's reading (assumption log 3). -/
def Obligations.BlockedChainsWaitForTheirExit : Prop :=
  ∀ (s : State) (c : Chain) (l : Layout), s.store.layout = some l →
    ((s.seq c).state = .blocked → (s.seq c).blockedTimer.isSome = true →
      exec (.blockLimit c) s = .next { s.setSeq c { s.seq c with blockedTimer := none } with
        notices := s.notices.occurred .chainBlocked s.clock (BitVec.ofNat 32 (chainCode c)) }) ∧
    ((s.seq c).state ≠ .blocked ∨ (s.seq c).blockedTimer = none → exec (.blockLimit c) s = .next s) ∧
    (s.mainSeq.state = .blocked → exec (.stripReadyChange true) s = .next { s with
      pins := { s.pins with stripReady := true }
      mainSeq := { s.mainSeq with
        state := .stepping, entered := s.clock, intervalTimer := none, stepTimer := some (l.stepTimeout * 100),
        blockedTimer := none } }) ∧
    (s.mainSeq.state ≠ .blocked →
      exec (.stripReadyChange true) s = .next { s with pins := { s.pins with stripReady := true } }) ∧
    exec (.stripReadyChange false) s = .next { s with pins := { s.pins with stripReady := false } } ∧
    (s.mainSeq.state = .stepping ∨ (s.mainSeq.state = .jammed ∧ s.mainSeq.lateApplied = false) →
      s.preSeq.state = .blocked → s.buffer ≠ [] → s.buffer.length ≤ 8 →
      ∃ t, exec (.stepDone .main) s = .next t ∧ t.preSeq = { s.preSeq with
        state := .stepping, entered := s.clock, intervalTimer := none, stepTimer := some (l.stepTimeout * 100),
        blockedTimer := none })

/-- O37. CHAIN CLEAR of a JAMMED chain without a shift (moved no, or the step applied late already) clears the flag, leaves the train as it is and answers OK, no shift applied, new state: IDLE with its interval timer in
RUNNING, STOPPED in HOLD. With moved yes and the flag clear it applies the shift of this request with its grading and hand-offs, counts it, and answers that it did. A chain code or a moved byte above 1 is refused BAD_VALUE, a chain that is not JAMMED NOT_NOW
(the moved byte before the state: assumption log 14), without a working layout too. That zones act in index order at the hand-offs is the model's choice, and that every ECONOMY zone makes its wake test its reading
(assumption logs 23 and 19). -/
def Obligations.ChainClearEndsTheJam : Prop :=
  (∀ (s : State) (c : Chain), s.line.state ≠ .init →
    let code : Byte := BitVec.ofNat 8 (chainCode c)
    (∀ chain moved : Byte, 1 < chain.toNat → Refuses s (.chainClear chain moved) 0x23 .badValue [0]) ∧
    (∀ moved : Byte, 1 < moved.toNat → Refuses s (.chainClear code moved) 0x23 .badValue [1]) ∧
    (∀ moved : Byte, moved.toNat ≤ 1 → (s.seq c).state ≠ .jammed → Refuses s (.chainClear code moved) 0x23 .notNow [])) ∧
  (∀ (s : State) (c : Chain) (l : Layout), s.store.layout = some l → s.line.state ≠ .init →
    let code : Byte := BitVec.ofNat 8 (chainCode c)
    let going := if s.line.state = .running ∨ s.line.state = .runOut then some (l.interval c) else none
    (∀ moved : Byte, moved.toNat ≤ 1 → (s.seq c).state = .jammed → (s.seq c).lateApplied = true ∨ moved = 0 →
      (s.line.state = .running → exec (.chainClear code moved) s =
        .next { s.setSeq c { s.seq c with
            state := .idle, entered := s.clock, stepTimer := none, blockedTimer := none, lateApplied := false,
            intervalTimer := some ((if c = .pre then l.preInterval else l.mainInterval) * 10) } with
          link := s.link.prepared 0x23 .ok [0, 1] }) ∧
      (s.line.state = .hold → exec (.chainClear code moved) s =
        .next { s.setSeq c { s.seq c with
            state := .stopped, entered := s.clock, intervalTimer := none, stepTimer := none, blockedTimer := none,
            lateApplied := false } with
          link := s.link.prepared 0x23 .ok [0, 0] })) ∧
    (∀ moved : Byte, moved.toNat ≤ 1 → (s.seq c).state = .jammed → (s.seq c).lateApplied = true ∨ moved = 0 →
      exec (.chainClear code moved) s = .next { (s.setSeq c { (s.seq c).rested s.clock going with
        lateApplied := false }).settled with link := s.link.prepared 0x23 .ok [0, if going = none then 0 else 1] }) ∧
    (∀ t, ArbiterLaw s → (s.seq c).state = .jammed → (s.seq c).lateApplied = false → Shifted s t l c →
      ∃ u, HandedOff t u c l (!s.buffer.isEmpty) ∧
        exec (.chainClear code 1) s = .next { (u.setSeq c { ((u.seq c).counted s.clock).rested s.clock going with
          lateApplied := false }).settled with link := s.link.prepared 0x23 .ok [1, if going = none then 0 else 1] }) ∧
    ((s.seq c).state = .jammed → (s.seq c).lateApplied = false → s.line.state = .hold →
      ∃ t, exec (.chainClear code 1) s = .next t ∧ t.link = s.link.prepared 0x23 .ok [1, 0] ∧
        (t.seq c).state = .stopped ∧ (t.seq c).shiftCount = (s.seq c).shiftCount + 1 ∧ (t.seq c).lastShift = s.clock ∧
        t.positions c = ((if c = .pre then s.landing.head? else s.buffer.head?) :: s.positions c).dropLast))

/-! ## The capture unit -/

/-- O38. The edges of a rod, in every armed line state. A HANG edge in IDLE begins one: the counters, dividers and flags are zeroed and the trim counters pass to the OPEN lot, or stay where none is OPEN. A CUT edge in HANGING,
with the latch free, room on the landing queue and a lot OPEN, numbers the rod and writes it out complete, raising LANDING_FULL where the queue comes to 4 rods and waking zone 0 from ECONOMY; with the landing queue full the rod waits in the latch;
with the latch occupied the new rod is scrapped OVERRUN; and with no lot OPEN it is scrapped, NO_LOT with the latch free and OVERRUN with it occupied. A HANG edge in HANGING ends the rod in each of those ways with NO_CUT in its marks and no charge, and
begins the next, the trim counters passing to the OPEN lot. COUNTER_OVERFLOW is raised with the rod's number where a channel overflowed. The zones of a wake act in index order (assumption log 23) and the wake tests zone 0 as log 19 says. That the CUT zeroes the overflow flags is the model's choice (assumption log 22). -/
def Obligations.HangAndCutEdges : Prop :=
  ∀ s : State,
    let n := s.capture.rodCounter
    let next : Word32 := if n + 1 = 0 then 1 else n + 1
    let cleared := s.capture.channels.map fun ch => ({ ch with divider := 0, count := 0, overflow := false } : Channel)
    let emptied := s.capture.channels.map fun _ => ({ divider := 0, count := 0, overflow := false, trim := 0 } : Channel)
    let trimmed (lot : Lot) : Lot := { lot with
      trimTotal := min (lot.trimTotal + (s.capture.channels.map (·.trim)).sum) 4294967295 }
    let latch (noCut : Bool) : Latch :=
      { number := n, hangTime := s.capture.hangTime, cutTime := s.clock, counts := s.capture.channels.map (·.count),
        overflow := s.capture.channels.map (·.overflow), noCut := noCut }
    let overflowed := s.capture.channels.any (·.overflow)
    let edge (hang : Bool) : Host.Outcome State Fault Refusal := if hang then exec .hang s else exec .cut s
    let ended (hang opened : Bool) : Capture :=
      if hang then { s.capture with
        state := .hanging, hangTime := s.clock, channels := if opened then emptied else cleared, rodCounter := next }
      else { s.capture with state := .idle, channels := cleared, rodCounter := next }
    let passed (hang : Bool) (lot : Lot) : Lot := if hang then trimmed lot else lot
    let counted := if overflowed then s.notices.occurred .counterOverflow s.clock n else s.notices
    (s.capture.state = .idle → s.openSlot = none →
      exec .hang s = .next ({ s with
        capture := { s.capture with state := .hanging, hangTime := s.clock, channels := cleared } } : State).settled) ∧
    (∀ slot lot, s.capture.state = .idle → s.openSlot = some slot → s.lot slot = some lot →
      exec .hang s = .next ({ s with
        lots := s.lots.set slot (some (trimmed lot))
        capture := { s.capture with state := .hanging, hangTime := s.clock, channels := emptied } } : State).settled) ∧
    (∀ hang : Bool, s.capture.state = .hanging → s.numberHeld n = false →
      (∀ slot lot p l, s.capture.latch = none → s.openSlot = some slot → s.lot slot = some lot →
        s.profile lot.profile = some p → s.store.layout = some l → s.landing.length < 4 →
        ∃ u : State, edge hang = .next u ∧
          u = { s with
            rods := s.rods ++ [{
              number := n, lotSlot := slot, hangTime := s.capture.hangTime, cutTime := s.clock
              counts := s.capture.channels.map (·.count)
              charge := if overflowed ∨ hang = true then none else some
                (min ((((s.capture.channels.map (·.count)).zipWith (· * ·) l.massFactors).sum + 500) / 1000) 65535)
              moisture := p.initialMoisture, stress := 0, heat := 0, lastAccounted := s.clock
              marks := { Marks.empty with
                overflow := overflowed, noCut := hang
                shortCurtain := s.capture.channels.any fun ch => decide (ch.count < p.minCurtain) }
              location := .landing s.landing.length }]
            landing := s.landing ++ [n]
            lots := s.lots.set slot (some (passed hang { lot with
              born := lot.born + 1, inTrain := lot.inTrain + 1, firstRod := if lot.born = 0 then n else lot.firstRod,
              lastRod := n }))
            capture := ended hang true
            zones := u.zones
            arbiter := u.arbiter
            notices := if s.landing.length = 3 then counted.occurred .landingFull s.clock 0 else counted } ∧
          (s.zoneState 0 ≠ some .economy → u.zones = s.zones ∧ u.arbiter = s.arbiter) ∧
          (ArbiterLaw s → s.zoneState 0 = some .economy →
            u.arbiter = s.arbiter.granting l s.clock (s.arbiter.queue ++ [0])
              (s.arbiter.grants l (l.rampSlots - s.slotsInUse) (s.arbiter.queue.length + 1)) ∧
            EachZone s.zones u.zones fun z a b => b.governing = a.governing ∧ b.latch = a.latch ∧
              (z = 0 → b.queued s.clock) ∧ (z ≠ 0 → b = a ∨ s.Granted l z a b))) ∧
      (∀ slot lot, s.capture.latch = none → s.openSlot = some slot → s.lot slot = some lot → s.landing.length = 4 →
        edge hang = .next ({ s with
          lots := s.lots.set slot (some (passed hang lot))
          capture := { ended hang true with latch := some (latch hang) }
          notices := counted } : State).settled) ∧
      (∀ slot lot old, s.capture.latch = some old → s.openSlot = some slot → s.lot slot = some lot →
        s.reports.reports.length < 191 →
        edge hang = .next ({ s with
          capture := ended hang true
          lots := s.lots.set slot (some (passed hang { lot with
            born := lot.born + 1, scrapped := lot.scrapped + 1, firstRod := if lot.born = 0 then n else lot.firstRod,
            lastRod := n }))
          reports := {
            reports := s.reports.reports ++
              [{ sequence := s.reports.nextSequence, body := .rodScrap n lot.id .overrun s.clock }]
            nextSequence := s.reports.nextSequence + 1 }
          notices := counted.occurred .rodScrapped s.clock n } : State).settled) ∧
      (s.openSlot = none → s.reports.reports.length < 191 →
        edge hang = .next ({ s with
          capture := ended hang false
          reports := {
            reports := s.reports.reports ++ [{
              sequence := s.reports.nextSequence
              body := .rodScrap n 0 (if s.capture.latch.isSome then .overrun else .noLot) s.clock }]
            nextSequence := s.reports.nextSequence + 1 }
          notices := counted.occurred .rodScrapped s.clock n } : State).settled))

/-- O39. Ignored edges, each raising STRAY_EDGE with its input code and changing nothing else: a CUT edge in IDLE (1), in DISARMED a HANG edge (0) and a CUT edge (1), and a STEP DONE
taken while its chain is STOPPED, IDLE or BLOCKED, or JAMMED with the late-applied flag set (2 pre, 3 main). The premise keeps out a run-out whose completion is already due. -/
def Obligations.StrayEdgesAreIgnored : Prop :=
  ∀ s : State, s.line.state ≠ .runOut ∨ s.runOutDone = false →
    let stray (code : Word32) : Host.Outcome State Fault Refusal :=
      .next { s with notices := s.notices.occurred .strayEdge s.clock code }
    (s.capture.state = .idle → exec .cut s = stray 1) ∧
    (s.capture.state = .disarmed → exec .hang s = stray 0 ∧ exec .cut s = stray 1) ∧
    (∀ c, (s.seq c).state = .stopped ∨ (s.seq c).state = .idle ∨ (s.seq c).state = .blocked ∨
      ((s.seq c).state = .jammed ∧ (s.seq c).lateApplied = true) →
      exec (.stepDone c) s = stray (if c = .pre then 2 else 3))

/-- O40. A CURTAIN pulse touches its channel alone. In HANGING the prescale divider counts it, a full divider returns to 0 and advances the curtain counter, which holds at 1,048,575, where a
further pulse sets the overflow flag; in IDLE and DISARMED it adds 1 to the trim counter, which holds at 4,294,967,295.
That the divider counts on at the counter's maximum is the model's reading (assumption log 15). -/
def Obligations.CurtainPulsesCount : Prop :=
  ∀ (s : State) (c : Nat) (ch : Channel), c < 6 → s.capture.channels[c]? = some ch →
    (s.capture.state = .hanging →
      exec (.curtainPulse c) s = .next { s with capture := { s.capture with channels := s.capture.channels.set c { ch with
        divider := if ch.divider + 1 < s.prescale c then ch.divider + 1 else 0
        count := if ch.divider + 1 < s.prescale c then ch.count else min (ch.count + 1) 1048575
        overflow := ch.overflow || decide (1048575 ≤ ch.count) } } }) ∧
    (s.capture.state ≠ .hanging →
      exec (.curtainPulse c) s = .next { s with capture := { s.capture with channels := s.capture.channels.set c { ch with
        trim := min (ch.trim + 1) 4294967295 } } })

/-! ## Lots -/

/-- O41. LOT OPEN: its refusals in the order of R122; taken with no lot OPEN it writes the new lot with zero counts into the lowest free slot; taken with a lot OPEN whose rods are still in the train it closes that lot and
writes the new one; taken with a lot OPEN that has none it drains that lot within the request, and the new one goes to the lowest slot free then. LOT CLOSE is refused NOT_FOUND with no lot OPEN; a lot with rods in train becomes CLOSED; a lot with none drains within the request: its LOT_SUMMARY joins the queue, LOT_DRAINED is raised, its
slot is free. Nothing else changes. That a bad lot id
is named before a bad profile is the model's reading (assumption log 14). -/
def Obligations.LotsOpenCloseAndDrain : Prop :=
  ∀ (s : State) (id : Word32) (profile gap : Byte), s.line.state ≠ .init →
    let c : Instr := .lotOpen id profile gap
    let taken := s.line.state ≠ .unconfigured ∧ s.line.state ≠ .runOut
    let new : Lot :=
      { id := id, profile := profile.toNat, state := .opened, gapPending := gap.toNat, born := 0, scrapped := 0, inTrain := 0,
        accepted := 0, reviewed := 0, reworked := 0, rejected := 0, acceptedCharge := 0, trimTotal := 0, firstRod := 0,
        lastRod := 0, reportsLost := 0 }
    let unused := ∀ i l, s.lot i = some l → l.id ≠ id
    let lowest (slot : Nat) := s.lots[slot]? = some none ∧ ∀ j, j < slot → s.lots[j]? ≠ some none
    (s.line.state = .unconfigured ∨ s.line.state = .runOut → Refuses s c 0x30 .notNow []) ∧
    (taken → id = 0 → Refuses s c 0x30 .badValue [0]) ∧
    (taken → id ≠ 0 → 7 < profile.toNat → Refuses s c 0x30 .badValue [4]) ∧
    (taken → id ≠ 0 → profile.toNat ≤ 7 →
      (s.profile profile.toNat = none → Refuses s c 0x30 .badProfile []) ∧
      ((s.profile profile.toNat).isSome = true →
        (∀ i l, s.lot i = some l → l.id = id → Refuses s c 0x30 .duplicate []) ∧
        (unused → (∀ l ∈ s.lots, l ≠ none) → Refuses s c 0x30 .tableFull []) ∧
        (∀ slot, unused → lowest slot → s.openSlot = none → exec c s = .next { s with
          lots := s.lots.set slot (some new)
          link := s.link.prepared 0x30 .ok [BitVec.ofNat 8 slot] }) ∧
        (∀ slot i l, unused → lowest slot → s.openSlot = some i → s.lot i = some l → 0 < l.inTrain → exec c s = .next { s with
          lots := (s.lots.set i (some { l with state := .closed })).set slot (some new)
          link := s.link.prepared 0x30 .ok [BitVec.ofNat 8 slot] }) ∧
        (∀ slot i l, unused → (∃ j, lowest j) → s.openSlot = some i → s.lot i = some l → l.inTrain = 0 →
          s.reports.reports.length < 191 → (s.lots.set i none)[slot]? = some none →
          (∀ j, j < slot → (s.lots.set i none)[j]? ≠ some none) → exec c s = .next { s with
          lots := (s.lots.set i none).set slot (some new)
          reports := {
            reports := s.reports.reports ++
              [{ sequence := s.reports.nextSequence, body := .lotSummary i { l with state := .closed } s.clock }]
            nextSequence := s.reports.nextSequence + 1 }
          notices := s.notices.occurred .lotDrained s.clock l.id
          link := s.link.prepared 0x30 .ok [BitVec.ofNat 8 slot] }))) ∧
    (s.openLot = none → Refuses s .lotClose 0x31 .notFound []) ∧
    (∀ i l, s.openSlot = some i → s.lot i = some l → 0 < l.inTrain → ∃ payload, exec .lotClose s = .next { s with
        lots := s.lots.set i (some { l with state := .closed })
        link := s.link.prepared 0x31 .ok payload } ∧
      payload.length = 5 ∧ HasField payload 0 4 l.id.toNat ∧ HasField payload 4 1 0) ∧
    (∀ i l, s.openSlot = some i → s.lot i = some l → l.inTrain = 0 → s.reports.reports.length < 191 →
      ∃ payload, exec .lotClose s = .next { s with
        lots := s.lots.set i none
        reports := {
          reports := s.reports.reports ++
            [{ sequence := s.reports.nextSequence, body := .lotSummary i { l with state := .closed } s.clock }]
          nextSequence := s.reports.nextSequence + 1 }
        notices := s.notices.occurred .lotDrained s.clock l.id
        link := s.link.prepared 0x31 .ok payload } ∧
      payload.length = 5 ∧ HasField payload 0 4 l.id.toNat ∧ HasField payload 4 1 1)

/-! ## Rods and the train -/

/-- O42. ROD READ, LOT READ and TRAIN READ answer 61, 52 and 6 + 4n bytes, each field at its place, and change nothing; ROD MARK adds OPERATOR to its rod's marks and changes nothing else. Number or id 0 is refused
BAD_VALUE, one that no live rod or lot carries NOT_FOUND; a part code above 3 and a count of 0 or above 48 are refused BAD_VALUE, and TRAIN READ is refused NOT_NOW in UNCONFIGURED
(its BAD_VALUE before its NOT_NOW, and of a bad part code and a bad count the part code: assumption log 14). The parts are the landing queue 0, the pre chain with its gaps 1, the transfer buffer 2 and the main chain 3. -/
def Obligations.RodsLotsAndTheTrainAreRead : Prop :=
  ∀ s : State, s.line.state ≠ .init →
    (Refuses s (.rodRead 0) 0x33 .badValue [0] ∧ Refuses s (.rodMark 0) 0x34 .badValue [0] ∧
      Refuses s (.lotRead 0) 0x32 .badValue [0]) ∧
    (∀ n, n ≠ 0 → (∀ r ∈ s.rods, r.number ≠ n) →
      Refuses s (.rodRead n) 0x33 .notFound [] ∧ Refuses s (.rodMark n) 0x34 .notFound []) ∧
    (∀ n r lot, n ≠ 0 → s.rod n = some r → s.lot r.lotSlot = some lot → r.counts.length = 6 →
      (Reads s (.rodRead n) 0x33 61 fun p =>
        HasField p 0 4 n.toNat ∧ HasField p 4 1 r.lotSlot ∧ HasField p 5 4 lot.id.toNat ∧ HasField p 9 4 r.hangTime.toNat ∧
        HasField p 13 4 r.cutTime.toNat ∧ (∀ c v, r.counts[c]? = some v → HasField p (17 + 4 * c) 4 v) ∧
        (r.charge = none → HasField p 41 2 0 ∧ HasField p 43 1 1) ∧
        (∀ g, r.charge = some g → HasField p 41 2 g ∧ HasField p 43 1 0) ∧
        HasField p 44 4 r.moisture ∧ HasField p 48 1 r.stress ∧ HasField p 49 4 r.heat ∧ HasField p 53 4 r.lastAccounted.toNat ∧
        HasField p 57 1 ((if r.marks.overflow then 1 else 0) + 2 * (if r.marks.noCut then 1 else 0)
          + 4 * (if r.marks.shortCurtain then 1 else 0) + 8 * (if r.marks.estimated then 1 else 0)
          + 16 * (if r.marks.unconditioned then 1 else 0) + 32 * (if r.marks.outOfBand then 1 else 0)
          + 64 * (if r.marks.crossProfile then 1 else 0) + 128 * (if r.marks.operator then 1 else 0)) ∧
        (∀ i, (r.location = .landing i → HasField p 58 1 0 ∧ HasField p 59 2 i) ∧
          (r.location = .pre i → HasField p 58 1 1 ∧ HasField p 59 2 i) ∧
          (r.location = .buffer i → HasField p 58 1 2 ∧ HasField p 59 2 i) ∧
          (r.location = .main i → HasField p 58 1 3 ∧ HasField p 59 2 i))) ∧
      exec (.rodMark n) s = .next { s with
        rods := s.rods.map fun x => if x.number = n then { x with marks := { x.marks with operator := true } } else x
        link := s.link.prepared 0x34 .ok [] }) ∧
    (∀ id, id ≠ 0 → s.lotSlotOf id = none → Refuses s (.lotRead id) 0x32 .notFound []) ∧
    (∀ id slot l, id ≠ 0 → s.lotSlotOf id = some slot → s.lot slot = some l → Reads s (.lotRead id) 0x32 52 fun p =>
      HasField p 0 1 slot ∧ HasField p 1 4 id.toNat ∧ HasField p 5 1 l.profile ∧ HasField p 6 1 l.state.code ∧
      HasField p 7 1 l.gapPending ∧ HasField p 8 4 l.born.toNat ∧ HasField p 12 4 l.scrapped.toNat ∧ HasField p 16 2 l.inTrain ∧
      HasField p 18 4 l.accepted.toNat ∧ HasField p 22 4 l.reviewed.toNat ∧ HasField p 26 4 l.reworked.toNat ∧
      HasField p 30 4 l.rejected.toNat ∧ HasField p 34 4 l.acceptedCharge ∧ HasField p 38 4 l.trimTotal ∧
      HasField p 42 4 l.firstRod.toNat ∧ HasField p 46 4 l.lastRod.toNat ∧ HasField p 50 2 l.reportsLost) ∧
    (∀ (part : Byte) (first : BitVec 16) (count : Byte),
      let places : List (Option Word32) :=
        if part = 0 then s.landing.map some else if part = 1 then s.preChain else if part = 2 then s.buffer.map some
        else s.mainChain
      (3 < part.toNat → Refuses s (.trainRead part first count) 0x35 .badValue [0]) ∧
      (part.toNat ≤ 3 → count = 0 ∨ 48 < count.toNat → Refuses s (.trainRead part first count) 0x35 .badValue [3]) ∧
      (part.toNat ≤ 3 → count ≠ 0 → count.toNat ≤ 48 → s.line.state = .unconfigured →
        Refuses s (.trainRead part first count) 0x35 .notNow []) ∧
      (part.toNat ≤ 3 → count ≠ 0 → count.toNat ≤ 48 → s.line.state ≠ .unconfigured →
        let returned := min count.toNat (places.length - first.toNat)
        Reads s (.trainRead part first count) 0x35 (6 + 4 * returned) fun p =>
          HasField p 0 1 part.toNat ∧ HasField p 1 2 first.toNat ∧ HasField p 3 1 returned ∧
          HasField p 4 2 (places.countP Option.isSome) ∧
          ∀ i, i < returned →
            HasField p (6 + 4 * i) 4 (places[first.toNat + i]?.join.getD 0).toNat))

/-! ## Notices and reports -/

/-- O43. NOTICE FETCH, in every line state, presents the pending and enabled kind of the highest group, then of the greatest age, then of the lowest number, with its record, clears that record and nothing else; with
none it answers kind 0xFF and changes nothing. ATTENTION is asserted exactly while some kind is pending and enabled. Outside INIT, NOTICE ENABLE replaces the enable set by the kinds 0..19 of the request and changes no record. -/
def Obligations.NoticesAreFetchedByRank : Prop :=
  ∀ s : State, s.notices.records.length = 20 →
    let fetchable (k : Nat) (n : Notice) : Prop := s.notices.records[k]? = some (some n) ∧ s.notices.enabled.getLsbD k = true
    let age (n : Notice) : Nat := (s.clock - n.time).toNat
    (s.attention = true ↔ ∃ k n, fetchable k n) ∧
    s.enabledPending = ((List.range 20).filter fun k =>
      s.notices.records[k]?.join.isSome && s.notices.enabled.getLsbD k).length ∧
    s.disabledPending = ((List.range 20).filter fun k =>
      s.notices.records[k]?.join.isSome && !s.notices.enabled.getLsbD k).length ∧
    ((∀ k n, ¬ fetchable k n) → Reads s .noticeFetch 0x42 13 fun p =>
      HasField p 0 1 0xFF ∧ HasField p 1 1 0 ∧ HasField p 2 1 0 ∧ HasField p 3 4 0 ∧ HasField p 7 4 0 ∧ HasField p 11 1 0 ∧
      HasField p 12 1 s.disabledPending) ∧
    (∀ k n, fetchable k n →
      (∀ j m, fetchable j m → j ≠ k → noticeGroup j < noticeGroup k ∨
        (noticeGroup j = noticeGroup k ∧ (age m < age n ∨ (age m = age n ∧ k < j)))) →
      ∃ payload, exec .noticeFetch s = .next { s with
          notices := { s.notices with records := s.notices.records.set k none }
          link := s.link.prepared 0x42 .ok payload } ∧
        payload.length = 13 ∧ HasField payload 0 1 k ∧ HasField payload 1 1 (noticeGroup k) ∧ HasField payload 2 1 n.count ∧
        HasField payload 3 4 n.detail.toNat ∧ HasField payload 7 4 n.time.toNat ∧
        HasField payload 11 1 (s.enabledPending - 1) ∧ HasField payload 12 1 s.disabledPending) ∧
    (∀ kinds : BitVec 32, s.line.state ≠ .init → ∃ payload, exec (.noticeEnable kinds) s = .next { s with
        notices := { s.notices with enabled := kinds.setWidth 20 }
        link := s.link.prepared 0x43 .ok payload } ∧
      payload.length = 4 ∧ HasField payload 0 4 (kinds.setWidth 20).toNat)

/-- O44. REPORT READ answers the occupancy and the up to four oldest reports, head first, and changes nothing; REPORT RELEASE removes the smaller of n and the occupancy from the head and answers the number removed, the
occupancy left and the sequence number of the new head, or the next to be given. An offered report takes the next sequence number and joins the tail, raising REPORT_HIGH exactly at 192; offered to a full queue of 256 it is discarded, the lot it
names counts it, and REPORT_LOST is raised. A ROD_EXIT carries kind 1 and 30 bytes, a ROD_SCRAP kind 2 and 13, a LOT_SUMMARY kind 3 and 53, each field at its place. -/
def Obligations.ReportsQueueInOrder : Prop :=
  (∀ (number lot : Word32) (d : Disposition) (moisture stress heat : Nat) (m : Marks) (charge : Option Nat)
      (hangTime exitTime : Word32),
    let body : ReportBody := .rodExit number lot d moisture stress heat m charge hangTime exitTime
    let p := body.image
    body.kind = 1 ∧ p.length = 30 ∧ HasField p 0 4 number.toNat ∧ HasField p 4 4 lot.toNat ∧
    HasField p 8 1 (match d with | .accept => 0 | .review => 1 | .rework => 2 | .reject => 3) ∧ HasField p 9 4 moisture ∧
    HasField p 13 1 stress ∧ HasField p 14 4 heat ∧
    HasField p 18 1 ((if m.overflow then 1 else 0) + 2 * (if m.noCut then 1 else 0) + 4 * (if m.shortCurtain then 1 else 0)
      + 8 * (if m.estimated then 1 else 0) + 16 * (if m.unconditioned then 1 else 0) + 32 * (if m.outOfBand then 1 else 0)
      + 64 * (if m.crossProfile then 1 else 0) + 128 * (if m.operator then 1 else 0)) ∧
    (charge = none → HasField p 19 2 0 ∧ HasField p 21 1 1) ∧ (∀ g, charge = some g → HasField p 19 2 g ∧ HasField p 21 1 0) ∧
    HasField p 22 4 hangTime.toNat ∧ HasField p 26 4 exitTime.toNat) ∧
  (∀ (number lot : Word32) (reason : ScrapReason) (cutTime : Word32),
    let body : ReportBody := .rodScrap number lot reason cutTime
    let p := body.image
    body.kind = 2 ∧ p.length = 13 ∧ HasField p 0 4 number.toNat ∧ HasField p 4 4 lot.toNat ∧
    HasField p 8 1 (match reason with | .overrun => 0 | .noLot => 1) ∧ HasField p 9 4 cutTime.toNat) ∧
  (∀ (slot : Nat) (l : Lot) (drainTime : Word32),
    let body : ReportBody := .lotSummary slot l drainTime
    let p := body.image
    body.kind = 3 ∧ p.length = 53 ∧ HasField p 0 4 l.id.toNat ∧ HasField p 4 1 slot ∧ HasField p 5 1 l.profile ∧
    HasField p 6 4 l.born.toNat ∧ HasField p 10 4 l.scrapped.toNat ∧ HasField p 14 4 l.accepted.toNat ∧
    HasField p 18 4 l.reviewed.toNat ∧ HasField p 22 4 l.reworked.toNat ∧ HasField p 26 4 l.rejected.toNat ∧
    HasField p 30 4 l.acceptedCharge ∧ HasField p 34 4 l.trimTotal ∧ HasField p 38 4 l.firstRod.toNat ∧
    HasField p 42 4 l.lastRod.toNat ∧ HasField p 46 1 l.gapPending ∧ HasField p 47 2 l.reportsLost ∧
    HasField p 49 4 drainTime.toNat) ∧
  ∀ s : State,
    (s.line.state ≠ .init → ∃ payload, exec .reportRead s = .next { s with link := s.link.prepared 0x40 .ok payload } ∧
      HasField payload 0 2 s.reports.reports.length ∧ HasField payload 2 1 (min 4 s.reports.reports.length) ∧
      payload.drop 3 = (s.reports.reports.take 4).flatMap fun r =>
        beBytes 1 r.body.kind ++ beBytes 2 r.sequence.toNat ++ r.body.image) ∧
    (∀ n : Byte, s.line.state ≠ .init → ∃ payload, exec (.reportRelease n) s = .next { s with
        reports := { s.reports with reports := s.reports.reports.drop n.toNat }
        link := s.link.prepared 0x41 .ok payload } ∧
      payload.length = 5 ∧ HasField payload 0 1 (min n.toNat s.reports.reports.length) ∧
      HasField payload 1 2 (s.reports.reports.length - n.toNat) ∧
      HasField payload 3 2 (((s.reports.reports.drop n.toNat).head?.map Report.sequence).getD s.reports.nextSequence).toNat) ∧
    (∀ body slot id, s.reports.reports.length < 256 → s.offerReport body slot id = { s with
      reports := {
        reports := s.reports.reports ++ [{ sequence := s.reports.nextSequence, body := body }]
        nextSequence := s.reports.nextSequence + 1 }
      notices := if s.reports.reports.length = 191 then s.notices.occurred .reportHigh s.clock 192 else s.notices }) ∧
    (∀ body id, s.reports.reports.length = 256 → s.offerReport body none id = { s with
      reports := { s.reports with nextSequence := s.reports.nextSequence + 1 }
      notices := s.notices.occurred .reportLost s.clock id }) ∧
    (∀ body slot lot id, s.reports.reports.length = 256 → s.lot slot = some lot → s.offerReport body (some slot) id = { s with
      lots := s.lots.set slot (some { lot with reportsLost := min (lot.reportsLost + 1) 65535 })
      reports := { s.reports with nextSequence := s.reports.nextSequence + 1 }
      notices := s.notices.occurred .reportLost s.clock id })

/-! ## Grading and moisture -/

/-- O45. The disposition of a rod is the first test of R114 that holds: the marks OPERATOR and UNCONDITIONED reject; a moisture above the exit maximum reworks; one below the exit minimum rejects; a stress count above the limit, heat seconds
below the minimum, and the marks SHORT_CURTAIN, ESTIMATED, OUT_OF_BAND, CROSS_PROFILE, NO_CUT and OVERFLOW are for review; else the rod is accepted. -/
def Obligations.DispositionIsTheFirstTestThatHolds : Prop :=
  ∀ (p : Profile) (r : Rod),
    let test1 := r.marks.operator = true ∨ r.marks.unconditioned = true
    let test2 := p.exitMax < r.moisture
    let test3 := r.moisture < p.exitMin
    let test4 := p.stressLimit < r.stress ∨ r.heat < p.minHeat ∨ r.marks.shortCurtain = true ∨ r.marks.estimated = true ∨
      r.marks.outOfBand = true ∨ r.marks.crossProfile = true ∨ r.marks.noCut = true ∨ r.marks.overflow = true
    (test1 → disposition p r = .reject) ∧
    (¬ test1 → test2 → disposition p r = .rework) ∧
    (¬ test1 → ¬ test2 → test3 → disposition p r = .reject) ∧
    (¬ test1 → ¬ test2 → ¬ test3 → test4 → disposition p r = .review) ∧
    (¬ test1 → ¬ test2 → ¬ test3 → ¬ test4 → disposition p r = .accept)

/-- O46. The sorption lookup. The row is the floor of (T − 300) / 100 clamped to 0..7; the humidity is clamped to 1,000; at 1,000 the equilibrium is ten times the entry of column 20, else ten times the entry of column h / 50 moved
toward the next by the truncated fifty parts of the remainder. It lies between the two entries, and in 0..100,000 for a table whose entries lie in 0..10,000. -/
def Obligations.EquilibriumLookup : Prop :=
  ∀ (table : List Nat) (t : Int) (h : Nat),
    let r : Nat := if t < 300 then 0 else if 1000 ≤ t then 7 else ((t - 300) / 100).toNat
    let e (c : Nat) : Int := (table.getD (21 * r + c) 0 : Nat)
    (1000 ≤ h → (equilibrium table t h : Int) = 10 * e 20) ∧
    (h < 1000 → (equilibrium table t h : Int) =
        10 * (e (h / 50) + ((e (h / 50 + 1) - e (h / 50)) * ((h % 50 : Nat) : Int)).tdiv 50)) ∧
    (h < 1000 → 10 * min (e (h / 50)) (e (h / 50 + 1)) ≤ (equilibrium table t h : Int) ∧
      (equilibrium table t h : Int) ≤ 10 * max (e (h / 50)) (e (h / 50 + 1))) ∧
    ((∀ x ∈ table, x ≤ 10000) → equilibrium table t h ≤ 100000)

/-- O47. One accounting. The elapsed seconds are the clock difference modulo 2^32 over 100, clamped to 3,600. With 0 seconds only marks are added. Else the moisture moves toward the equilibrium by the truncated product
D × k × e / 14,745,600 and never past it, the stress count advances by one exactly when the drop was positive and times 60 above G × e, the heat seconds gain e exactly when the working temperature is at or above the
rod's own lot profile's threshold, last accounted is now, and no other field but the four accounting marks changes. -/
def Obligations.AccountingMovesTowardEquilibrium : Prop :=
  ∀ (table : List Nat) (air : ZoneAir) (now : Word32) (profile : Option Nat) (threshold : Option Int) (r : Rod),
    let e := min ((now - r.lastAccounted).toNat / 100) 3600
    let m := equilibrium table air.temp air.hum
    let d : Int := (r.moisture : Int) - m
    let step : Int := (d * air.coefficient * e).tdiv 14745600
    let r' := accountRod table air now profile threshold r
    (r'.number, r'.lotSlot, r'.hangTime, r'.cutTime, r'.counts, r'.charge, r'.location)
      = (r.number, r.lotSlot, r.hangTime, r.cutTime, r.counts, r.charge, r.location) ∧
    (e = 0 → (r'.moisture, r'.stress, r'.heat, r'.lastAccounted) = (r.moisture, r.stress, r.heat, r.lastAccounted)) ∧
    (min r.moisture m ≤ r'.moisture ∧ r'.moisture ≤ max r.moisture m) ∧
    (0 < e → step.natAbs ≤ d.natAbs → (r'.moisture : Int) = r.moisture - step) ∧
    (0 < e → d.natAbs < step.natAbs → r'.moisture = m) ∧
    (0 < e → (air.gradientLimit * e : Int) < ((r.moisture : Int) - r'.moisture) * 60 ∧ r'.moisture < r.moisture →
      r'.stress = min (r.stress + 1) 255) ∧
    (0 < e → ¬ ((air.gradientLimit * e : Int) < ((r.moisture : Int) - r'.moisture) * 60 ∧ r'.moisture < r.moisture) →
      r'.stress = r.stress) ∧
    (0 < e → (∀ x, threshold = some x → x ≤ air.temp → r'.heat = min (r.heat + e) 16777215) ∧
      (∀ x, threshold = some x → air.temp < x → r'.heat = r.heat) ∧ r'.lastAccounted = now) ∧
    r'.marks = { r.marks with
      unconditioned := r.marks.unconditioned || decide (air.state = .off ∨ air.state = .purging ∨ air.state = .failed)
      outOfBand := r.marks.outOfBand || decide (air.state = .waiting ∨ air.state = .ramping ∨ air.state = .economy ∨
        ((air.state = .conditioned ∨ air.state = .holding) ∧ air.latch = false))
      crossProfile := r.marks.crossProfile || decide (profile ≠ some air.profile)
      estimated := r.marks.estimated || air.estimated }

/-- O48. The working climate of an accounting, by the table of R96: a fresh probe's last valid reading in every zone state; in a blind zone the working
targets, the hold targets, the economy temperature with the working humidity, or the hall probe's reading while it is fresh and the
layout's default hall climate while it is not. A zone is blind exactly while its probe has missed 3 times or more in a row, the bus is faulted, or no valid reading has been taken since the last reset; the hall probe is fresh while none of these holds of its record. -/
def Obligations.WorkingClimateTable : Prop :=
  ∀ (s : State) (l : Layout) (z : Nat) (st : ZoneState) (e : ZoneEntry),
    (∀ p, s.probeBus.records[z]? = some p → s.probe z = p ∧
      (s.blind z = true ↔ 3 ≤ p.misses ∨ s.probeBus.fault.isSome = true ∨ p.reading = none) ∧
      (s.probeFresh z = true ↔ p.misses < 3 ∧ s.probeBus.fault = none ∧ p.reading.isSome = true)) ∧
    (∀ r, s.blind z = false → (s.probe z).reading = some r → s.workingClimate l z st e = (r.temp, r.hum)) ∧
    (s.blind z = true →
      (st = .conditioned ∨ st = .ramping ∨ st = .waiting → s.workingClimate l z st e = (e.workTemp, e.workHum)) ∧
      (st = .holding → s.workingClimate l z st e = (e.holdTemp, e.holdHum)) ∧
      (st = .economy → s.workingClimate l z st e = (e.workTemp - e.economyOffset, e.workHum)) ∧
      (st = .off ∨ st = .purging ∨ st = .failed →
        (∀ r, s.probeFresh 10 = true → (s.probe 10).reading = some r →
          s.workingClimate l z st e = (r.temp, r.hum)) ∧
        (s.probeFresh 10 = false → s.workingClimate l z st e = (l.hallTemp, l.hallHum))))

/-! ## The store -/

/-- O49. The writing requests: refused by the first failing check (slot or row above 7, the first bad field, a slot a live lot names, a running job), and accepted otherwise with OK and a write job for their block from page 0, no working copy
changed yet. PROFILE ERASE writes the blank block; TABLE WRITE writes the working table with the named row replaced; LAYOUT WRITE is refused NOT_NOW outside COLD and UNCONFIGURED. -/
def Obligations.WritingRequestsStartAJob : Prop :=
  ∀ s : State, s.line.state ≠ .init →
    let started (c : Instr) (code : Byte) (block : Nat) (kind : JobKind) (image : List Byte) : Prop :=
      exec c s = .next { s with
        store := { s.store with job := some { block := block, kind := kind, image := image, page := 0 } }
        link := s.link.prepared code .ok [] }
    let unnamed (slot : Byte) : Prop := ∀ i l, s.lot i = some l → l.profile ≠ slot.toNat
    let crc (content : List Byte) : List Byte :=
      let body := content ++ List.replicate (510 - content.length) 0
      body ++ [(crc16 body >>> 8).setWidth 8, (crc16 body).setWidth 8]
    (∀ (slot : Byte) (image : List Byte), image.length = 215 →
      (7 < slot.toNat → Refuses s (.profileWrite slot image) 0x51 .badValue [0xFF] ∧
        Refuses s (.profileErase slot) 0x52 .badValue [0xFF]) ∧
      (∀ i, slot.toNat ≤ 7 → profileFault (readProfile image) = some i →
        Refuses s (.profileWrite slot image) 0x51 .badValue [BitVec.ofNat 8 i]) ∧
      (slot.toNat ≤ 7 → profileFault (readProfile image) = none →
        (∀ i l, s.lot i = some l → l.profile = slot.toNat →
          Refuses s (.profileWrite slot image) 0x51 .inUse [] ∧ Refuses s (.profileErase slot) 0x52 .inUse []) ∧
        (unnamed slot → s.store.job.isSome = true →
          Refuses s (.profileWrite slot image) 0x51 .busy [] ∧ Refuses s (.profileErase slot) 0x52 .busy []) ∧
        (unnamed slot → s.store.job = none →
          started (.profileWrite slot image) 0x51 (1 + slot.toNat) .profileWrite (crc image) ∧
          started (.profileErase slot) 0x52 (1 + slot.toNat) .profileErase (List.replicate 512 0xFF)))) ∧
    (∀ (row : Byte) (entries : List (BitVec 16)), entries.length = 21 →
      (7 < row.toNat → Refuses s (.tableWrite row entries) 0x54 .badValue [0]) ∧
      (∀ c v, row.toNat ≤ 7 → entries[c]? = some v → 10000 < v.toNat →
        (∀ j w, j < c → entries[j]? = some w → w.toNat ≤ 10000) →
        Refuses s (.tableWrite row entries) 0x54 .badValue [BitVec.ofNat 8 (1 + c)]) ∧
      (row.toNat ≤ 7 → (∀ v ∈ entries, v.toNat ≤ 10000) → s.store.job.isSome = true →
        Refuses s (.tableWrite row entries) 0x54 .busy []) ∧
      (row.toNat ≤ 7 → (∀ v ∈ entries, v.toNat ≤ 10000) → s.store.job = none →
        started (.tableWrite row entries) 0x54 9 .tableWrite
          (crc ((s.table.take (21 * row.toNat) ++ entries.map BitVec.toNat ++ s.table.drop (21 * row.toNat + 21)).flatMap
            (beBytes 2))))) ∧
    (∀ image : List Byte, image.length = 63 →
      (s.line.state ≠ .cold → s.line.state ≠ .unconfigured → Refuses s (.layoutWrite image) 0x56 .notNow []) ∧
      (s.line.state = .cold ∨ s.line.state = .unconfigured →
        (∀ i, layoutFault (readLayout image) = some i → Refuses s (.layoutWrite image) 0x56 .badValue [BitVec.ofNat 8 i]) ∧
        (layoutFault (readLayout image) = none → s.store.job.isSome = true → Refuses s (.layoutWrite image) 0x56 .busy []) ∧
        (layoutFault (readLayout image) = none → s.store.job = none →
          started (.layoutWrite image) 0x56 0 .layoutWrite (crc image))))

/-- O50. The pages of a store job: an acknowledged poll before page 7 goes on to the next page; after page 7 the job completes with STORE_DONE and its block's working copy is replaced (a table always; a profile where no live lot names its slot,
the zones that the slot governs taking their copies of a written one, with BAND_LOST for each latch that drops, in index order by the model's choice, assumption log 23), or kept with the block NEWER (a slot that a live lot names; a layout outside COLD and UNCONFIGURED). A failed page ends the job with STORE_FAULT, every working copy unchanged, the block DAMAGED exactly where a page's data had been
acknowledged (a page not taken at the first page only leaves the status: assumption log 16). Each page is one transfer to address 0x52: the memory address 512 times the
block plus 64 times the page, high byte first, and the page's 64 bytes of the image. Without a job nothing changes (the model's reading: assumption log 3). -/
def Obligations.StoreJobsCompleteOrFailWhole : Prop :=
  ∀ s : State,
    (s.store.job = none →
      exec .storePollAck s = .next s ∧ exec .storePollTimeout s = .next s ∧ exec .storeTransferNack s = .next s) ∧
    (∀ j, s.store.job = some j →
      let done := s.notices.occurred .storeDone s.clock (BitVec.ofNat 32 j.block)
      let fault := s.notices.occurred .storeFault s.clock (BitVec.ofNat 32 j.block)
      s.storeTransfer = [.start 0x52 .write] ++ ([BitVec.ofNat 8 ((512 * j.block + 64 * j.page) / 256),
        BitVec.ofNat 8 (512 * j.block + 64 * j.page)] ++ (j.image.drop (64 * j.page)).take 64).map .sent ++ [.stop] ∧
      (j.page < 7 → exec .storePollAck s = .next { s with
        store := { s.store with job := some { j with page := j.page + 1 } } }) ∧
      (7 ≤ j.page → j.kind = .tableWrite → exec .storePollAck s = .next { s with
        table := readTable j.image
        tableLoaded := true
        store := { s.store with job := none, status := s.store.status.set j.block .current }
        notices := done }) ∧
      (7 ≤ j.page → j.kind = .profileWrite ∨ j.kind = .profileErase → s.profileNamed (j.block - 1) = true →
        exec .storePollAck s = .next { s with
          store := { s.store with job := none, status := s.store.status.set j.block .newer }
          notices := done }) ∧
      (7 ≤ j.page → j.kind = .profileWrite ∨ j.kind = .profileErase → s.profileNamed (j.block - 1) = false →
        j.block - 1 < s.store.slots.length →
        ∃ zones, exec .storePollAck s = .next { s with
          zones := zones
          store := { s.store with
            job := none
            status := s.store.status.set j.block .current
            slots := s.store.slots.set (j.block - 1)
              (if j.kind = .profileErase then .empty else .valid (readProfile j.image)) }
          notices := done.bandLosts s.clock s.zones zones } ∧
        EachZone s.zones zones fun z a b =>
          (∀ e, j.kind = .profileWrite → a.governing.map Governing.profile = some (j.block - 1) →
            (readProfile j.image).zones[z]? = some e → s.TakesCopy z { profile := j.block - 1, entry := e } a b) ∧
          (j.kind = .profileErase ∨ a.governing.map Governing.profile ≠ some (j.block - 1) ∨
            (readProfile j.image).zones[z]? = none → b = a)) ∧
      (7 ≤ j.page → j.kind = .layoutWrite → s.line.state ≠ .cold → s.line.state ≠ .unconfigured →
        exec .storePollAck s = .next { s with
          store := { s.store with job := none, status := s.store.status.set j.block .newer }
          notices := done }) ∧
      exec .storePollTimeout s = .next { s with
        store := { s.store with job := none, status := s.store.status.set j.block .damaged }
        notices := fault } ∧
      (0 < j.page → exec .storeTransferNack s = .next { s with
        store := { s.store with job := none, status := s.store.status.set j.block .damaged }
        notices := fault }) ∧
      (j.page = 0 → exec .storeTransferNack s = .next { s with store := { s.store with job := none }, notices := fault }))

/-- O51. A layout job that completes in COLD or UNCONFIGURED sets up the part for the new layout: every zone controller OFF without a profile and entered now, every chain position a gap, the records of probes at or beyond the new zone count
reset, a new round of polls now, or at the stop of a poll in flight, the ramp arbiter's record of grants kept and its spacing timer stopped where the new
ramp spacing is 0 (one that runs under a spacing above 0 runs on: the model's choice, assumption log 26), and a line in UNCONFIGURED goes to COLD with LINE_STATE raised. A standing bus fault is retried at
whole new poll periods from the time of the fault; that one falling due at this very tick is taken as made is the model's choice (assumption log 11). -/
def Obligations.LayoutCompletionSetsUpTheLine : Prop :=
  ∀ (s : State) (j : Job), ModeLaw s → s.line.state = .cold ∨ s.line.state = .unconfigured → s.store.job = some j → 7 ≤ j.page →
    j.kind = .layoutWrite →
    let l := readLayout j.image
    let done := s.notices.occurred .storeDone s.clock (BitVec.ofNat 32 j.block)
    ∃ records, exec .storePollAck s = .next { s with
        line := if s.line.state = .cold then s.line else
          { state := .cold, phase := none, holdMask := 0, holdOrigin := .noHold, entered := s.clock }
        store := { s.store with job := none, status := s.store.status.set j.block .current, layout := some l }
        zones := List.replicate l.zoneCount
          { state := .off, startPending := false, governing := none, latch := false, tickTimer := none, economyTimer := none,
            rampTimer := none, purgeTimer := none, heat := false, vent := false, entered := s.clock }
        arbiter := { s.arbiter with spacing := if l.rampSpacing = 0 then none else s.arbiter.spacing }
        preChain := List.replicate l.preCount none
        mainChain := List.replicate l.mainCount none
        probeBus := { s.probeBus with
          records := records
          pollTimer := if s.probeBus.inFlight = none then some 0 else none
          nextSlot := 0
          roundStart := if s.probeBus.inFlight = none then s.clock else s.probeBus.roundStart
          roundOnStop := s.probeBus.inFlight.isSome
          recovery :=
            if s.probeBus.fault.isSome then some (l.pollPeriod * 100 - s.probeBus.faultAge % (l.pollPeriod * 100)) else none }
        notices := if s.line.state = .cold then done else done.occurred .lineState s.clock 2 } ∧
      ∀ i p, s.probeBus.records[i]? = some p →
        records[i]? = some (if l.zoneCount ≤ i ∧ i < 10 then { reading := none, misses := 0, lastMiss := none } else p)

/-- O52. Start-up loading of a block: the layout block sets the working layout where it is valid, leaves none where it is blank or invalid (a spacing timer under it: R75 and log 26, as in O51), and is followed by LOAD_PROFILES; a profile block makes its slot VALID, EMPTY or CORRUPT, and block 8 is followed by LOAD_TABLE; the table
block sets the table or leaves it all zeros and is followed by the probe scan. Every block read is CURRENT. An unreadable block raises STORE_FAULT and counts as invalid. The block in turn is read in one
transfer from address 0x52 and memory address 512 times its number. Outside the load phases of INIT nothing changes (the model's reading: assumption log 3). -/
def Obligations.StartUpLoadsTheBlocks : Prop :=
  ∀ (s : State) (bytes : List Byte), bytes.length = 512 →
    let blank := ∀ x ∈ bytes, x = 0xFF
    let crcOk := [(crc16 (bytes.take 510) >>> 8).setWidth 8, (crc16 (bytes.take 510)).setWidth 8] = bytes.drop 510
    let b := s.store.loadBlock
    let current := s.store.status.set b .current
    (s.line.state ≠ .init → exec (.loadBlockRead bytes) s = .next s ∧ exec .loadPollTimeout s = .next s ∧
      exec .loadTransferNack s = .next s) ∧
    (s.line.state = .init → s.line.phase ≠ some .probeScan →
      (s.store.job = none → s.storeTransfer = [.start 0x52 .write, .sent (BitVec.ofNat 8 (512 * b / 256)),
        .sent (BitVec.ofNat 8 (512 * b)), .start 0x52 .read] ++ List.replicate 511 (.clockedIn true)
          ++ [.clockedIn false, .stop]) ∧
      exec .loadPollTimeout s = exec .loadTransferNack s ∧
      (¬ blank → ¬ crcOk → exec .loadPollTimeout s = exec (.loadBlockRead bytes) { s with
        notices := s.notices.occurred .storeFault s.clock (BitVec.ofNat 32 b) }) ∧
      (1 ≤ b → b ≤ 8 →
        let loaded (slot : ProfileSlot) (notices : NoticeUnit) : Host.Outcome State Fault Refusal := .next { s with
          line := if b = 8 then { s.line with phase := some .loadTable } else s.line
          store := { s.store with slots := s.store.slots.set (b - 1) slot, status := current, loadBlock := b + 1 }
          notices := notices }
        (blank → exec (.loadBlockRead bytes) s = loaded .empty s.notices) ∧
        (¬ blank → ¬ crcOk → exec (.loadBlockRead bytes) s = loaded .corrupt s.notices) ∧
        (¬ blank → crcOk → profileFault (readProfile bytes) ≠ none → exec (.loadBlockRead bytes) s = loaded .corrupt s.notices) ∧
        (¬ blank → crcOk → profileFault (readProfile bytes) = none →
          exec (.loadBlockRead bytes) s = loaded (.valid (readProfile bytes)) s.notices) ∧
        exec .loadPollTimeout s =
          loaded .corrupt (s.notices.occurred .storeFault s.clock (BitVec.ofNat 32 b))) ∧
      (b = 0 → blank ∨ ¬ crcOk ∨ layoutFault (readLayout bytes) ≠ none → exec (.loadBlockRead bytes) s = .next { s with
        line := { s.line with phase := some .loadProfiles }
        store := { s.store with status := current, loadBlock := 1 } }) ∧
      (b = 0 → ¬ blank → crcOk → layoutFault (readLayout bytes) = none →
        ∃ zones, exec (.loadBlockRead bytes) s = .next { s with
            line := { s.line with phase := some .loadProfiles }
            store := { s.store with layout := some (readLayout bytes), status := current, loadBlock := 1 }
            zones := zones
            arbiter := { s.arbiter with
              spacing := if (readLayout bytes).rampSpacing = 0 then none else s.arbiter.spacing }
            preChain := List.replicate (readLayout bytes).preCount none
            mainChain := List.replicate (readLayout bytes).mainCount none } ∧
          zones.length = (readLayout bytes).zoneCount ∧ ∀ zn ∈ zones, zn.state = .off ∧ zn.governing = none) ∧
      (b = 9 →
        let scanning (table : List Nat) (loaded : Bool) : Host.Outcome State Fault Refusal := .next { s with
          line := { s.line with phase := some .probeScan }
          table := table
          tableLoaded := loaded
          store := { s.store with status := current, loadBlock := 10 }
          probeBus := { s.probeBus with pollTimer := some 0, nextSlot := 0 } }
        (¬ blank → crcOk → (∀ x ∈ readTable bytes, x ≤ 10000) → exec (.loadBlockRead bytes) s = scanning (readTable bytes) true) ∧
        (blank ∨ ¬ crcOk ∨ (∃ x ∈ readTable bytes, 10000 < x) →
          exec (.loadBlockRead bytes) s = scanning (List.replicate 168 0) false)))

/-- O53. PROFILE READ, TABLE READ, LAYOUT READ and PROBE READ answer 219, 46, 66 and 20 bytes, each field at its place, from the working copies and records, and change nothing; a slot or row above 7 and a probe address other than 0x20..0x29
and 0x2F are refused BAD_VALUE. That TABLE READ gives table state 1 for a loaded or written table of zeros is the model's reading (assumption log 24). -/
def Obligations.StoreAndProbeReads : Prop :=
  ∀ s : State, s.line.state ≠ .init → s.table.length = 168 →
    let jobOn (block : Nat) : Nat := if s.store.job.map Job.block = some block then 1 else 0
    (∀ x : Byte, 7 < x.toNat → Refuses s (.profileRead x) 0x50 .badValue [0] ∧ Refuses s (.tableRead x) 0x53 .badValue [0]) ∧
    (∀ slot : Byte, slot.toNat ≤ 7 → ∀ st, s.store.status[1 + slot.toNat]? = some st →
      (∀ p, s.store.slots[slot.toNat]? = some (.valid p) → p.name.length = 12 → p.zones.length = 10 →
        Reads s (.profileRead slot) 0x50 219 fun q =>
          HasField q 0 1 slot.toNat ∧ HasField q 1 1 1 ∧ HasField q 2 1 st.code ∧ HasField q 3 1 (jobOn (1 + slot.toNat)) ∧
          q.drop 4 = profileImage p) ∧
      (s.store.slots[slot.toNat]? = some .empty ∨ s.store.slots[slot.toNat]? = some .corrupt →
        Reads s (.profileRead slot) 0x50 219 fun q =>
          HasField q 0 1 slot.toNat ∧ HasField q 1 1 (if s.store.slots[slot.toNat]? = some .empty then 0 else 2) ∧
          HasField q 2 1 st.code ∧ HasField q 3 1 (jobOn (1 + slot.toNat)) ∧ q.drop 4 = List.replicate 215 0)) ∧
    (∀ row : Byte, row.toNat ≤ 7 → ∀ st, s.store.status[9]? = some st → Reads s (.tableRead row) 0x53 46 fun q =>
      HasField q 0 1 row.toNat ∧ HasField q 1 1 (if s.tableLoaded then 1 else 0) ∧ HasField q 2 1 st.code ∧
      HasField q 3 1 (jobOn 9) ∧ ∀ c e, c < 21 → s.table[21 * row.toNat + c]? = some e → HasField q (4 + 2 * c) 2 e) ∧
    (∀ st, s.store.status[0]? = some st →
      (s.store.layout = none → Reads s .layoutRead 0x55 66 fun q =>
        HasField q 0 1 0 ∧ HasField q 1 1 st.code ∧ HasField q 2 1 (jobOn 0) ∧ q.drop 3 = List.replicate 63 0) ∧
      (∀ l, s.store.layout = some l → l.positions.length = 10 → l.prescales.length = 6 → l.massFactors.length = 6 →
        Reads s .layoutRead 0x55 66 fun q =>
          HasField q 0 1 1 ∧ HasField q 1 1 st.code ∧ HasField q 2 1 (jobOn 0) ∧ q.drop 3 = layoutImage l)) ∧
    (∀ a : Byte, a.toNat < 0x20 ∨ (0x29 < a.toNat ∧ a ≠ 0x2F) → Refuses s (.probeRead a) 0x60 .badValue [0]) ∧
    (∀ (a : Byte) (i : Nat), (i < 10 ∧ a.toNat = 0x20 + i) ∨ (i = 10 ∧ a = 0x2F) → Reads s (.probeRead a) 0x60 20 fun q =>
      let p := s.probe i
      let configured := s.configured.contains i
      HasField q 0 1 a.toNat ∧
      HasField q 1 1 ((if configured then 1 else 0) + 2 * (if configured ∧ s.probeFresh i = true then 1 else 0)
        + 4 * (if p.reading.isSome then 1 else 0) + 8 * (if (p.reading.map Reading.clamped).getD false then 1 else 0)
        + 16 * (if s.probeBus.fault.isSome then 1 else 0) + 32 * (if s.probeBus.check.isSome then 1 else 0)) ∧
      (p.reading = none → HasField q 2 2 0 ∧ HasField q 4 2 0 ∧ HasField q 6 4 0) ∧
      (∀ r, p.reading = some r → HasSigned q 2 r.temp ∧ HasField q 4 2 r.hum ∧ HasField q 6 4 r.time.toNat) ∧
      HasField q 10 1 p.misses ∧
      (p.lastMiss = none → HasField q 11 1 0 ∧ HasField q 12 4 0) ∧
      (∀ m, p.lastMiss = some m → HasField q 11 1 m.reason.code ∧ HasField q 12 4 m.time.toNat) ∧
      HasField q 16 4 (s.probeBus.fault.getD 0).toNat)

/-! ## Bus fault, polls and the line check -/

/-- O54. A due poll slot. In the start-up scan the poll of the probe in turn is made. Outside INIT the schedule advances by one slot length, and after the last slot to the next round, whose start keeps the poll period; the poll is made only
while no line check runs, no fault stands and none is in flight. With PROBE DATA held low the poll made ends at once as one that no probe answers (NO_ACK). A poll sends start, the probe's address with the read direction and, where that is acknowledged, clocks in six bytes, acknowledging the first five, then sends stop. A clock line held low ends the transaction without an outcome, sets the fault and its
time and raises PROBE_BUS_FAULT; in the start-up scan the line then leaves INIT, and a round that waited for the stop begins. A recovery attempt with the line high sends nine clock pulses and a stop, clears the fault and begins a new round; with the line low, or during a line
check, the fault stands until the next attempt, at whole poll periods from the time of the fault. With the poll timer stopped, with a fault already standing, and with no attempt due, nothing changes (the model's reading: assumption
log 3). That a slot due during a transaction is not made, and when the line is watched, are its choices (assumption logs 9 and 10). -/
def Obligations.PollsFaultsAndRecovery : Prop :=
  ∀ s : State,
    let k := s.probeBus.nextSlot
    let zones := (s.store.layout.map Layout.zoneCount).getD 0
    let pins (level : Bool) : Pins := { s.pins with probeData := level }
    let made (b : ProbeBus) : ProbeBus := { b with inFlight := some (if k < zones then k else 10) }
    let checkRuns := s.probeBus.check = some .quiet ∨ s.probeBus.check = some .pulse ∨
      (s.probeBus.check = some .accepted ∧ s.probeBus.inFlight = none)
    let faulted : State := { s with
      probeBus := { s.probeBus with
        inFlight := none, fault := some s.clock, faultAge := 0
        recovery := s.store.layout.map fun l => l.pollPeriod * 100 }
      pins := { s.pins with probeClk := false }
      notices := s.notices.occurred .probeBusFault s.clock 0 }
    (∀ i taken, s.probeBus.inFlight = some i → s.trunkTransfer taken =
      [.start (if i = 10 then 0x2F else BitVec.ofNat 8 (0x20 + i)) .read]
        ++ (if taken then List.replicate 5 (.clockedIn true) ++ [.clockedIn false] else []) ++ [.stop]) ∧
    (s.probeBus.fault.isSome = true → s.probeBus.recovery.isSome = true → s.probeBus.check = none →
      s.recoverySends true = List.replicate 9 .clockPulse ++ [.stop]) ∧
    (∀ level, level = false ∨ s.probeBus.fault = none ∨ s.probeBus.recovery = none ∨ s.probeBus.check.isSome = true →
      s.recoverySends level = []) ∧
    (s.probeBus.pollTimer = none → ∀ level, exec (.poll level) s = .next s) ∧
    (s.probeBus.pollTimer.isSome = true → s.line.state = .init →
      let b := made { s.probeBus with pollTimer := none }
      exec (.poll true) s = .next { s with probeBus := b, pins := pins true } ∧
      exec (.poll false) s = exec (.pollStop none) { s with probeBus := b, pins := pins false }) ∧
    (s.probeBus.pollTimer.isSome = true → s.line.state ≠ .init → s.store.layout = none →
      ∀ level, exec (.poll level) s = .next { s with
        probeBus := { s.probeBus with pollTimer := none }, pins := pins level }) ∧
    (∀ l, s.probeBus.pollTimer.isSome = true → s.line.state ≠ .init → s.store.layout = some l →
      let slot := l.pollPeriod * 100 / (l.zoneCount + 1)
      let scheduled : ProbeBus := { s.probeBus with
        roundStart := if k = 0 then s.clock else s.probeBus.roundStart
        nextSlot := if k < l.zoneCount then k + 1 else 0
        pollTimer := some (if k < l.zoneCount then slot else l.pollPeriod * 100 - l.zoneCount * slot) }
      (s.probeBus.check.isSome = true ∨ s.probeBus.fault.isSome = true ∨ s.probeBus.inFlight.isSome = true →
        ∀ level, exec (.poll level) s = .next { s with probeBus := scheduled, pins := pins level }) ∧
      (s.probeBus.check = none → s.probeBus.fault = none → s.probeBus.inFlight = none →
        exec (.poll true) s = .next { s with probeBus := made scheduled, pins := pins true } ∧
        exec (.poll false) s = exec (.pollStop none) { s with probeBus := made scheduled, pins := pins false })) ∧
    (s.probeBus.fault.isSome = true ∨ checkRuns ∨ (s.line.state = .init ∧ s.line.phase ≠ some .probeScan) →
      exec .busFault s = .next s) ∧
    (s.probeBus.fault = none → ¬ checkRuns → s.line.state ≠ .init →
      (s.probeBus.roundOnStop = false → exec .busFault s = .next faulted) ∧
      (s.probeBus.roundOnStop = true → exec .busFault s = .next { faulted with
        probeBus := faulted.probeBus.newRound s.store.layout s.clock })) ∧
    (s.probeBus.fault = none → ¬ checkRuns → s.line.state = .init → s.line.phase = some .probeScan →
      exec .busFault s = .next faulted.leftInit) ∧
    (s.probeBus.fault = none ∨ s.probeBus.recovery = none → ∀ level, exec (.recoveryAttempt level) s = .next s) ∧
    (∀ l, s.store.layout = some l → s.probeBus.fault.isSome = true → s.probeBus.recovery.isSome = true →
      let period := l.pollPeriod * 100
      let later : ProbeBus := { s.probeBus with recovery := some (period - s.probeBus.faultAge % period) }
      (s.probeBus.check = none →
        exec (.recoveryAttempt true) s = .next { s with
          probeBus := { s.probeBus with
            fault := none, faultAge := 0, recovery := none, pollTimer := some 0, nextSlot := 0, roundStart := s.clock,
            roundOnStop := false }
          pins := { s.pins with probeClk := true } } ∧
        exec (.recoveryAttempt false) s = .next { s with
          probeBus := later, pins := { s.pins with probeClk := false } }) ∧
      (s.probeBus.check.isSome = true → ∀ level, exec (.recoveryAttempt level) s = .next { s with probeBus := later }))

/-- O55. The line check: LINE CHECK is accepted OK unless one runs (BUSY); it begins once no poll is in flight, with the quiet command (one byte of a free value, assumption log 27, to the general address), or ends INVALID where PROBE CLK is low; the command that cannot be clocked and an edge in the quiet window end it INVALID with count 0; the window's end sends the
pulse; the first reflection gives NORMAL, OPEN or SHORT with its count. Each end records the result and its time and raises LINE_CHECK_DONE with the code. An event of another stage changes nothing (the model's reading: assumption log 3). LINE CHECK RESULT answers the last result, IN_PROGRESS while a check runs. -/
def Obligations.LineCheckStages : Prop :=
  ∀ s : State,
    let ended (code : CheckCode) (n : Nat) : State := { s with
      probeBus := { s.probeBus with check := none, result := { code := code, distance := n, time := s.clock } }
      notices := s.notices.occurred .lineCheckDone s.clock (BitVec.ofNat 32 code.code) }
    let clk (level : Bool) : Pins := { s.pins with probeClk := level }
    (s.line.state ≠ .init →
      (s.probeBus.check.isSome = true → Refuses s .lineCheck 0x61 .busy []) ∧
      (s.probeBus.check = none → exec .lineCheck s = .next { s with
        probeBus := { s.probeBus with check := some .accepted }, link := s.link.prepared 0x61 .ok [] }) ∧
      ∃ payload, exec .lineCheckResult s = .next { s with
          link := s.link.prepared 0x62 (if s.probeBus.check.isSome then .inProgress else .ok) payload } ∧
        payload.length = 7 ∧ HasField payload 0 1 s.probeBus.result.code.code ∧
        HasField payload 1 2 s.probeBus.result.distance ∧ HasField payload 3 4 s.probeBus.result.time.toNat) ∧
    (s.probeBus.inFlight = none → ∀ taken,
      (s.probeBus.check = some .quiet → s.trunkTransfer taken = [.start 0x00 .write, .sent Config.quietCommand, .stop]) ∧
      (s.probeBus.check = some .pulse → s.trunkTransfer taken = [.testPulse]) ∧
      (s.probeBus.check = none ∨ s.probeBus.check = some .accepted → s.trunkTransfer taken = [])) ∧
    (s.probeBus.check = some .accepted → s.probeBus.inFlight = none →
      exec (.lineCheckBegin true) s = .next { s with
        probeBus := { s.probeBus with check := some .quiet }, pins := clk true } ∧
      exec (.lineCheckBegin false) s = .next { ended .invalid 0 with pins := clk false }) ∧
    (s.probeBus.check ≠ some .accepted ∨ s.probeBus.inFlight.isSome = true →
      ∀ level, exec (.lineCheckBegin level) s = .next s) ∧
    (s.probeBus.check = some .quiet →
      exec .quietCommandFailed s = .next (ended .invalid 0) ∧ exec .quietWindowEdge s = .next (ended .invalid 0) ∧
      exec .quietWindowEnd s = .next { s with probeBus := { s.probeBus with check := some .pulse } }) ∧
    (s.probeBus.check ≠ some .quiet →
      exec .quietCommandFailed s = .next s ∧ exec .quietWindowEdge s = .next s ∧ exec .quietWindowEnd s = .next s) ∧
    (s.probeBus.check = some .pulse →
      exec (.lineCheckEnd .nothing) s = .next (ended .normal 0) ∧
      ∀ n, n ≤ 511 → exec (.lineCheckEnd (.sameSense n)) s = .next (ended .openEnd n) ∧
        exec (.lineCheckEnd (.oppositeSense n)) s = .next (ended .short n)) ∧
    (s.probeBus.check ≠ some .pulse → exec (.lineCheckEnd .nothing) s = .next s)

/-! ## Laws that every step keeps -/

/-- O56. The laws hold right after reset. -/
def Obligations.ResetMeetsTheLaws : Prop :=
  ModeLaw State.reset ∧ CapacityLaw State.reset ∧ ArbiterLaw State.reset ∧ SpacingLaw State.reset ∧ TrainLaw State.reset ∧
  OrderLaw State.reset ∧ LotLaw State.reset

/-- O57. Every step keeps the law of the modes and the capacities, from every state that meets them and the law of the train: a start-up phase in INIT alone, a hold in HOLD alone, the capture unit armed exactly in RUNNING, HOLD and RUN_OUT, waiting chains only where the line allows steps, one timer per chain state;
never more than 4 rods on the landing queue, 8 in the transfer buffer, 4,012 in the rod table, 256 reports, and room for every pre-chain shift. -/
def Obligations.StepKeepsModesAndCapacities : Prop :=
  ∀ s t : State, ModeLaw s → CapacityLaw s → TrainLaw s → step s = .next t → ModeLaw t ∧ CapacityLaw t

/-- O58. Every step keeps the law of the ramp arbiter: the queue holds each WAITING zone once and no other, no more zones ramp than the layout's slots, zones are OFF at rest, and in HOLD and SHUTDOWN none ramps, dries or waits. And it keeps the law of the spacing timer, which runs neither before the first grant since a reset nor with a ramp
spacing of 0. -/
def Obligations.StepKeepsTheArbiterLaw : Prop :=
  ∀ s t : State, step s = .next t → (ArbiterLaw s → ArbiterLaw t) ∧ (SpacingLaw s → SpacingLaw t)

/-- O59. Every step keeps the law of the train: rod numbers are distinct, every live rod stands at exactly the one place its location names, every rod of a place is live, and the train is empty in INIT, UNCONFIGURED and COLD. And it keeps the order of R16, by which rod numbers strictly
increase along the train and into the latch but for the one point where they wrapped, as long as no rod still carries the number that the counter has come round to (the skip of R8, a full lap of 4,294,967,295
numbers later, after which R16's order is that of the giving no more). -/
def Obligations.StepKeepsTheTrainLaw : Prop :=
  ∀ s t : State, ModeLaw s → CapacityLaw s → TrainLaw s → step s = .next t →
    TrainLaw t ∧
    (OrderLaw s → s.capture.state ≠ .hanging ∨ s.numberHeld s.capture.rodCounter = false → OrderLaw t)

/-- O60. Every step keeps the law of the lots: at most one lot is OPEN, no two share an id, for every lot born equals scrapped plus in-train plus the four exit counts, in-train equals its live rods, a CLOSED lot has rods in the train, and every live rod's lot is in the table. -/
def Obligations.StepKeepsTheLotLaw : Prop :=
  ∀ s t : State, ModeLaw s → CapacityLaw s → TrainLaw s → LotLaw s → step s = .next t → LotLaw t
end

