-- ==== Sys2Proof/Laws/State.lean ====
section
/-! SUPPORT. One lemma per field per update of State, each true by rfl, so that no later proof unfolds a record update. -/

namespace Sys2Proof.Machine

/-! ## setLine -/

@[simp] theorem State.setLine_clock (s : State) (v : Line) : (s.setLine v).clock = s.clock := rfl
@[simp] theorem State.setLine_line (s : State) (v : Line) : (s.setLine v).line = v := rfl
@[simp] theorem State.setLine_capture (s : State) (v : Line) : (s.setLine v).capture = s.capture := rfl
@[simp] theorem State.setLine_rods (s : State) (v : Line) : (s.setLine v).rods = s.rods := rfl
@[simp] theorem State.setLine_landing (s : State) (v : Line) : (s.setLine v).landing = s.landing := rfl
@[simp] theorem State.setLine_preChain (s : State) (v : Line) : (s.setLine v).preChain = s.preChain := rfl
@[simp] theorem State.setLine_buffer (s : State) (v : Line) : (s.setLine v).buffer = s.buffer := rfl
@[simp] theorem State.setLine_mainChain (s : State) (v : Line) : (s.setLine v).mainChain = s.mainChain := rfl
@[simp] theorem State.setLine_preSeq (s : State) (v : Line) : (s.setLine v).preSeq = s.preSeq := rfl
@[simp] theorem State.setLine_mainSeq (s : State) (v : Line) : (s.setLine v).mainSeq = s.mainSeq := rfl
@[simp] theorem State.setLine_zones (s : State) (v : Line) : (s.setLine v).zones = s.zones := rfl
@[simp] theorem State.setLine_arbiter (s : State) (v : Line) : (s.setLine v).arbiter = s.arbiter := rfl
@[simp] theorem State.setLine_table (s : State) (v : Line) : (s.setLine v).table = s.table := rfl
@[simp] theorem State.setLine_tableLoaded (s : State) (v : Line) : (s.setLine v).tableLoaded = s.tableLoaded := rfl
@[simp] theorem State.setLine_divert (s : State) (v : Line) : (s.setLine v).divert = s.divert := rfl
@[simp] theorem State.setLine_lots (s : State) (v : Line) : (s.setLine v).lots = s.lots := rfl
@[simp] theorem State.setLine_probeBus (s : State) (v : Line) : (s.setLine v).probeBus = s.probeBus := rfl
@[simp] theorem State.setLine_store (s : State) (v : Line) : (s.setLine v).store = s.store := rfl
@[simp] theorem State.setLine_notices (s : State) (v : Line) : (s.setLine v).notices = s.notices := rfl
@[simp] theorem State.setLine_reports (s : State) (v : Line) : (s.setLine v).reports = s.reports := rfl
@[simp] theorem State.setLine_link (s : State) (v : Line) : (s.setLine v).link = s.link := rfl
@[simp] theorem State.setLine_pins (s : State) (v : Line) : (s.setLine v).pins = s.pins := rfl
@[simp] theorem State.setLine_pending (s : State) (v : Line) : (s.setLine v).pending = s.pending := rfl
@[simp] theorem State.setLine_freeCount (s : State) (v : Line) : (s.setLine v).freeCount = s.freeCount := rfl
@[simp] theorem State.setLine_self (s : State) : s.setLine s.line = s := rfl
@[simp] theorem State.setLine_setLine (s : State) (v w : Line) : (s.setLine v).setLine w = s.setLine w := rfl

/-! ## setCapture -/

@[simp] theorem State.setCapture_clock (s : State) (v : Capture) : (s.setCapture v).clock = s.clock := rfl
@[simp] theorem State.setCapture_line (s : State) (v : Capture) : (s.setCapture v).line = s.line := rfl
@[simp] theorem State.setCapture_capture (s : State) (v : Capture) : (s.setCapture v).capture = v := rfl
@[simp] theorem State.setCapture_rods (s : State) (v : Capture) : (s.setCapture v).rods = s.rods := rfl
@[simp] theorem State.setCapture_landing (s : State) (v : Capture) : (s.setCapture v).landing = s.landing := rfl
@[simp] theorem State.setCapture_preChain (s : State) (v : Capture) : (s.setCapture v).preChain = s.preChain := rfl
@[simp] theorem State.setCapture_buffer (s : State) (v : Capture) : (s.setCapture v).buffer = s.buffer := rfl
@[simp] theorem State.setCapture_mainChain (s : State) (v : Capture) : (s.setCapture v).mainChain = s.mainChain := rfl
@[simp] theorem State.setCapture_preSeq (s : State) (v : Capture) : (s.setCapture v).preSeq = s.preSeq := rfl
@[simp] theorem State.setCapture_mainSeq (s : State) (v : Capture) : (s.setCapture v).mainSeq = s.mainSeq := rfl
@[simp] theorem State.setCapture_zones (s : State) (v : Capture) : (s.setCapture v).zones = s.zones := rfl
@[simp] theorem State.setCapture_arbiter (s : State) (v : Capture) : (s.setCapture v).arbiter = s.arbiter := rfl
@[simp] theorem State.setCapture_table (s : State) (v : Capture) : (s.setCapture v).table = s.table := rfl
@[simp] theorem State.setCapture_tableLoaded (s : State) (v : Capture) : (s.setCapture v).tableLoaded = s.tableLoaded := rfl
@[simp] theorem State.setCapture_divert (s : State) (v : Capture) : (s.setCapture v).divert = s.divert := rfl
@[simp] theorem State.setCapture_lots (s : State) (v : Capture) : (s.setCapture v).lots = s.lots := rfl
@[simp] theorem State.setCapture_probeBus (s : State) (v : Capture) : (s.setCapture v).probeBus = s.probeBus := rfl
@[simp] theorem State.setCapture_store (s : State) (v : Capture) : (s.setCapture v).store = s.store := rfl
@[simp] theorem State.setCapture_notices (s : State) (v : Capture) : (s.setCapture v).notices = s.notices := rfl
@[simp] theorem State.setCapture_reports (s : State) (v : Capture) : (s.setCapture v).reports = s.reports := rfl
@[simp] theorem State.setCapture_link (s : State) (v : Capture) : (s.setCapture v).link = s.link := rfl
@[simp] theorem State.setCapture_pins (s : State) (v : Capture) : (s.setCapture v).pins = s.pins := rfl
@[simp] theorem State.setCapture_pending (s : State) (v : Capture) : (s.setCapture v).pending = s.pending := rfl
@[simp] theorem State.setCapture_freeCount (s : State) (v : Capture) : (s.setCapture v).freeCount = s.freeCount := rfl
@[simp] theorem State.setCapture_self (s : State) : s.setCapture s.capture = s := rfl
@[simp] theorem State.setCapture_setCapture (s : State) (v w : Capture) : (s.setCapture v).setCapture w = s.setCapture w := rfl

/-! ## setRods -/

@[simp] theorem State.setRods_clock (s : State) (v : List Rod) : (s.setRods v).clock = s.clock := rfl
@[simp] theorem State.setRods_line (s : State) (v : List Rod) : (s.setRods v).line = s.line := rfl
@[simp] theorem State.setRods_capture (s : State) (v : List Rod) : (s.setRods v).capture = s.capture := rfl
@[simp] theorem State.setRods_rods (s : State) (v : List Rod) : (s.setRods v).rods = v := rfl
@[simp] theorem State.setRods_landing (s : State) (v : List Rod) : (s.setRods v).landing = s.landing := rfl
@[simp] theorem State.setRods_preChain (s : State) (v : List Rod) : (s.setRods v).preChain = s.preChain := rfl
@[simp] theorem State.setRods_buffer (s : State) (v : List Rod) : (s.setRods v).buffer = s.buffer := rfl
@[simp] theorem State.setRods_mainChain (s : State) (v : List Rod) : (s.setRods v).mainChain = s.mainChain := rfl
@[simp] theorem State.setRods_preSeq (s : State) (v : List Rod) : (s.setRods v).preSeq = s.preSeq := rfl
@[simp] theorem State.setRods_mainSeq (s : State) (v : List Rod) : (s.setRods v).mainSeq = s.mainSeq := rfl
@[simp] theorem State.setRods_zones (s : State) (v : List Rod) : (s.setRods v).zones = s.zones := rfl
@[simp] theorem State.setRods_arbiter (s : State) (v : List Rod) : (s.setRods v).arbiter = s.arbiter := rfl
@[simp] theorem State.setRods_table (s : State) (v : List Rod) : (s.setRods v).table = s.table := rfl
@[simp] theorem State.setRods_tableLoaded (s : State) (v : List Rod) : (s.setRods v).tableLoaded = s.tableLoaded := rfl
@[simp] theorem State.setRods_divert (s : State) (v : List Rod) : (s.setRods v).divert = s.divert := rfl
@[simp] theorem State.setRods_lots (s : State) (v : List Rod) : (s.setRods v).lots = s.lots := rfl
@[simp] theorem State.setRods_probeBus (s : State) (v : List Rod) : (s.setRods v).probeBus = s.probeBus := rfl
@[simp] theorem State.setRods_store (s : State) (v : List Rod) : (s.setRods v).store = s.store := rfl
@[simp] theorem State.setRods_notices (s : State) (v : List Rod) : (s.setRods v).notices = s.notices := rfl
@[simp] theorem State.setRods_reports (s : State) (v : List Rod) : (s.setRods v).reports = s.reports := rfl
@[simp] theorem State.setRods_link (s : State) (v : List Rod) : (s.setRods v).link = s.link := rfl
@[simp] theorem State.setRods_pins (s : State) (v : List Rod) : (s.setRods v).pins = s.pins := rfl
@[simp] theorem State.setRods_pending (s : State) (v : List Rod) : (s.setRods v).pending = s.pending := rfl
@[simp] theorem State.setRods_freeCount (s : State) (v : List Rod) : (s.setRods v).freeCount = s.freeCount := rfl
@[simp] theorem State.setRods_self (s : State) : s.setRods s.rods = s := rfl
@[simp] theorem State.setRods_setRods (s : State) (v w : List Rod) : (s.setRods v).setRods w = s.setRods w := rfl

/-! ## setZones -/

@[simp] theorem State.setZones_clock (s : State) (v : List Zone) : (s.setZones v).clock = s.clock := rfl
@[simp] theorem State.setZones_line (s : State) (v : List Zone) : (s.setZones v).line = s.line := rfl
@[simp] theorem State.setZones_capture (s : State) (v : List Zone) : (s.setZones v).capture = s.capture := rfl
@[simp] theorem State.setZones_rods (s : State) (v : List Zone) : (s.setZones v).rods = s.rods := rfl
@[simp] theorem State.setZones_landing (s : State) (v : List Zone) : (s.setZones v).landing = s.landing := rfl
@[simp] theorem State.setZones_preChain (s : State) (v : List Zone) : (s.setZones v).preChain = s.preChain := rfl
@[simp] theorem State.setZones_buffer (s : State) (v : List Zone) : (s.setZones v).buffer = s.buffer := rfl
@[simp] theorem State.setZones_mainChain (s : State) (v : List Zone) : (s.setZones v).mainChain = s.mainChain := rfl
@[simp] theorem State.setZones_preSeq (s : State) (v : List Zone) : (s.setZones v).preSeq = s.preSeq := rfl
@[simp] theorem State.setZones_mainSeq (s : State) (v : List Zone) : (s.setZones v).mainSeq = s.mainSeq := rfl
@[simp] theorem State.setZones_zones (s : State) (v : List Zone) : (s.setZones v).zones = v := rfl
@[simp] theorem State.setZones_arbiter (s : State) (v : List Zone) : (s.setZones v).arbiter = s.arbiter := rfl
@[simp] theorem State.setZones_table (s : State) (v : List Zone) : (s.setZones v).table = s.table := rfl
@[simp] theorem State.setZones_tableLoaded (s : State) (v : List Zone) : (s.setZones v).tableLoaded = s.tableLoaded := rfl
@[simp] theorem State.setZones_divert (s : State) (v : List Zone) : (s.setZones v).divert = s.divert := rfl
@[simp] theorem State.setZones_lots (s : State) (v : List Zone) : (s.setZones v).lots = s.lots := rfl
@[simp] theorem State.setZones_probeBus (s : State) (v : List Zone) : (s.setZones v).probeBus = s.probeBus := rfl
@[simp] theorem State.setZones_store (s : State) (v : List Zone) : (s.setZones v).store = s.store := rfl
@[simp] theorem State.setZones_notices (s : State) (v : List Zone) : (s.setZones v).notices = s.notices := rfl
@[simp] theorem State.setZones_reports (s : State) (v : List Zone) : (s.setZones v).reports = s.reports := rfl
@[simp] theorem State.setZones_link (s : State) (v : List Zone) : (s.setZones v).link = s.link := rfl
@[simp] theorem State.setZones_pins (s : State) (v : List Zone) : (s.setZones v).pins = s.pins := rfl
@[simp] theorem State.setZones_pending (s : State) (v : List Zone) : (s.setZones v).pending = s.pending := rfl
@[simp] theorem State.setZones_freeCount (s : State) (v : List Zone) : (s.setZones v).freeCount = s.freeCount := rfl
@[simp] theorem State.setZones_self (s : State) : s.setZones s.zones = s := rfl
@[simp] theorem State.setZones_setZones (s : State) (v w : List Zone) : (s.setZones v).setZones w = s.setZones w := rfl

/-! ## setArbiter -/

@[simp] theorem State.setArbiter_clock (s : State) (v : Arbiter) : (s.setArbiter v).clock = s.clock := rfl
@[simp] theorem State.setArbiter_line (s : State) (v : Arbiter) : (s.setArbiter v).line = s.line := rfl
@[simp] theorem State.setArbiter_capture (s : State) (v : Arbiter) : (s.setArbiter v).capture = s.capture := rfl
@[simp] theorem State.setArbiter_rods (s : State) (v : Arbiter) : (s.setArbiter v).rods = s.rods := rfl
@[simp] theorem State.setArbiter_landing (s : State) (v : Arbiter) : (s.setArbiter v).landing = s.landing := rfl
@[simp] theorem State.setArbiter_preChain (s : State) (v : Arbiter) : (s.setArbiter v).preChain = s.preChain := rfl
@[simp] theorem State.setArbiter_buffer (s : State) (v : Arbiter) : (s.setArbiter v).buffer = s.buffer := rfl
@[simp] theorem State.setArbiter_mainChain (s : State) (v : Arbiter) : (s.setArbiter v).mainChain = s.mainChain := rfl
@[simp] theorem State.setArbiter_preSeq (s : State) (v : Arbiter) : (s.setArbiter v).preSeq = s.preSeq := rfl
@[simp] theorem State.setArbiter_mainSeq (s : State) (v : Arbiter) : (s.setArbiter v).mainSeq = s.mainSeq := rfl
@[simp] theorem State.setArbiter_zones (s : State) (v : Arbiter) : (s.setArbiter v).zones = s.zones := rfl
@[simp] theorem State.setArbiter_arbiter (s : State) (v : Arbiter) : (s.setArbiter v).arbiter = v := rfl
@[simp] theorem State.setArbiter_table (s : State) (v : Arbiter) : (s.setArbiter v).table = s.table := rfl
@[simp] theorem State.setArbiter_tableLoaded (s : State) (v : Arbiter) : (s.setArbiter v).tableLoaded = s.tableLoaded := rfl
@[simp] theorem State.setArbiter_divert (s : State) (v : Arbiter) : (s.setArbiter v).divert = s.divert := rfl
@[simp] theorem State.setArbiter_lots (s : State) (v : Arbiter) : (s.setArbiter v).lots = s.lots := rfl
@[simp] theorem State.setArbiter_probeBus (s : State) (v : Arbiter) : (s.setArbiter v).probeBus = s.probeBus := rfl
@[simp] theorem State.setArbiter_store (s : State) (v : Arbiter) : (s.setArbiter v).store = s.store := rfl
@[simp] theorem State.setArbiter_notices (s : State) (v : Arbiter) : (s.setArbiter v).notices = s.notices := rfl
@[simp] theorem State.setArbiter_reports (s : State) (v : Arbiter) : (s.setArbiter v).reports = s.reports := rfl
@[simp] theorem State.setArbiter_link (s : State) (v : Arbiter) : (s.setArbiter v).link = s.link := rfl
@[simp] theorem State.setArbiter_pins (s : State) (v : Arbiter) : (s.setArbiter v).pins = s.pins := rfl
@[simp] theorem State.setArbiter_pending (s : State) (v : Arbiter) : (s.setArbiter v).pending = s.pending := rfl
@[simp] theorem State.setArbiter_freeCount (s : State) (v : Arbiter) : (s.setArbiter v).freeCount = s.freeCount := rfl
@[simp] theorem State.setArbiter_self (s : State) : s.setArbiter s.arbiter = s := rfl
@[simp] theorem State.setArbiter_setArbiter (s : State) (v w : Arbiter) : (s.setArbiter v).setArbiter w = s.setArbiter w := rfl

/-! ## setLots -/

@[simp] theorem State.setLots_clock (s : State) (v : List (Option Lot)) : (s.setLots v).clock = s.clock := rfl
@[simp] theorem State.setLots_line (s : State) (v : List (Option Lot)) : (s.setLots v).line = s.line := rfl
@[simp] theorem State.setLots_capture (s : State) (v : List (Option Lot)) : (s.setLots v).capture = s.capture := rfl
@[simp] theorem State.setLots_rods (s : State) (v : List (Option Lot)) : (s.setLots v).rods = s.rods := rfl
@[simp] theorem State.setLots_landing (s : State) (v : List (Option Lot)) : (s.setLots v).landing = s.landing := rfl
@[simp] theorem State.setLots_preChain (s : State) (v : List (Option Lot)) : (s.setLots v).preChain = s.preChain := rfl
@[simp] theorem State.setLots_buffer (s : State) (v : List (Option Lot)) : (s.setLots v).buffer = s.buffer := rfl
@[simp] theorem State.setLots_mainChain (s : State) (v : List (Option Lot)) : (s.setLots v).mainChain = s.mainChain := rfl
@[simp] theorem State.setLots_preSeq (s : State) (v : List (Option Lot)) : (s.setLots v).preSeq = s.preSeq := rfl
@[simp] theorem State.setLots_mainSeq (s : State) (v : List (Option Lot)) : (s.setLots v).mainSeq = s.mainSeq := rfl
@[simp] theorem State.setLots_zones (s : State) (v : List (Option Lot)) : (s.setLots v).zones = s.zones := rfl
@[simp] theorem State.setLots_arbiter (s : State) (v : List (Option Lot)) : (s.setLots v).arbiter = s.arbiter := rfl
@[simp] theorem State.setLots_table (s : State) (v : List (Option Lot)) : (s.setLots v).table = s.table := rfl
@[simp] theorem State.setLots_tableLoaded (s : State) (v : List (Option Lot)) : (s.setLots v).tableLoaded = s.tableLoaded := rfl
@[simp] theorem State.setLots_divert (s : State) (v : List (Option Lot)) : (s.setLots v).divert = s.divert := rfl
@[simp] theorem State.setLots_lots (s : State) (v : List (Option Lot)) : (s.setLots v).lots = v := rfl
@[simp] theorem State.setLots_probeBus (s : State) (v : List (Option Lot)) : (s.setLots v).probeBus = s.probeBus := rfl
@[simp] theorem State.setLots_store (s : State) (v : List (Option Lot)) : (s.setLots v).store = s.store := rfl
@[simp] theorem State.setLots_notices (s : State) (v : List (Option Lot)) : (s.setLots v).notices = s.notices := rfl
@[simp] theorem State.setLots_reports (s : State) (v : List (Option Lot)) : (s.setLots v).reports = s.reports := rfl
@[simp] theorem State.setLots_link (s : State) (v : List (Option Lot)) : (s.setLots v).link = s.link := rfl
@[simp] theorem State.setLots_pins (s : State) (v : List (Option Lot)) : (s.setLots v).pins = s.pins := rfl
@[simp] theorem State.setLots_pending (s : State) (v : List (Option Lot)) : (s.setLots v).pending = s.pending := rfl
@[simp] theorem State.setLots_freeCount (s : State) (v : List (Option Lot)) : (s.setLots v).freeCount = s.freeCount := rfl
@[simp] theorem State.setLots_self (s : State) : s.setLots s.lots = s := rfl
@[simp] theorem State.setLots_setLots (s : State) (v w : List (Option Lot)) : (s.setLots v).setLots w = s.setLots w := rfl

/-! ## setProbeBus -/

@[simp] theorem State.setProbeBus_clock (s : State) (v : ProbeBus) : (s.setProbeBus v).clock = s.clock := rfl
@[simp] theorem State.setProbeBus_line (s : State) (v : ProbeBus) : (s.setProbeBus v).line = s.line := rfl
@[simp] theorem State.setProbeBus_capture (s : State) (v : ProbeBus) : (s.setProbeBus v).capture = s.capture := rfl
@[simp] theorem State.setProbeBus_rods (s : State) (v : ProbeBus) : (s.setProbeBus v).rods = s.rods := rfl
@[simp] theorem State.setProbeBus_landing (s : State) (v : ProbeBus) : (s.setProbeBus v).landing = s.landing := rfl
@[simp] theorem State.setProbeBus_preChain (s : State) (v : ProbeBus) : (s.setProbeBus v).preChain = s.preChain := rfl
@[simp] theorem State.setProbeBus_buffer (s : State) (v : ProbeBus) : (s.setProbeBus v).buffer = s.buffer := rfl
@[simp] theorem State.setProbeBus_mainChain (s : State) (v : ProbeBus) : (s.setProbeBus v).mainChain = s.mainChain := rfl
@[simp] theorem State.setProbeBus_preSeq (s : State) (v : ProbeBus) : (s.setProbeBus v).preSeq = s.preSeq := rfl
@[simp] theorem State.setProbeBus_mainSeq (s : State) (v : ProbeBus) : (s.setProbeBus v).mainSeq = s.mainSeq := rfl
@[simp] theorem State.setProbeBus_zones (s : State) (v : ProbeBus) : (s.setProbeBus v).zones = s.zones := rfl
@[simp] theorem State.setProbeBus_arbiter (s : State) (v : ProbeBus) : (s.setProbeBus v).arbiter = s.arbiter := rfl
@[simp] theorem State.setProbeBus_table (s : State) (v : ProbeBus) : (s.setProbeBus v).table = s.table := rfl
@[simp] theorem State.setProbeBus_tableLoaded (s : State) (v : ProbeBus) : (s.setProbeBus v).tableLoaded = s.tableLoaded := rfl
@[simp] theorem State.setProbeBus_divert (s : State) (v : ProbeBus) : (s.setProbeBus v).divert = s.divert := rfl
@[simp] theorem State.setProbeBus_lots (s : State) (v : ProbeBus) : (s.setProbeBus v).lots = s.lots := rfl
@[simp] theorem State.setProbeBus_probeBus (s : State) (v : ProbeBus) : (s.setProbeBus v).probeBus = v := rfl
@[simp] theorem State.setProbeBus_store (s : State) (v : ProbeBus) : (s.setProbeBus v).store = s.store := rfl
@[simp] theorem State.setProbeBus_notices (s : State) (v : ProbeBus) : (s.setProbeBus v).notices = s.notices := rfl
@[simp] theorem State.setProbeBus_reports (s : State) (v : ProbeBus) : (s.setProbeBus v).reports = s.reports := rfl
@[simp] theorem State.setProbeBus_link (s : State) (v : ProbeBus) : (s.setProbeBus v).link = s.link := rfl
@[simp] theorem State.setProbeBus_pins (s : State) (v : ProbeBus) : (s.setProbeBus v).pins = s.pins := rfl
@[simp] theorem State.setProbeBus_pending (s : State) (v : ProbeBus) : (s.setProbeBus v).pending = s.pending := rfl
@[simp] theorem State.setProbeBus_freeCount (s : State) (v : ProbeBus) : (s.setProbeBus v).freeCount = s.freeCount := rfl
@[simp] theorem State.setProbeBus_self (s : State) : s.setProbeBus s.probeBus = s := rfl
@[simp] theorem State.setProbeBus_setProbeBus (s : State) (v w : ProbeBus) : (s.setProbeBus v).setProbeBus w = s.setProbeBus w := rfl

/-! ## setStore -/

@[simp] theorem State.setStore_clock (s : State) (v : Store) : (s.setStore v).clock = s.clock := rfl
@[simp] theorem State.setStore_line (s : State) (v : Store) : (s.setStore v).line = s.line := rfl
@[simp] theorem State.setStore_capture (s : State) (v : Store) : (s.setStore v).capture = s.capture := rfl
@[simp] theorem State.setStore_rods (s : State) (v : Store) : (s.setStore v).rods = s.rods := rfl
@[simp] theorem State.setStore_landing (s : State) (v : Store) : (s.setStore v).landing = s.landing := rfl
@[simp] theorem State.setStore_preChain (s : State) (v : Store) : (s.setStore v).preChain = s.preChain := rfl
@[simp] theorem State.setStore_buffer (s : State) (v : Store) : (s.setStore v).buffer = s.buffer := rfl
@[simp] theorem State.setStore_mainChain (s : State) (v : Store) : (s.setStore v).mainChain = s.mainChain := rfl
@[simp] theorem State.setStore_preSeq (s : State) (v : Store) : (s.setStore v).preSeq = s.preSeq := rfl
@[simp] theorem State.setStore_mainSeq (s : State) (v : Store) : (s.setStore v).mainSeq = s.mainSeq := rfl
@[simp] theorem State.setStore_zones (s : State) (v : Store) : (s.setStore v).zones = s.zones := rfl
@[simp] theorem State.setStore_arbiter (s : State) (v : Store) : (s.setStore v).arbiter = s.arbiter := rfl
@[simp] theorem State.setStore_table (s : State) (v : Store) : (s.setStore v).table = s.table := rfl
@[simp] theorem State.setStore_tableLoaded (s : State) (v : Store) : (s.setStore v).tableLoaded = s.tableLoaded := rfl
@[simp] theorem State.setStore_divert (s : State) (v : Store) : (s.setStore v).divert = s.divert := rfl
@[simp] theorem State.setStore_lots (s : State) (v : Store) : (s.setStore v).lots = s.lots := rfl
@[simp] theorem State.setStore_probeBus (s : State) (v : Store) : (s.setStore v).probeBus = s.probeBus := rfl
@[simp] theorem State.setStore_store (s : State) (v : Store) : (s.setStore v).store = v := rfl
@[simp] theorem State.setStore_notices (s : State) (v : Store) : (s.setStore v).notices = s.notices := rfl
@[simp] theorem State.setStore_reports (s : State) (v : Store) : (s.setStore v).reports = s.reports := rfl
@[simp] theorem State.setStore_link (s : State) (v : Store) : (s.setStore v).link = s.link := rfl
@[simp] theorem State.setStore_pins (s : State) (v : Store) : (s.setStore v).pins = s.pins := rfl
@[simp] theorem State.setStore_pending (s : State) (v : Store) : (s.setStore v).pending = s.pending := rfl
@[simp] theorem State.setStore_freeCount (s : State) (v : Store) : (s.setStore v).freeCount = s.freeCount := rfl
@[simp] theorem State.setStore_self (s : State) : s.setStore s.store = s := rfl
@[simp] theorem State.setStore_setStore (s : State) (v w : Store) : (s.setStore v).setStore w = s.setStore w := rfl

/-! ## setNotices -/

@[simp] theorem State.setNotices_clock (s : State) (v : NoticeUnit) : (s.setNotices v).clock = s.clock := rfl
@[simp] theorem State.setNotices_line (s : State) (v : NoticeUnit) : (s.setNotices v).line = s.line := rfl
@[simp] theorem State.setNotices_capture (s : State) (v : NoticeUnit) : (s.setNotices v).capture = s.capture := rfl
@[simp] theorem State.setNotices_rods (s : State) (v : NoticeUnit) : (s.setNotices v).rods = s.rods := rfl
@[simp] theorem State.setNotices_landing (s : State) (v : NoticeUnit) : (s.setNotices v).landing = s.landing := rfl
@[simp] theorem State.setNotices_preChain (s : State) (v : NoticeUnit) : (s.setNotices v).preChain = s.preChain := rfl
@[simp] theorem State.setNotices_buffer (s : State) (v : NoticeUnit) : (s.setNotices v).buffer = s.buffer := rfl
@[simp] theorem State.setNotices_mainChain (s : State) (v : NoticeUnit) : (s.setNotices v).mainChain = s.mainChain := rfl
@[simp] theorem State.setNotices_preSeq (s : State) (v : NoticeUnit) : (s.setNotices v).preSeq = s.preSeq := rfl
@[simp] theorem State.setNotices_mainSeq (s : State) (v : NoticeUnit) : (s.setNotices v).mainSeq = s.mainSeq := rfl
@[simp] theorem State.setNotices_zones (s : State) (v : NoticeUnit) : (s.setNotices v).zones = s.zones := rfl
@[simp] theorem State.setNotices_arbiter (s : State) (v : NoticeUnit) : (s.setNotices v).arbiter = s.arbiter := rfl
@[simp] theorem State.setNotices_table (s : State) (v : NoticeUnit) : (s.setNotices v).table = s.table := rfl
@[simp] theorem State.setNotices_tableLoaded (s : State) (v : NoticeUnit) : (s.setNotices v).tableLoaded = s.tableLoaded := rfl
@[simp] theorem State.setNotices_divert (s : State) (v : NoticeUnit) : (s.setNotices v).divert = s.divert := rfl
@[simp] theorem State.setNotices_lots (s : State) (v : NoticeUnit) : (s.setNotices v).lots = s.lots := rfl
@[simp] theorem State.setNotices_probeBus (s : State) (v : NoticeUnit) : (s.setNotices v).probeBus = s.probeBus := rfl
@[simp] theorem State.setNotices_store (s : State) (v : NoticeUnit) : (s.setNotices v).store = s.store := rfl
@[simp] theorem State.setNotices_notices (s : State) (v : NoticeUnit) : (s.setNotices v).notices = v := rfl
@[simp] theorem State.setNotices_reports (s : State) (v : NoticeUnit) : (s.setNotices v).reports = s.reports := rfl
@[simp] theorem State.setNotices_link (s : State) (v : NoticeUnit) : (s.setNotices v).link = s.link := rfl
@[simp] theorem State.setNotices_pins (s : State) (v : NoticeUnit) : (s.setNotices v).pins = s.pins := rfl
@[simp] theorem State.setNotices_pending (s : State) (v : NoticeUnit) : (s.setNotices v).pending = s.pending := rfl
@[simp] theorem State.setNotices_freeCount (s : State) (v : NoticeUnit) : (s.setNotices v).freeCount = s.freeCount := rfl
@[simp] theorem State.setNotices_self (s : State) : s.setNotices s.notices = s := rfl
@[simp] theorem State.setNotices_setNotices (s : State) (v w : NoticeUnit) : (s.setNotices v).setNotices w = s.setNotices w := rfl

/-! ## setReports -/

@[simp] theorem State.setReports_clock (s : State) (v : ReportQueue) : (s.setReports v).clock = s.clock := rfl
@[simp] theorem State.setReports_line (s : State) (v : ReportQueue) : (s.setReports v).line = s.line := rfl
@[simp] theorem State.setReports_capture (s : State) (v : ReportQueue) : (s.setReports v).capture = s.capture := rfl
@[simp] theorem State.setReports_rods (s : State) (v : ReportQueue) : (s.setReports v).rods = s.rods := rfl
@[simp] theorem State.setReports_landing (s : State) (v : ReportQueue) : (s.setReports v).landing = s.landing := rfl
@[simp] theorem State.setReports_preChain (s : State) (v : ReportQueue) : (s.setReports v).preChain = s.preChain := rfl
@[simp] theorem State.setReports_buffer (s : State) (v : ReportQueue) : (s.setReports v).buffer = s.buffer := rfl
@[simp] theorem State.setReports_mainChain (s : State) (v : ReportQueue) : (s.setReports v).mainChain = s.mainChain := rfl
@[simp] theorem State.setReports_preSeq (s : State) (v : ReportQueue) : (s.setReports v).preSeq = s.preSeq := rfl
@[simp] theorem State.setReports_mainSeq (s : State) (v : ReportQueue) : (s.setReports v).mainSeq = s.mainSeq := rfl
@[simp] theorem State.setReports_zones (s : State) (v : ReportQueue) : (s.setReports v).zones = s.zones := rfl
@[simp] theorem State.setReports_arbiter (s : State) (v : ReportQueue) : (s.setReports v).arbiter = s.arbiter := rfl
@[simp] theorem State.setReports_table (s : State) (v : ReportQueue) : (s.setReports v).table = s.table := rfl
@[simp] theorem State.setReports_tableLoaded (s : State) (v : ReportQueue) : (s.setReports v).tableLoaded = s.tableLoaded := rfl
@[simp] theorem State.setReports_divert (s : State) (v : ReportQueue) : (s.setReports v).divert = s.divert := rfl
@[simp] theorem State.setReports_lots (s : State) (v : ReportQueue) : (s.setReports v).lots = s.lots := rfl
@[simp] theorem State.setReports_probeBus (s : State) (v : ReportQueue) : (s.setReports v).probeBus = s.probeBus := rfl
@[simp] theorem State.setReports_store (s : State) (v : ReportQueue) : (s.setReports v).store = s.store := rfl
@[simp] theorem State.setReports_notices (s : State) (v : ReportQueue) : (s.setReports v).notices = s.notices := rfl
@[simp] theorem State.setReports_reports (s : State) (v : ReportQueue) : (s.setReports v).reports = v := rfl
@[simp] theorem State.setReports_link (s : State) (v : ReportQueue) : (s.setReports v).link = s.link := rfl
@[simp] theorem State.setReports_pins (s : State) (v : ReportQueue) : (s.setReports v).pins = s.pins := rfl
@[simp] theorem State.setReports_pending (s : State) (v : ReportQueue) : (s.setReports v).pending = s.pending := rfl
@[simp] theorem State.setReports_freeCount (s : State) (v : ReportQueue) : (s.setReports v).freeCount = s.freeCount := rfl
@[simp] theorem State.setReports_self (s : State) : s.setReports s.reports = s := rfl
@[simp] theorem State.setReports_setReports (s : State) (v w : ReportQueue) : (s.setReports v).setReports w = s.setReports w := rfl

/-! ## setLink -/

@[simp] theorem State.setLink_clock (s : State) (v : Link) : (s.setLink v).clock = s.clock := rfl
@[simp] theorem State.setLink_line (s : State) (v : Link) : (s.setLink v).line = s.line := rfl
@[simp] theorem State.setLink_capture (s : State) (v : Link) : (s.setLink v).capture = s.capture := rfl
@[simp] theorem State.setLink_rods (s : State) (v : Link) : (s.setLink v).rods = s.rods := rfl
@[simp] theorem State.setLink_landing (s : State) (v : Link) : (s.setLink v).landing = s.landing := rfl
@[simp] theorem State.setLink_preChain (s : State) (v : Link) : (s.setLink v).preChain = s.preChain := rfl
@[simp] theorem State.setLink_buffer (s : State) (v : Link) : (s.setLink v).buffer = s.buffer := rfl
@[simp] theorem State.setLink_mainChain (s : State) (v : Link) : (s.setLink v).mainChain = s.mainChain := rfl
@[simp] theorem State.setLink_preSeq (s : State) (v : Link) : (s.setLink v).preSeq = s.preSeq := rfl
@[simp] theorem State.setLink_mainSeq (s : State) (v : Link) : (s.setLink v).mainSeq = s.mainSeq := rfl
@[simp] theorem State.setLink_zones (s : State) (v : Link) : (s.setLink v).zones = s.zones := rfl
@[simp] theorem State.setLink_arbiter (s : State) (v : Link) : (s.setLink v).arbiter = s.arbiter := rfl
@[simp] theorem State.setLink_table (s : State) (v : Link) : (s.setLink v).table = s.table := rfl
@[simp] theorem State.setLink_tableLoaded (s : State) (v : Link) : (s.setLink v).tableLoaded = s.tableLoaded := rfl
@[simp] theorem State.setLink_divert (s : State) (v : Link) : (s.setLink v).divert = s.divert := rfl
@[simp] theorem State.setLink_lots (s : State) (v : Link) : (s.setLink v).lots = s.lots := rfl
@[simp] theorem State.setLink_probeBus (s : State) (v : Link) : (s.setLink v).probeBus = s.probeBus := rfl
@[simp] theorem State.setLink_store (s : State) (v : Link) : (s.setLink v).store = s.store := rfl
@[simp] theorem State.setLink_notices (s : State) (v : Link) : (s.setLink v).notices = s.notices := rfl
@[simp] theorem State.setLink_reports (s : State) (v : Link) : (s.setLink v).reports = s.reports := rfl
@[simp] theorem State.setLink_link (s : State) (v : Link) : (s.setLink v).link = v := rfl
@[simp] theorem State.setLink_pins (s : State) (v : Link) : (s.setLink v).pins = s.pins := rfl
@[simp] theorem State.setLink_pending (s : State) (v : Link) : (s.setLink v).pending = s.pending := rfl
@[simp] theorem State.setLink_freeCount (s : State) (v : Link) : (s.setLink v).freeCount = s.freeCount := rfl
@[simp] theorem State.setLink_self (s : State) : s.setLink s.link = s := rfl
@[simp] theorem State.setLink_setLink (s : State) (v w : Link) : (s.setLink v).setLink w = s.setLink w := rfl

/-! ## setPins -/

@[simp] theorem State.setPins_clock (s : State) (v : Pins) : (s.setPins v).clock = s.clock := rfl
@[simp] theorem State.setPins_line (s : State) (v : Pins) : (s.setPins v).line = s.line := rfl
@[simp] theorem State.setPins_capture (s : State) (v : Pins) : (s.setPins v).capture = s.capture := rfl
@[simp] theorem State.setPins_rods (s : State) (v : Pins) : (s.setPins v).rods = s.rods := rfl
@[simp] theorem State.setPins_landing (s : State) (v : Pins) : (s.setPins v).landing = s.landing := rfl
@[simp] theorem State.setPins_preChain (s : State) (v : Pins) : (s.setPins v).preChain = s.preChain := rfl
@[simp] theorem State.setPins_buffer (s : State) (v : Pins) : (s.setPins v).buffer = s.buffer := rfl
@[simp] theorem State.setPins_mainChain (s : State) (v : Pins) : (s.setPins v).mainChain = s.mainChain := rfl
@[simp] theorem State.setPins_preSeq (s : State) (v : Pins) : (s.setPins v).preSeq = s.preSeq := rfl
@[simp] theorem State.setPins_mainSeq (s : State) (v : Pins) : (s.setPins v).mainSeq = s.mainSeq := rfl
@[simp] theorem State.setPins_zones (s : State) (v : Pins) : (s.setPins v).zones = s.zones := rfl
@[simp] theorem State.setPins_arbiter (s : State) (v : Pins) : (s.setPins v).arbiter = s.arbiter := rfl
@[simp] theorem State.setPins_table (s : State) (v : Pins) : (s.setPins v).table = s.table := rfl
@[simp] theorem State.setPins_tableLoaded (s : State) (v : Pins) : (s.setPins v).tableLoaded = s.tableLoaded := rfl
@[simp] theorem State.setPins_divert (s : State) (v : Pins) : (s.setPins v).divert = s.divert := rfl
@[simp] theorem State.setPins_lots (s : State) (v : Pins) : (s.setPins v).lots = s.lots := rfl
@[simp] theorem State.setPins_probeBus (s : State) (v : Pins) : (s.setPins v).probeBus = s.probeBus := rfl
@[simp] theorem State.setPins_store (s : State) (v : Pins) : (s.setPins v).store = s.store := rfl
@[simp] theorem State.setPins_notices (s : State) (v : Pins) : (s.setPins v).notices = s.notices := rfl
@[simp] theorem State.setPins_reports (s : State) (v : Pins) : (s.setPins v).reports = s.reports := rfl
@[simp] theorem State.setPins_link (s : State) (v : Pins) : (s.setPins v).link = s.link := rfl
@[simp] theorem State.setPins_pins (s : State) (v : Pins) : (s.setPins v).pins = v := rfl
@[simp] theorem State.setPins_pending (s : State) (v : Pins) : (s.setPins v).pending = s.pending := rfl
@[simp] theorem State.setPins_freeCount (s : State) (v : Pins) : (s.setPins v).freeCount = s.freeCount := rfl
@[simp] theorem State.setPins_self (s : State) : s.setPins s.pins = s := rfl
@[simp] theorem State.setPins_setPins (s : State) (v w : Pins) : (s.setPins v).setPins w = s.setPins w := rfl

/-! ## setClock -/

@[simp] theorem State.setClock_clock (s : State) (v : Word32) : (s.setClock v).clock = v := rfl
@[simp] theorem State.setClock_line (s : State) (v : Word32) : (s.setClock v).line = s.line := rfl
@[simp] theorem State.setClock_capture (s : State) (v : Word32) : (s.setClock v).capture = s.capture := rfl
@[simp] theorem State.setClock_rods (s : State) (v : Word32) : (s.setClock v).rods = s.rods := rfl
@[simp] theorem State.setClock_landing (s : State) (v : Word32) : (s.setClock v).landing = s.landing := rfl
@[simp] theorem State.setClock_preChain (s : State) (v : Word32) : (s.setClock v).preChain = s.preChain := rfl
@[simp] theorem State.setClock_buffer (s : State) (v : Word32) : (s.setClock v).buffer = s.buffer := rfl
@[simp] theorem State.setClock_mainChain (s : State) (v : Word32) : (s.setClock v).mainChain = s.mainChain := rfl
@[simp] theorem State.setClock_preSeq (s : State) (v : Word32) : (s.setClock v).preSeq = s.preSeq := rfl
@[simp] theorem State.setClock_mainSeq (s : State) (v : Word32) : (s.setClock v).mainSeq = s.mainSeq := rfl
@[simp] theorem State.setClock_zones (s : State) (v : Word32) : (s.setClock v).zones = s.zones := rfl
@[simp] theorem State.setClock_arbiter (s : State) (v : Word32) : (s.setClock v).arbiter = s.arbiter := rfl
@[simp] theorem State.setClock_table (s : State) (v : Word32) : (s.setClock v).table = s.table := rfl
@[simp] theorem State.setClock_tableLoaded (s : State) (v : Word32) : (s.setClock v).tableLoaded = s.tableLoaded := rfl
@[simp] theorem State.setClock_divert (s : State) (v : Word32) : (s.setClock v).divert = s.divert := rfl
@[simp] theorem State.setClock_lots (s : State) (v : Word32) : (s.setClock v).lots = s.lots := rfl
@[simp] theorem State.setClock_probeBus (s : State) (v : Word32) : (s.setClock v).probeBus = s.probeBus := rfl
@[simp] theorem State.setClock_store (s : State) (v : Word32) : (s.setClock v).store = s.store := rfl
@[simp] theorem State.setClock_notices (s : State) (v : Word32) : (s.setClock v).notices = s.notices := rfl
@[simp] theorem State.setClock_reports (s : State) (v : Word32) : (s.setClock v).reports = s.reports := rfl
@[simp] theorem State.setClock_link (s : State) (v : Word32) : (s.setClock v).link = s.link := rfl
@[simp] theorem State.setClock_pins (s : State) (v : Word32) : (s.setClock v).pins = s.pins := rfl
@[simp] theorem State.setClock_pending (s : State) (v : Word32) : (s.setClock v).pending = s.pending := rfl
@[simp] theorem State.setClock_freeCount (s : State) (v : Word32) : (s.setClock v).freeCount = s.freeCount := rfl
@[simp] theorem State.setClock_self (s : State) : s.setClock s.clock = s := rfl
@[simp] theorem State.setClock_setClock (s : State) (v w : Word32) : (s.setClock v).setClock w = s.setClock w := rfl

/-! ## setSeq -/

@[simp] theorem State.setSeq_clock (s : State) (c : Chain) (q : Sequencer) : (s.setSeq c q).clock = s.clock := by cases c <;> rfl
@[simp] theorem State.setSeq_line (s : State) (c : Chain) (q : Sequencer) : (s.setSeq c q).line = s.line := by cases c <;> rfl
@[simp] theorem State.setSeq_capture (s : State) (c : Chain) (q : Sequencer) : (s.setSeq c q).capture = s.capture := by cases c <;> rfl
@[simp] theorem State.setSeq_rods (s : State) (c : Chain) (q : Sequencer) : (s.setSeq c q).rods = s.rods := by cases c <;> rfl
@[simp] theorem State.setSeq_landing (s : State) (c : Chain) (q : Sequencer) : (s.setSeq c q).landing = s.landing := by cases c <;> rfl
@[simp] theorem State.setSeq_preChain (s : State) (c : Chain) (q : Sequencer) : (s.setSeq c q).preChain = s.preChain := by cases c <;> rfl
@[simp] theorem State.setSeq_buffer (s : State) (c : Chain) (q : Sequencer) : (s.setSeq c q).buffer = s.buffer := by cases c <;> rfl
@[simp] theorem State.setSeq_mainChain (s : State) (c : Chain) (q : Sequencer) : (s.setSeq c q).mainChain = s.mainChain := by cases c <;> rfl
@[simp] theorem State.setSeq_zones (s : State) (c : Chain) (q : Sequencer) : (s.setSeq c q).zones = s.zones := by cases c <;> rfl
@[simp] theorem State.setSeq_arbiter (s : State) (c : Chain) (q : Sequencer) : (s.setSeq c q).arbiter = s.arbiter := by cases c <;> rfl
@[simp] theorem State.setSeq_table (s : State) (c : Chain) (q : Sequencer) : (s.setSeq c q).table = s.table := by cases c <;> rfl
@[simp] theorem State.setSeq_tableLoaded (s : State) (c : Chain) (q : Sequencer) : (s.setSeq c q).tableLoaded = s.tableLoaded := by cases c <;> rfl
@[simp] theorem State.setSeq_divert (s : State) (c : Chain) (q : Sequencer) : (s.setSeq c q).divert = s.divert := by cases c <;> rfl
@[simp] theorem State.setSeq_lots (s : State) (c : Chain) (q : Sequencer) : (s.setSeq c q).lots = s.lots := by cases c <;> rfl
@[simp] theorem State.setSeq_probeBus (s : State) (c : Chain) (q : Sequencer) : (s.setSeq c q).probeBus = s.probeBus := by cases c <;> rfl
@[simp] theorem State.setSeq_store (s : State) (c : Chain) (q : Sequencer) : (s.setSeq c q).store = s.store := by cases c <;> rfl
@[simp] theorem State.setSeq_notices (s : State) (c : Chain) (q : Sequencer) : (s.setSeq c q).notices = s.notices := by cases c <;> rfl
@[simp] theorem State.setSeq_reports (s : State) (c : Chain) (q : Sequencer) : (s.setSeq c q).reports = s.reports := by cases c <;> rfl
@[simp] theorem State.setSeq_link (s : State) (c : Chain) (q : Sequencer) : (s.setSeq c q).link = s.link := by cases c <;> rfl
@[simp] theorem State.setSeq_pins (s : State) (c : Chain) (q : Sequencer) : (s.setSeq c q).pins = s.pins := by cases c <;> rfl
@[simp] theorem State.setSeq_pending (s : State) (c : Chain) (q : Sequencer) : (s.setSeq c q).pending = s.pending := by cases c <;> rfl
@[simp] theorem State.setSeq_freeCount (s : State) (c : Chain) (q : Sequencer) : (s.setSeq c q).freeCount = s.freeCount := by cases c <;> rfl
@[simp] theorem State.setSeq_seq (s : State) (c : Chain) (q : Sequencer) : (s.setSeq c q).seq c = q := by cases c <;> rfl
@[simp] theorem State.setSeq_pre_main (s : State) (q : Sequencer) : (s.setSeq .pre q).mainSeq = s.mainSeq := rfl
@[simp] theorem State.setSeq_pre_pre (s : State) (q : Sequencer) : (s.setSeq .pre q).preSeq = q := rfl
@[simp] theorem State.setSeq_main_pre (s : State) (q : Sequencer) : (s.setSeq .main q).preSeq = s.preSeq := rfl
@[simp] theorem State.setSeq_main_main (s : State) (q : Sequencer) : (s.setSeq .main q).mainSeq = q := rfl
@[simp] theorem State.seq_pre (s : State) : s.seq .pre = s.preSeq := rfl
@[simp] theorem State.seq_main (s : State) : s.seq .main = s.mainSeq := rfl

end Sys2Proof.Machine
end

