-- ==== Sys2Proof/Laws/Ops.lean ====
section
/-! SUPPORT. Frames of the shared operations of Ops, Lots, Tracker, Grading and Zones: for each one, which fields of State it can
write; every other field is as before. The provers cite these instead of unfolding an operation. -/

namespace Sys2Proof.Machine

/-! ## Notices and reports -/

theorem State.raise_frame (s : State) (k : NoticeKind) (d : Word32) : ∃ n, s.raise k d = { s with notices := n } :=
  ⟨_, rfl⟩

theorem State.raiseNat_frame (s : State) (k : NoticeKind) (d : Nat) : ∃ n, s.raiseNat k d = { s with notices := n } :=
  ⟨_, rfl⟩

theorem State.modLot_frame (s : State) (i : Nat) (f : Lot → Lot) : ∃ l, s.modLot i f = { s with lots := l } := ⟨_, rfl⟩

theorem State.joinReport_frame (s : State) (b : ReportBody) :
    ∃ q n, s.joinReport b = { s with reports := q, notices := n } := by
  unfold State.joinReport
  dsimp only
  split
  · exact ⟨_, _, rfl⟩
  · exact ⟨_, s.notices, rfl⟩

theorem State.loseReport_frame (s : State) (i : Option Nat) (id : Word32) :
    ∃ l q n, s.loseReport i id = { s with lots := l, reports := q, notices := n } := by
  cases i with
  | none => exact ⟨s.lots, _, _, rfl⟩
  | some i => exact ⟨_, _, _, rfl⟩

theorem State.offerReport_frame (s : State) (b : ReportBody) (i : Option Nat) (id : Word32) :
    ∃ l q n, s.offerReport b i id = { s with lots := l, reports := q, notices := n } := by
  unfold State.offerReport
  split
  · obtain ⟨q, n, h⟩ := s.joinReport_frame b
    exact ⟨s.lots, q, n, h⟩
  · exact s.loseReport_frame i id

/-! ## Answers -/

theorem State.answer_link (s : State) (code : Byte) (a : Answer) :
    s.answer code a = { s with link := { s.link with
      port := .preparing { code := code, status := a.status, payload := a.payload } 0, receiver := .hunting } } := rfl

/-- What serving a request can do: in INIT the refusal NOT_READY, else the owning block's operation with its answer. -/
theorem State.serve_cases (s : State) (code : Byte) (op : State → State × Answer) :
    (s.line.state = .init ∧ s.serve code op = s.answer code (.refuse .notReady)) ∨
    (s.line.state ≠ .init ∧ s.serve code op = (op s).1.answer code (op s).2) := by
  unfold State.serve
  split
  · exact .inl ⟨‹_›, rfl⟩
  · exact .inr ⟨‹_›, rfl⟩

theorem State.serve_ready (s : State) (code : Byte) (op : State → State × Answer) (h : s.line.state ≠ .init) :
    s.serve code op = (op s).1.answer code (op s).2 := by simp [State.serve, h, State.serveAlways]

/-! ## Lots -/

theorem State.drainLot_frame (s : State) (i : Nat) (l : Lot) :
    ∃ ls q n, s.drainLot i l = { s with lots := ls, reports := q, notices := n } := by
  obtain ⟨ls, q, n, h⟩ := s.offerReport_frame (.lotSummary i l s.clock) (some i) l.id
  exact ⟨_, q, _, by simp only [State.drainLot, h]; rfl⟩

theorem State.drainCheck_frame (s : State) (i : Nat) :
    ∃ ls q n, s.drainCheck i = { s with lots := ls, reports := q, notices := n } := by
  unfold State.drainCheck
  split
  · split
    · exact s.drainLot_frame _ _
    · exact ⟨s.lots, s.reports, s.notices, rfl⟩
  · exact ⟨s.lots, s.reports, s.notices, rfl⟩

theorem State.closeOpenLot_frame (s : State) :
    ∃ ls q n, s.closeOpenLot = { s with lots := ls, reports := q, notices := n } := by
  unfold State.closeOpenLot
  split
  · exact ⟨s.lots, s.reports, s.notices, rfl⟩
  · rename_i i _
    obtain ⟨ls, q, n, h⟩ := (s.modLot i fun l => { l with state := .closed }).drainCheck_frame i
    exact ⟨ls, q, n, h⟩

theorem State.putLot_frame (s : State) (l : Lot) : ∃ ls, s.putLot l = { s with lots := ls } := by
  unfold State.putLot
  split
  · exact ⟨s.lots, rfl⟩
  · exact ⟨_, rfl⟩

/-! ## Grading -/

theorem State.gradeRod_frame (s : State) (r : Rod) (now : Word32) :
    ∃ d ls q n rs, s.gradeRod r now =
      { s with divert := d, lots := ls, reports := q, notices := n, rods := rs } := by
  obtain ⟨ls, q, n, h⟩ := State.offerReport_frame
    (({ s with divert := s.dispositionOf r } : State).modLot r.lotSlot fun l => l.countExit (s.dispositionOf r) r.charge)
    (exitReport (s.lotIdOf r.lotSlot) (s.dispositionOf r) now r) (some r.lotSlot) (s.lotIdOf r.lotSlot)
  simp only [State.gradeRod, h]
  obtain ⟨ls', q', n', h'⟩ := State.drainCheck_frame _ r.lotSlot
  rw [h']
  exact ⟨_, _, _, _, _, rfl⟩

theorem State.gradeExit_frame (s : State) (n now : Word32) :
    ∃ d ls q ns rs, s.gradeExit n now =
      { s with divert := d, lots := ls, reports := q, notices := ns, rods := rs } := by
  unfold State.gradeExit
  split
  · exact ⟨s.divert, s.lots, s.reports, s.notices, s.rods, rfl⟩
  · exact s.gradeRod_frame _ _

/-! ## Zones -/

theorem State.modZone_frame (s : State) (z : Nat) (f : Zone → Zone) : ∃ zs, s.modZone z f = { s with zones := zs } :=
  ⟨_, rfl⟩

theorem State.regulate_frame (s : State) (z : Nat) : ∃ zs, s.regulate z = { s with zones := zs } := by
  unfold State.regulate
  split
  · exact ⟨_, rfl⟩
  · exact ⟨s.zones, rfl⟩
  · exact ⟨s.zones, rfl⟩

theorem State.dropLatch_frame (s : State) (z : Nat) :
    ∃ zs n, s.dropLatch z = { s with zones := zs, notices := n } := by
  unfold State.dropLatch
  split
  · exact ⟨s.zones, s.notices, rfl⟩
  · split
    · exact ⟨_, _, rfl⟩
    · exact ⟨s.zones, s.notices, rfl⟩

theorem State.bandTest_frame (s : State) (z : Nat) (r : Reading) :
    ∃ zs n, s.bandTest z r = { s with zones := zs, notices := n } := by
  unfold State.bandTest
  split
  · exact ⟨s.zones, s.notices, rfl⟩
  · split
    · exact s.dropLatch_frame z
    · exact ⟨s.zones, s.notices, rfl⟩

theorem State.retest_frame (s : State) (z : Nat) :
    ∃ zs n, s.retest z = { s with zones := zs, notices := n } := by
  unfold State.retest
  split
  · exact s.bandTest_frame z _
  · exact ⟨s.zones, s.notices, rfl⟩
  · exact ⟨s.zones, s.notices, rfl⟩

theorem State.retarget_frame (s : State) (z : Nat) (g : Governing) :
    ∃ zs n, s.retarget z g = { s with zones := zs, notices := n } := by
  unfold State.retarget
  obtain ⟨zs, h⟩ := (s.modZone z fun zn => { zn with governing := some g }).regulate_frame z
  rw [h]
  obtain ⟨zs', n', h'⟩ := State.retest_frame _ z
  rw [h']
  exact ⟨zs', n', rfl⟩

theorem State.joinQueue_frame (s : State) (z : Nat) : ∃ a, s.joinQueue z = { s with arbiter := a } := ⟨_, rfl⟩

theorem State.leaveQueue_frame (s : State) (z : Nat) : ∃ a, s.leaveQueue z = { s with arbiter := a } := ⟨_, rfl⟩

theorem State.grant_frame (s : State) (l : Layout) (z : Nat) :
    ∃ zs a, s.grant l z = { s with zones := zs, arbiter := a } := by
  unfold State.grant
  obtain ⟨zs, h⟩ := State.regulate_frame _ z
  rw [h]
  exact ⟨zs, _, rfl⟩

theorem State.grantLoop_frame (fuel : Nat) (s : State) :
    ∃ zs a, State.grantLoop fuel s = { s with zones := zs, arbiter := a } := by
  induction fuel generalizing s with
  | zero => exact ⟨s.zones, s.arbiter, rfl⟩
  | succ fuel ih =>
    unfold State.grantLoop
    split
    · rename_i l z _ _ _
      obtain ⟨zs, a, h⟩ := s.grant_frame l z
      obtain ⟨zs', a', h'⟩ := ih (s.grant l z)
      rw [h', h]
      exact ⟨zs', a', rfl⟩
    · exact ⟨s.zones, s.arbiter, rfl⟩

theorem State.grantTest_frame (s : State) : ∃ zs a, s.grantTest = { s with zones := zs, arbiter := a } :=
  State.grantLoop_frame _ s

theorem State.moveZone_frame (s : State) (z : Nat) (f : Zone → Zone) :
    ∃ zs a, s.moveZone z f = { s with zones := zs, arbiter := a } := by
  unfold State.moveZone
  split
  · exact ⟨s.zones, s.arbiter, rfl⟩
  · obtain ⟨zs, a, h⟩ := (s.modZone z f).grantTest_frame
    dsimp only
    split
    · exact ⟨_, _, rfl⟩
    · exact ⟨zs, a, h⟩
    all_goals exact ⟨_, s.arbiter, rfl⟩

theorem State.purgeZone_frame (s : State) (z : Nat) :
    ∃ zs a, s.purgeZone z = { s with zones := zs, arbiter := a } := s.moveZone_frame z _

theorem State.holdZone_frame (s : State) (z : Nat) :
    ∃ zs a, s.holdZone z = { s with zones := zs, arbiter := a } := by
  unfold State.holdZone
  obtain ⟨zs, a, h⟩ := s.moveZone_frame z fun zn => { zn.enter s.clock .holding with latch := true }
  rw [h]
  obtain ⟨zs', h'⟩ := State.regulate_frame _ z
  rw [h']
  exact ⟨zs', a, rfl⟩

theorem State.runOutZone_frame (s : State) (z : Nat) :
    ∃ zs a, s.runOutZone z = { s with zones := zs, arbiter := a } := by
  unfold State.runOutZone
  split
  · exact ⟨s.zones, s.arbiter, rfl⟩
  · split
    · exact s.purgeZone_frame z
    · exact ⟨s.zones, s.arbiter, rfl⟩

theorem State.waitZone_frame (s : State) (z : Nat) :
    ∃ zs a, s.waitZone z = { s with zones := zs, arbiter := a } := by
  unfold State.waitZone
  obtain ⟨zs, a, h⟩ := State.grantTest_frame ((s.modZone z (Zone.enterCold s.clock .waiting)).joinQueue z)
  rw [h]
  obtain ⟨zs', a', h'⟩ := State.runOutZone_frame _ z
  rw [h']
  exact ⟨zs', a', rfl⟩

theorem State.conditionZone_frame (s : State) (z : Nat) :
    ∃ zs a n, s.conditionZone z = { s with zones := zs, arbiter := a, notices := n } := by
  unfold State.conditionZone
  obtain ⟨zs, a, h⟩ := s.moveZone_frame z fun zn => { zn.enter s.clock .conditioned with latch := true }
  rw [h]
  exact ⟨zs, a, _, rfl⟩

theorem State.zoneReading_frame (s : State) (z : Nat) (r : Reading) :
    ∃ zs a n, s.zoneReading z r = { s with zones := zs, arbiter := a, notices := n } := by
  unfold State.zoneReading
  split
  · exact ⟨s.zones, s.arbiter, s.notices, rfl⟩
  · dsimp only
    obtain ⟨zs, n, h⟩ := (s.modZone z fun x => x.evaluate r).bandTest_frame z r
    obtain ⟨zs', a', n', h'⟩ := (s.modZone z fun x => x.evaluate r).conditionZone_frame z
    split
    · split
      · exact ⟨zs', a', n', h'⟩
      · exact ⟨_, s.arbiter, s.notices, rfl⟩
    · exact ⟨zs, s.arbiter, n, h⟩
    · exact ⟨zs, s.arbiter, n, h⟩
    · exact ⟨_, s.arbiter, s.notices, rfl⟩
    all_goals exact ⟨s.zones, s.arbiter, s.notices, rfl⟩

theorem State.accountPass_frame (s : State) (z : Nat) (b : Bool) : ∃ rs, s.accountPass z b = { s with rods := rs } :=
  ⟨_, rfl⟩

theorem State.zoneTick_frame (s : State) (z : Nat) :
    ∃ rs zs, s.zoneTick z = { s with rods := rs, zones := zs } := by
  unfold State.zoneTick
  split
  · exact ⟨s.rods, s.zones, rfl⟩
  · split
    · exact ⟨_, _, rfl⟩
    · exact ⟨s.rods, s.zones, rfl⟩

theorem State.followTicks_frame (s : State) : ∃ zs, s.followTicks = { s with zones := zs } := ⟨_, rfl⟩

theorem State.followEconomy_frame (s : State) : ∃ zs, s.followEconomy = { s with zones := zs } := ⟨_, rfl⟩

theorem State.governAll_frame (s : State) (p : Nat) : ∃ zs, s.governAll p = { s with zones := zs } := ⟨_, rfl⟩

theorem State.economyExpiry_frame (s : State) (z : Nat) : ∃ zs, s.economyExpiry z = { s with zones := zs } := by
  unfold State.economyExpiry
  split
  · exact ⟨s.zones, rfl⟩
  · split
    · split
      · exact ⟨_, rfl⟩
      · obtain ⟨zs, h⟩ := State.regulate_frame (s.modZone z fun zn => { zn.enter s.clock .economy with vent := false }) z
        exact ⟨zs, h⟩
    · exact ⟨s.zones, rfl⟩

theorem State.wakeZone_frame (s : State) (z : Nat) :
    ∃ zs a, s.wakeZone z = { s with zones := zs, arbiter := a } := by
  unfold State.wakeZone
  split
  · exact ⟨s.zones, s.arbiter, rfl⟩
  · split
    · exact s.waitZone_frame z
    · exact ⟨s.zones, s.arbiter, rfl⟩

theorem State.startZone_frame (s : State) (z : Nat) :
    ∃ zs a, s.startZone z = { s with zones := zs, arbiter := a } := by
  unfold State.startZone
  split
  · exact ⟨s.zones, s.arbiter, rfl⟩
  · split
    · exact s.waitZone_frame z
    · exact s.waitZone_frame z
    · exact ⟨_, s.arbiter, rfl⟩
    all_goals exact ⟨s.zones, s.arbiter, rfl⟩

theorem State.releaseZone_frame (s : State) (z : Nat) :
    ∃ zs a, s.releaseZone z = { s with zones := zs, arbiter := a } := by
  unfold State.releaseZone
  split
  · exact ⟨s.zones, s.arbiter, rfl⟩
  · split
    · exact s.waitZone_frame z
    · exact s.waitZone_frame z
    · exact ⟨_, s.arbiter, rfl⟩
    all_goals exact ⟨s.zones, s.arbiter, rfl⟩

theorem State.holdOrPurge_frame (s : State) (m : BitVec 10) (z : Nat) :
    ∃ zs a, s.holdOrPurge m z = { s with zones := zs, arbiter := a } := by
  unfold State.holdOrPurge
  split
  · exact s.holdZone_frame z
  · exact s.purgeZone_frame z

theorem State.holdWaiting_frame (m : BitVec 10) (s : State) (z : Nat) :
    ∃ zs a, State.holdWaiting m s z = { s with zones := zs, arbiter := a } := by
  unfold State.holdWaiting
  split
  · exact ⟨s.zones, s.arbiter, rfl⟩
  · split
    · exact s.holdOrPurge_frame m z
    · exact ⟨s.zones, s.arbiter, rfl⟩

theorem State.holdRest_frame (m : BitVec 10) (s : State) (z : Nat) :
    ∃ zs a, State.holdRest m s z = { s with zones := zs, arbiter := a } := by
  unfold State.holdRest
  split
  · exact ⟨s.zones, s.arbiter, rfl⟩
  · split
    · exact s.holdOrPurge_frame m z
    · exact s.holdOrPurge_frame m z
    · exact s.holdOrPurge_frame m z
    · exact ⟨_, s.arbiter, rfl⟩
    all_goals exact ⟨s.zones, s.arbiter, rfl⟩

theorem State.shutWaiting_frame (s : State) (z : Nat) :
    ∃ zs a, s.shutWaiting z = { s with zones := zs, arbiter := a } := by
  unfold State.shutWaiting
  split
  · exact ⟨s.zones, s.arbiter, rfl⟩
  · split
    · exact s.purgeZone_frame z
    · exact ⟨s.zones, s.arbiter, rfl⟩

theorem State.shutRest_frame (s : State) (z : Nat) :
    ∃ zs a, s.shutRest z = { s with zones := zs, arbiter := a } := by
  unfold State.shutRest
  split
  · exact ⟨s.zones, s.arbiter, rfl⟩
  · split
    · exact s.purgeZone_frame z
    · exact s.purgeZone_frame z
    · exact s.purgeZone_frame z
    · exact s.purgeZone_frame z
    · exact s.purgeZone_frame z
    · exact ⟨_, s.arbiter, rfl⟩
    all_goals exact ⟨s.zones, s.arbiter, rfl⟩

/-- An operation that writes zones and arbiter at each zone writes only these over all zones. -/
theorem State.foldl_zones_frame (f : State → Nat → State)
    (hf : ∀ s z, ∃ zs a, f s z = { s with zones := zs, arbiter := a }) (xs : List Nat) (s : State) :
    ∃ zs a, xs.foldl f s = { s with zones := zs, arbiter := a } := by
  induction xs generalizing s with
  | nil => exact ⟨s.zones, s.arbiter, rfl⟩
  | cons x xs ih =>
    obtain ⟨zs, a, h⟩ := hf s x
    obtain ⟨zs', a', h'⟩ := ih (f s x)
    rw [List.foldl_cons, h', h]
    exact ⟨zs', a', rfl⟩

theorem State.eachZone_frame (s : State) (f : State → Nat → State)
    (hf : ∀ s z, ∃ zs a, f s z = { s with zones := zs, arbiter := a }) :
    ∃ zs a, s.eachZone f = { s with zones := zs, arbiter := a } := State.foldl_zones_frame f hf _ s

theorem State.holdZones_frame (s : State) (m : BitVec 10) :
    ∃ zs a, s.holdZones m = { s with zones := zs, arbiter := a } := by
  unfold State.holdZones
  obtain ⟨zs, a, h⟩ := s.eachZone_frame _ (State.holdWaiting_frame m)
  rw [h]
  obtain ⟨zs', a', h'⟩ := State.eachZone_frame ({ s with zones := zs, arbiter := a } : State) _ (State.holdRest_frame m)
  rw [h']
  exact ⟨zs', a', rfl⟩

theorem State.shutZones_frame (s : State) : ∃ zs a, s.shutZones = { s with zones := zs, arbiter := a } := by
  unfold State.shutZones
  obtain ⟨zs, a, h⟩ := s.eachZone_frame _ State.shutWaiting_frame
  rw [h]
  obtain ⟨zs', a', h'⟩ := State.eachZone_frame ({ s with zones := zs, arbiter := a } : State) _ State.shutRest_frame
  rw [h']
  exact ⟨zs', a', rfl⟩

theorem State.rampExpiry_frame (s : State) (z : Nat) :
    ∃ zs a n, s.rampExpiry z = { s with zones := zs, arbiter := a, notices := n } := by
  unfold State.rampExpiry
  split
  · exact ⟨s.zones, s.arbiter, s.notices, rfl⟩
  · split
    · obtain ⟨zs, a, h⟩ := s.moveZone_frame z (Zone.enterCold s.clock .failed)
      rw [h]
      exact ⟨zs, a, _, rfl⟩
    · exact ⟨s.zones, s.arbiter, s.notices, rfl⟩

theorem State.purgeExpiry_frame (s : State) (z : Nat) :
    ∃ zs a, s.purgeExpiry z = { s with zones := zs, arbiter := a } := by
  unfold State.purgeExpiry
  split
  · exact ⟨s.zones, s.arbiter, rfl⟩
  · split
    · split
      · exact s.waitZone_frame z
      · exact ⟨_, s.arbiter, rfl⟩
    · exact ⟨s.zones, s.arbiter, rfl⟩

theorem State.spacingExpiry_frame (s : State) :
    ∃ zs a, s.spacingExpiry = { s with zones := zs, arbiter := a } := by
  unfold State.spacingExpiry
  split
  · obtain ⟨zs, a, h⟩ := State.grantTest_frame (s.setArbiter { s.arbiter with spacing := none })
    exact ⟨zs, a, h⟩
  · exact ⟨s.zones, s.arbiter, rfl⟩

theorem State.adopt_frame (c : Chain) (s : State) (z : Nat) :
    ∃ zs n, State.adopt c s z = { s with zones := zs, notices := n } := by
  unfold State.adopt
  split
  · split
    · split
      · exact ⟨s.zones, s.notices, rfl⟩
      · split
        · exact ⟨s.zones, s.notices, rfl⟩
        · split
          · exact s.retarget_frame z _
          · exact ⟨s.zones, s.notices, rfl⟩
    · exact ⟨s.zones, s.notices, rfl⟩
  · exact ⟨s.zones, s.notices, rfl⟩

theorem State.restartZone_frame (s : State) (z : Nat) :
    ∃ zs a, s.restartZone z = { s with zones := zs, arbiter := a } := by
  unfold State.restartZone
  split
  · exact s.waitZone_frame z
  · exact s.waitZone_frame z
  · exact s.waitZone_frame z
  all_goals exact ⟨_, s.arbiter, rfl⟩

end Sys2Proof.Machine
end

