-- ==== Sys2Proof/Laws/Line.lean ====
section
/-! SUPPORT. Frames of the operations of Capture, Chains, Line and Motion: which fields of State each can write. -/

namespace Sys2Proof.Machine

/-! ## Capture -/

theorem State.mapChannels_frame (s : State) (f : Nat → Channel → Channel) :
    ∃ c, s.mapChannels f = { s with capture := c } := ⟨_, rfl⟩

theorem State.passTrim_frame (s : State) : ∃ c ls, s.passTrim = { s with capture := c, lots := ls } := by
  unfold State.passTrim
  split
  · exact ⟨s.capture, s.lots, rfl⟩
  · exact ⟨_, _, rfl⟩

theorem State.followCapture_frame (s : State) (old : LineState) : ∃ c, s.followCapture old = { s with capture := c } := by
  unfold State.followCapture
  split
  · exact ⟨_, rfl⟩
  · dsimp only
    split
    · exact ⟨_, rfl⟩
    · exact ⟨_, rfl⟩
  · exact ⟨s.capture, rfl⟩
  · exact ⟨s.capture, rfl⟩

theorem State.landingNotice_frame (s : State) : ∃ n, s.landingNotice = { s with notices := n } := by
  unfold State.landingNotice
  split
  · exact ⟨_, rfl⟩
  · exact ⟨s.notices, rfl⟩

theorem State.writeOut_frame (s : State) (l : Latch) (i : Nat) (p : Profile) :
    ∃ c rs ls lots zs a n, s.writeOut l i p =
      { s with capture := c, rods := rs, landing := ls, lots := lots, zones := zs, arbiter := a, notices := n } := by
  unfold State.writeOut
  dsimp only
  obtain ⟨n, h⟩ := State.landingNotice_frame _
  rw [h]
  obtain ⟨zs, a, h'⟩ := State.wakeZone_frame _ 0
  rw [h']
  exact ⟨_, _, _, _, _, _, _, rfl⟩

theorem State.scrapNoLot_frame (s : State) (l : Latch) :
    ∃ c lots q n, s.scrapNoLot l = { s with capture := c, lots := lots, reports := q, notices := n } := by
  unfold State.scrapNoLot
  obtain ⟨ls, q, n, h⟩ := s.offerReport_frame (.rodScrap l.number 0 .noLot l.cutTime) none 0
  rw [h]
  exact ⟨_, ls, q, _, rfl⟩

theorem State.scrapOverrun_frame (s : State) (number cutTime : Word32) :
    ∃ lots q n, s.scrapOverrun number cutTime = { s with lots := lots, reports := q, notices := n } := by
  unfold State.scrapOverrun
  split
  · obtain ⟨ls, q, n, h⟩ := s.offerReport_frame (.rodScrap number 0 .overrun cutTime) none 0
    rw [h]
    exact ⟨ls, q, _, rfl⟩
  · rename_i i _
    dsimp only
    obtain ⟨ls, q, n, h⟩ := s.offerReport_frame
      (.rodScrap number (s.lotIdOf i) .overrun cutTime) (some i) (s.lotIdOf i)
    rw [h]
    exact ⟨_, q, _, rfl⟩

theorem State.writeOutAttempt_frame (s : State) :
    ∃ c rs ls lots zs a q n, s.writeOutAttempt =
      { s with capture := c, rods := rs, landing := ls, lots := lots, zones := zs, arbiter := a, reports := q,
               notices := n } := by
  unfold State.writeOutAttempt
  have same : ∃ c rs ls lots zs a q n, s =
      { s with capture := c, rods := rs, landing := ls, lots := lots, zones := zs, arbiter := a, reports := q,
               notices := n } :=
    ⟨s.capture, s.rods, s.landing, s.lots, s.zones, s.arbiter, s.reports, s.notices, rfl⟩
  split
  · exact same
  · rename_i l _
    split
    · obtain ⟨c, lots, q, n, h⟩ := s.scrapNoLot_frame l
      exact ⟨c, s.rods, s.landing, lots, s.zones, s.arbiter, q, n, h⟩
    · rename_i i _
      split
      · split
        · rename_i p _
          obtain ⟨c, rs, ls, lots, zs, a, n, h⟩ := s.writeOut_frame l i p
          exact ⟨c, rs, ls, lots, zs, a, s.reports, n, h⟩
        · exact same
      · exact same

theorem State.endRod_frame (s : State) (noCut : Bool) :
    ∃ c rs ls lots zs a q n, s.endRod noCut =
      { s with capture := c, rods := rs, landing := ls, lots := lots, zones := zs, arbiter := a, reports := q,
               notices := n } := by
  have counted : ∀ t : State, ∃ n, (if (s.capture.channels.map (·.overflow)).any id then
      t.raise .counterOverflow s.numberGiven else t) = { t with notices := n } := by
    intro t
    split
    · exact ⟨_, rfl⟩
    · exact ⟨t.notices, rfl⟩
  unfold State.endRod
  dsimp only
  obtain ⟨n, hn⟩ := counted (s.setCapture { s.capture with rodCounter := nextNumber s.numberGiven })
  rw [hn]
  split
  · obtain ⟨c, rs, ls, lots, zs, a, q, n', h⟩ := State.writeOutAttempt_frame
      (State.setCapture { s.setCapture { s.capture with rodCounter := nextNumber s.numberGiven } with notices := n }
        { (State.capture { s.setCapture { s.capture with rodCounter := nextNumber s.numberGiven } with notices := n }) with
          latch := some { number := s.numberGiven, hangTime := s.capture.hangTime, cutTime := s.clock,
                          counts := s.capture.channels.map (·.count),
                          overflow := s.capture.channels.map (·.overflow), noCut := noCut } })
    rw [h]
    exact ⟨_, rs, ls, lots, zs, a, q, n', rfl⟩
  · obtain ⟨lots, q, n', h⟩ := State.scrapOverrun_frame
      { s.setCapture { s.capture with rodCounter := nextNumber s.numberGiven } with notices := n } s.numberGiven s.clock
    rw [h]
    exact ⟨_, s.rods, s.landing, lots, s.zones, s.arbiter, q, n', rfl⟩

theorem State.beginRod_frame (s : State) : ∃ c ls, s.beginRod = { s with capture := c, lots := ls } := by
  unfold State.beginRod
  obtain ⟨c, ls, h⟩ := s.clearChannels.passTrim_frame
  rw [h]
  exact ⟨_, ls, rfl⟩

theorem State.hangEdge_frame (s : State) :
    ∃ c rs ls lots zs a q n, s.hangEdge =
      { s with capture := c, rods := rs, landing := ls, lots := lots, zones := zs, arbiter := a, reports := q,
               notices := n } := by
  unfold State.hangEdge
  split
  · exact ⟨s.capture, s.rods, s.landing, s.lots, s.zones, s.arbiter, s.reports, _, rfl⟩
  · obtain ⟨c, ls, h⟩ := s.beginRod_frame
    exact ⟨c, s.rods, s.landing, ls, s.zones, s.arbiter, s.reports, s.notices, h⟩
  · obtain ⟨c, rs, ls, lots, zs, a, q, n, h⟩ := s.endRod_frame true
    obtain ⟨c', lots', h'⟩ := (s.endRod true).beginRod_frame
    rw [h', h]
    exact ⟨c', rs, ls, lots', zs, a, q, n, rfl⟩

theorem State.cutEdge_frame (s : State) :
    ∃ c rs ls lots zs a q n, s.cutEdge =
      { s with capture := c, rods := rs, landing := ls, lots := lots, zones := zs, arbiter := a, reports := q,
               notices := n } := by
  unfold State.cutEdge
  split
  · exact ⟨s.capture, s.rods, s.landing, s.lots, s.zones, s.arbiter, s.reports, _, rfl⟩
  · exact ⟨s.capture, s.rods, s.landing, s.lots, s.zones, s.arbiter, s.reports, _, rfl⟩
  · obtain ⟨c, rs, ls, lots, zs, a, q, n, h⟩ := s.endRod_frame false
    rw [h]
    exact ⟨_, rs, ls, lots, zs, a, q, n, rfl⟩

/-! ## Chains -/

theorem State.setSeq_frame (s : State) (c : Chain) (q : Sequencer) :
    ∃ a b, s.setSeq c q = { s with preSeq := a, mainSeq := b } := by
  cases c
  · exact ⟨q, s.mainSeq, rfl⟩
  · exact ⟨s.preSeq, q, rfl⟩

theorem State.countGap_frame (s : State) : ∃ ls, s.countGap = { s with lots := ls } := by
  unfold State.countGap
  split
  · exact ⟨s.lots, rfl⟩
  · exact ⟨_, rfl⟩

theorem State.preShift_frame (s : State) :
    ∃ c rs ls ps bs lots zs a q n, s.preShift =
      { s with capture := c, rods := rs, landing := ls, preChain := ps, buffer := bs, lots := lots, zones := zs,
               arbiter := a, reports := q, notices := n } := by
  unfold State.preShift
  dsimp only
  split
  · obtain ⟨lots, h⟩ := s.movePre.countGap_frame
    rw [h]
    obtain ⟨c, rs, ls, lots', zs, a, q, n, h'⟩ := State.writeOutAttempt_frame { s.movePre with lots := lots }
    rw [h']
    exact ⟨c, rs, ls, _, _, lots', zs, a, q, n, rfl⟩
  · obtain ⟨c, rs, ls, lots', zs, a, q, n, h'⟩ := State.writeOutAttempt_frame s.movePre
    rw [h']
    exact ⟨c, rs, ls, _, _, lots', zs, a, q, n, rfl⟩

theorem State.mainShift_frame (s : State) :
    ∃ rs ms bs d lots q n, s.mainShift =
      { s with rods := rs, mainChain := ms, buffer := bs, divert := d, lots := lots, reports := q, notices := n } := by
  unfold State.mainShift
  dsimp only
  split
  · rename_i x _
    obtain ⟨d, ls, q, n, rs, h⟩ := s.gradeExit_frame x s.clock
    rw [h]
    exact ⟨_, _, _, d, ls, q, n, rfl⟩
  · exact ⟨_, _, _, s.divert, s.lots, s.reports, s.notices, rfl⟩

theorem State.releaseBlocked_frame (s : State) (c : Chain) :
    ∃ a b, s.releaseBlocked c = { s with preSeq := a, mainSeq := b } := by
  unfold State.releaseBlocked
  split
  · exact s.setSeq_frame c _
  · exact ⟨s.preSeq, s.mainSeq, rfl⟩

/-- An operation that writes zones, arbiter and notices at each zone writes only these over all zones. -/
theorem State.eachZone_notices_frame (s : State) (f : State → Nat → State)
    (hf : ∀ s z, ∃ zs a n, f s z = { s with zones := zs, arbiter := a, notices := n }) :
    ∃ zs a n, s.eachZone f = { s with zones := zs, arbiter := a, notices := n } := by
  unfold State.eachZone
  generalize List.range s.zones.length = xs
  induction xs generalizing s with
  | nil => exact ⟨s.zones, s.arbiter, s.notices, rfl⟩
  | cons x xs ih =>
    obtain ⟨zs, a, n, h⟩ := hf s x
    obtain ⟨zs', a', n', h'⟩ := ih (f s x)
    rw [List.foldl_cons, h', h]
    exact ⟨zs', a', n', rfl⟩

theorem State.handOff_frame (s : State) (c : Chain) (b : Bool) :
    ∃ zs a n p m, s.handOff c b = { s with zones := zs, arbiter := a, notices := n, preSeq := p, mainSeq := m } := by
  have adopts : ∀ (s : State) (z : Nat), ∃ zs a n, State.adopt c s z = { s with zones := zs, arbiter := a, notices := n } := by
    intro s z
    obtain ⟨zs, n, h⟩ := State.adopt_frame c s z
    exact ⟨zs, s.arbiter, n, h⟩
  unfold State.handOff
  dsimp only
  obtain ⟨zs, a, n, h⟩ := s.eachZone_notices_frame _ adopts
  rw [h]
  obtain ⟨zs1, h1⟩ := State.followEconomy_frame { s with zones := zs, arbiter := a, notices := n }
  rw [h1]
  obtain ⟨zs2, a2, h2⟩ := State.eachZone_frame { s with zones := zs1, arbiter := a, notices := n } _ State.wakeZone_frame
  rw [h2]
  obtain ⟨zs3, a3, h3⟩ := State.eachZone_frame { s with zones := zs2, arbiter := a2, notices := n } _ State.runOutZone_frame
  rw [h3]
  split
  · obtain ⟨p, m, h4⟩ := State.releaseBlocked_frame { s with zones := zs3, arbiter := a3, notices := n } .pre
    rw [h4]
    exact ⟨zs3, a3, n, p, m, rfl⟩
  · exact ⟨zs3, a3, n, s.preSeq, s.mainSeq, rfl⟩

theorem State.followChain_frame (s : State) (c : Chain) : ∃ a b, s.followChain c = { s with preSeq := a, mainSeq := b } := by
  have stop : ∃ a b, s.stopChain c = { s with preSeq := a, mainSeq := b } := s.setSeq_frame c _
  have same : ∃ a b, s = { s with preSeq := a, mainSeq := b } := ⟨s.preSeq, s.mainSeq, rfl⟩
  unfold State.followChain
  split
  · split
    · exact s.setSeq_frame c _
    · exact same
  · unfold State.runOutChain
    split
    · exact stop
    · exact same
  all_goals
    split
    · exact stop
    · exact same

/-! ## Line -/

/-- What a change of line state writes; the line's own state is the one entered (R131, R132). -/
theorem State.changeLine_frame (s : State) (new : LineState) :
    ∃ c p m zs n, s.changeLine new =
      { s with line := Line.enter s.clock new, capture := c, preSeq := p, mainSeq := m, zones := zs, notices := n } := by
  unfold State.changeLine
  dsimp only
  obtain ⟨c, h⟩ := (s.setLine (Line.enter s.clock new)).followCapture_frame s.line.state
  rw [h]
  obtain ⟨p, m, h1⟩ := State.followChain_frame { s.setLine (Line.enter s.clock new) with capture := c } .pre
  rw [h1]
  obtain ⟨p', m', h2⟩ := State.followChain_frame
    { s.setLine (Line.enter s.clock new) with capture := c, preSeq := p, mainSeq := m } .main
  rw [h2]
  exact ⟨c, p', m', _, _, rfl⟩

theorem State.settle_cases (s : State) :
    s.settle = s ∨ (s.line.state = .runOut ∧ s.runOutDone = true ∧ s.settle = s.changeLine .cold) := by
  unfold State.settle
  split
  · rename_i h
    exact .inr ⟨h.1, h.2, rfl⟩
  · exact .inl rfl

theorem State.tryRunning_cases (s : State) :
    s.tryRunning = s ∨
      (s.line.state = .starting ∧ s.allZones .conditioned = true ∧ s.tryRunning = s.changeLine .running) := by
  unfold State.tryRunning
  split
  · rename_i h
    exact .inr ⟨h.1, h.2, rfl⟩
  · exact .inl rfl

/-- What a hold writes; the line-level state is set whole (R142). -/
theorem State.holdLine_frame (s : State) (mask : BitVec 10) (o : HoldOrigin) :
    ∃ c p m zs a n, s.holdLine mask o =
      { s with line := { Line.enter s.clock .hold with holdMask := mask, holdOrigin := o }, capture := c, preSeq := p,
               mainSeq := m, zones := zs, arbiter := a, notices := n } := by
  unfold State.holdLine
  dsimp only
  obtain ⟨c, p, m, zs, n, h⟩ := s.changeLine_frame .hold
  rw [h]
  obtain ⟨zs', a, h'⟩ := State.holdZones_frame (State.setLine
    { s with line := Line.enter s.clock .hold, capture := c, preSeq := p, mainSeq := m, zones := zs, notices := n }
    { Line.enter s.clock .hold with holdMask := mask, holdOrigin := o }) mask
  exact ⟨c, p, m, zs', a, n, h'⟩

theorem State.shutLine_frame (s : State) :
    ∃ c p m zs a n, s.shutLine =
      { s with line := Line.enter s.clock .shutdown, capture := c, preSeq := p, mainSeq := m, zones := zs, arbiter := a,
               notices := n } := by
  unfold State.shutLine
  obtain ⟨c, p, m, zs, n, h⟩ := s.changeLine_frame .shutdown
  rw [h]
  obtain ⟨zs', a, h'⟩ := State.shutZones_frame
    { s with line := Line.enter s.clock .shutdown, capture := c, preSeq := p, mainSeq := m, zones := zs, notices := n }
  exact ⟨c, p, m, zs', a, n, h'⟩

end Sys2Proof.Machine
end

