-- ==== Sys2Proof/Laws/PerInstr.lean ====
section
/-! SUPPORT. Statements made per command. `RequestForm`: the frame that a well-formed request row stands for carries a payload of the
length that the table of request codes gives its code. -/

namespace Sys2Proof.Laws.RequestForm

/-- The length of a big-endian field. -/
theorem beBytes_length (w v : Nat) : (Machine.beBytes w v).length = w := by
  induction w generalizing v with
  | zero => rfl
  | succ w ih => simp [Machine.beBytes, ih]

/-- The bytes of table entries, two for each. -/
theorem entries_length (es : List (BitVec 16)) :
    (es.flatMap fun e => Machine.beBytes 2 e.toNat).length = 2 * es.length := by
  induction es with
  | nil => rfl
  | cons e es ih => simp only [List.flatMap_cons, List.length_append, beBytes_length, ih, List.length_cons]; omega

/-- The payload of a request row has the length of its request code (R192, R198). -/
def Statement (i : Instr) : Prop :=
  ∀ code p, i.request = some (code, p) → i.wellFormed = true → requestLength code = some p.length

theorem identify : Statement .identify := by
  intro code p h _
  cases h
  rfl

theorem status : Statement .status := by
  intro code p h _
  cases h
  rfl

theorem timeSet (value : Word32) : Statement (.timeSet value) := by
  intro code p h _
  cases h
  rfl

theorem broadcastTimeSet (value : Word32) : Statement (.broadcastTimeSet value) := fun _ _ h => by cases h

theorem timeRead : Statement .timeRead := by
  intro code p h _
  cases h
  rfl

theorem reset : Statement .reset := by
  intro code p h _
  cases h
  rfl

theorem softReset (addr : BitVec 4) (baud : BitVec 2) : Statement (.softReset addr baud) := fun _ _ h => by cases h

theorem powerOnReset (addr : BitVec 4) (baud : BitVec 2) : Statement (.powerOnReset addr baud) := fun _ _ h => by cases h

theorem lineStart : Statement .lineStart := by
  intro code p h _
  cases h
  rfl

theorem lineHold (mask : BitVec 16) : Statement (.lineHold mask) := by
  intro code p h _
  cases h
  rfl

theorem broadcastLineHold (mask : BitVec 16) : Statement (.broadcastLineHold mask) := fun _ _ h => by cases h

theorem lineRelease : Statement .lineRelease := by
  intro code p h _
  cases h
  rfl

theorem lineRunOut : Statement .lineRunOut := by
  intro code p h _
  cases h
  rfl

theorem lineShutdown : Statement .lineShutdown := by
  intro code p h _
  cases h
  rfl

theorem zoneRead (zone : Byte) : Statement (.zoneRead zone) := by
  intro code p h _
  cases h
  rfl

theorem zoneRestart (zone : Byte) : Statement (.zoneRestart zone) := by
  intro code p h _
  cases h
  rfl

theorem chainRead (chain : Byte) : Statement (.chainRead chain) := by
  intro code p h _
  cases h
  rfl

theorem chainClear (chain moved : Byte) : Statement (.chainClear chain moved) := by
  intro code p h _
  cases h
  rfl

theorem captureRead : Statement .captureRead := by
  intro code p h _
  cases h
  rfl

theorem lotOpen (id : Word32) (profile gap : Byte) : Statement (.lotOpen id profile gap) := by
  intro code p h _
  cases h
  rfl

theorem lotClose : Statement .lotClose := by
  intro code p h _
  cases h
  rfl

theorem lotRead (id : Word32) : Statement (.lotRead id) := by
  intro code p h _
  cases h
  rfl

theorem rodRead (number : Word32) : Statement (.rodRead number) := by
  intro code p h _
  cases h
  rfl

theorem rodMark (number : Word32) : Statement (.rodMark number) := by
  intro code p h _
  cases h
  rfl

theorem trainRead (part : Byte) (first : BitVec 16) (count : Byte) : Statement (.trainRead part first count) := by
  intro code p h _
  cases h
  rfl

theorem reportRead : Statement .reportRead := by
  intro code p h _
  cases h
  rfl

theorem reportRelease (count : Byte) : Statement (.reportRelease count) := by
  intro code p h _
  cases h
  rfl

theorem noticeFetch : Statement .noticeFetch := by
  intro code p h _
  cases h
  rfl

theorem noticeEnable (kinds : BitVec 32) : Statement (.noticeEnable kinds) := by
  intro code p h _
  cases h
  rfl

theorem profileRead (slot : Byte) : Statement (.profileRead slot) := by
  intro code p h _
  cases h
  rfl

theorem profileWrite (slot : Byte) (image : List Byte) : Statement (.profileWrite slot image) := by
  intro code p h w
  cases h
  simp only [Instr.wellFormed, decide_eq_true_eq] at w
  simp [requestLength, w]

theorem profileErase (slot : Byte) : Statement (.profileErase slot) := by
  intro code p h _
  cases h
  rfl

theorem tableRead (row : Byte) : Statement (.tableRead row) := by
  intro code p h _
  cases h
  rfl

theorem tableWrite (row : Byte) (entries : List (BitVec 16)) : Statement (.tableWrite row entries) := by
  intro code p h w
  cases h
  simp only [Instr.wellFormed, decide_eq_true_eq] at w
  simp only [requestLength, List.length_cons, entries_length, w]
  rfl

theorem layoutRead : Statement .layoutRead := by
  intro code p h _
  cases h
  rfl

theorem layoutWrite (image : List Byte) : Statement (.layoutWrite image) := by
  intro code p h w
  cases h
  simp only [Instr.wellFormed, decide_eq_true_eq] at w
  simp [requestLength, w]

theorem probeRead (address : Byte) : Statement (.probeRead address) := by
  intro code p h _
  cases h
  rfl

theorem lineCheck : Statement .lineCheck := by
  intro code p h _
  cases h
  rfl

theorem lineCheckResult : Statement .lineCheckResult := by
  intro code p h _
  cases h
  rfl

theorem unknownRequest (code : Byte) : Statement (.unknownRequest code) := fun _ _ h => by cases h

theorem frameDiscarded : Statement .frameDiscarded := fun _ _ h => by cases h

theorem byteGap : Statement .byteGap := fun _ _ h => by cases h

theorem replyEnd : Statement .replyEnd := fun _ _ h => by cases h

theorem hang : Statement .hang := fun _ _ h => by cases h

theorem cut : Statement .cut := fun _ _ h => by cases h

theorem curtainPulse (channel : Nat) : Statement (.curtainPulse channel) := fun _ _ h => by cases h

theorem stepDone (chain : Chain) : Statement (.stepDone chain) := fun _ _ h => by cases h

theorem stripReadyChange (level : Bool) : Statement (.stripReadyChange level) := fun _ _ h => by cases h

theorem intervalExpiry (chain : Chain) : Statement (.intervalExpiry chain) := fun _ _ h => by cases h

theorem stepTimeout (chain : Chain) : Statement (.stepTimeout chain) := fun _ _ h => by cases h

theorem blockLimit (chain : Chain) : Statement (.blockLimit chain) := fun _ _ h => by cases h

theorem zoneTick (zone : Nat) : Statement (.zoneTick zone) := fun _ _ h => by cases h

theorem economyTimerExpiry (zone : Nat) : Statement (.economyTimerExpiry zone) := fun _ _ h => by cases h

theorem rampLimitExpiry (zone : Nat) : Statement (.rampLimitExpiry zone) := fun _ _ h => by cases h

theorem purgeTimerExpiry (zone : Nat) : Statement (.purgeTimerExpiry zone) := fun _ _ h => by cases h

theorem spacingTimerExpiry : Statement .spacingTimerExpiry := fun _ _ h => by cases h

theorem poll (dataHigh : Bool) : Statement (.poll dataHigh) := fun _ _ h => by cases h

theorem pollStop (reply : Option ProbeReply) : Statement (.pollStop reply) := fun _ _ h => by cases h

theorem busFault : Statement .busFault := fun _ _ h => by cases h

theorem recoveryAttempt (clkHigh : Bool) : Statement (.recoveryAttempt clkHigh) := fun _ _ h => by cases h

theorem lineCheckBegin (clkHigh : Bool) : Statement (.lineCheckBegin clkHigh) := fun _ _ h => by cases h

theorem quietWindowEdge : Statement .quietWindowEdge := fun _ _ h => by cases h

theorem quietWindowEnd : Statement .quietWindowEnd := fun _ _ h => by cases h

theorem lineCheckEnd (reflection : Reflection) : Statement (.lineCheckEnd reflection) := fun _ _ h => by cases h

theorem storePollAck : Statement .storePollAck := fun _ _ h => by cases h

theorem storePollTimeout : Statement .storePollTimeout := fun _ _ h => by cases h

theorem storeTransferNack : Statement .storeTransferNack := fun _ _ h => by cases h

theorem loadBlockRead (bytes : List Byte) : Statement (.loadBlockRead bytes) := fun _ _ h => by cases h

theorem loadPollTimeout : Statement .loadPollTimeout := fun _ _ h => by cases h

theorem linkByte (byte : Byte) : Statement (.linkByte byte) := fun _ _ h => by cases h

theorem frameHeldPending (frame : Frame) : Statement (.frameHeldPending frame) := fun _ _ h => by cases h

theorem quietCommandFailed : Statement .quietCommandFailed := fun _ _ h => by cases h

theorem loadTransferNack : Statement .loadTransferNack := fun _ _ h => by cases h

end Sys2Proof.Laws.RequestForm
end

