-- ==== Sys2Proof/Laws/Safety.lean ====
section
/-! SUPPORT. The operations of the model beside the words of Safety.lean that the statements use: what a round of polls, the end of INIT, the
completion of a run-out, the passage to RUNNING and the end of a poll are, each said once. -/

namespace Sys2Proof.Machine

/-- A new round of polls (R152). -/
theorem State.startRound_eq (s : State) :
    s.startRound = { s with probeBus := s.probeBus.newRound s.store.layout s.clock } := by
  unfold State.startRound ProbeBus.newRound
  cases s.store.layout <;> rfl

/-- The ramp arbiter under a new layout keeps all but a spacing timer that a ramp spacing of 0 stops (R75, R137). -/
theorem Arbiter.under_eq (l : Layout) (a : Arbiter) :
    a.under l = { a with spacing := if l.rampSpacing = 0 then none else a.spacing } := by
  unfold Arbiter.under
  split <;> rfl

/-- A frame that is not for this node leaves the receiver hunting and nothing else changed, whatever the port does (R191, R193). -/
theorem State.frameIn_ignored (s : State) (f : Frame) (h : s.ignoresFrame f = true) :
    s.frameIn f = { s with link := s.link.hunting } := by
  unfold State.frameIn
  rw [if_pos h]
  rfl

/-- A frame for this node while a reply is prepared: the one pending request, or dropped where one is held (R192). -/
theorem State.frameIn_busy (s : State) (f : Frame) (r : Reply) (w : Nat) (h : s.ignoresFrame f = false)
    (hp : s.link.port = .preparing r w) :
    s.frameIn f = { s with link := { s.link.hunting with held := some (s.link.held.getD f) } } := by
  unfold State.frameIn
  rw [if_neg (by simp [h]), hp]
  rcases hh : s.link.held with _ | g <;> simp [State.hunt, State.setLink, Link.hunting, hh]

/-- Following the line into a state in which no chain steps (R46). -/
theorem State.followChain_held (s : State) (c : Chain) (h : s.line.state.steps = false) :
    s.followChain c = s.setSeq c ((s.seq c).held s.clock) := by
  unfold State.followChain State.stopChain Sequencer.held Sequencer.enter
  cases hs : s.line.state <;> simp [hs, LineState.steps] at h ⊢ <;> split <;> cases c <;> rfl

/-- The tick timers where the line stops them (R73). -/
theorem State.followTicks_stopped (s : State) (h : s.line.state.ticks = false) :
    s.followTicks = { s with zones := s.zones.map fun zn => { zn with tickTimer := none } } := by
  unfold State.followTicks State.setZones
  simp only [h, Bool.false_eq_true, if_false]

/-- The economy timers where the line does not let them run (R80). -/
theorem State.followEconomy_stopped (s : State) (h : s.line.state ≠ .running) :
    s.followEconomy = { s with zones := s.zones.map fun zn => { zn with economyTimer := none } } := by
  unfold State.followEconomy State.setZones
  congr 1
  apply List.ext_getElem?
  intro i
  have hr : ∀ z zn, s.economyRuns z zn = false := by
    intro z zn
    unfold State.economyRuns
    have : (s.line.state == .running) = false := by simpa using h
    simp [this]
  simp only [List.getElem?_mapIdx, List.getElem?_map, hr, Bool.false_eq_true, if_false]

/-- The capture unit at a change of the line to a state that does not arm it (R24). -/
theorem State.followCapture_disarms (s : State) (old : LineState) (ho : old.arms = true) (hn : s.line.state.arms = false) :
    s.followCapture old = { s with capture := s.capture.disarmed s.prescale } := by
  unfold State.followCapture
  rw [ho, hn]
  by_cases hc : s.capture.state = .hanging
  · simp only [hc, if_true, State.mapChannels, State.setCapture, Capture.disarmed]
    rfl
  · simp only [hc, if_false, State.setCapture, Capture.disarmed]
    congr 2
    exact (List.mapIdx_eq_iff.mpr fun i => by simp).symm

/-- A change of the line to a state in which neither chains nor tick nor economy timers run, the capture unit becoming `cap`
(R132). -/
theorem State.changeLine_still (s : State) (new : LineState) (cap : Capture) (h2 : new.steps = false) (h3 : new.ticks = false)
    (h4 : new ≠ .running)
    (hc : (s.setLine (Line.enter s.clock new)).followCapture s.line.state =
      (s.setLine (Line.enter s.clock new)).setCapture cap) :
    s.changeLine new = { s with
      line := new.entered s.clock
      capture := cap
      preSeq := s.preSeq.held s.clock
      mainSeq := s.mainSeq.held s.clock
      zones := s.zones.map fun zn => { zn with tickTimer := none, economyTimer := none }
      notices := s.notices.occurred .lineState s.clock (BitVec.ofNat 32 new.code) } := by
  unfold State.changeLine
  dsimp only
  rw [hc, State.followChain_held _ .pre (by exact h2), State.followChain_held _ .main (by exact h2),
    State.followTicks_stopped _ (by exact h3), State.followEconomy_stopped _ (by exact h4)]
  simp only [State.raiseNat, State.raise, State.setNotices, NoticeUnit.occurred, List.map_map]
  rfl

/-- The capture unit stays as it is where neither line state arms it (R24). -/
theorem State.followCapture_rest (s : State) (old : LineState) (ho : old.arms = false) (hn : s.line.state.arms = false) :
    s.followCapture old = s.setCapture s.capture := by
  unfold State.followCapture
  rw [ho, hn]
  rfl

/-- The end of INIT (R134). -/
theorem State.finishInit_eq (s : State) (h : s.line.state = .init) : s.finishInit = s.leftInit := by
  have key : ∀ (new : LineState) (n : Nat), new = .cold ∨ new = .unconfigured →
      ((s.raiseNat .initDone n).changeLine new).startRound = { s with
        line := new.entered s.clock
        preSeq := s.preSeq.held s.clock
        mainSeq := s.mainSeq.held s.clock
        zones := s.zones.map fun zn => { zn with tickTimer := none, economyTimer := none }
        probeBus := s.probeBus.newRound s.store.layout s.clock
        notices := (s.notices.occurred .initDone s.clock (BitVec.ofNat 32 n)).occurred .lineState s.clock
          (BitVec.ofNat 32 new.code) } := by
    intro new n hn
    have h1 : new.arms = false := by rcases hn with rfl | rfl <;> rfl
    have h2 : new.steps = false := by rcases hn with rfl | rfl <;> rfl
    have h3 : new.ticks = false := by rcases hn with rfl | rfl <;> rfl
    have h4 : new ≠ .running := by rcases hn with rfl | rfl <;> exact LineState.noConfusion
    have ho : (s.raiseNat .initDone n).line.state.arms = false := by
      show s.line.state.arms = false
      rw [h]; rfl
    rw [State.changeLine_still _ new _ h2 h3 h4 (State.followCapture_rest _ _ ho h1), State.startRound_eq]
    rfl
  unfold State.finishInit State.leftInit State.initResult State.anyCorrupt
  cases hl : s.store.layout with
  | none =>
    dsimp only
    rw [key .unconfigured 2 (Or.inr rfl), hl]
    rfl
  | some l =>
    dsimp only
    have hx : (s.tableLoaded = false ∨ (s.store.slots.any fun sl => sl == .corrupt) = true) ↔
        (s.tableLoaded = false ∨ ProfileSlot.corrupt ∈ s.store.slots) := by simp
    rw [key .cold _ (Or.inl rfl), hl]
    by_cases hc : s.tableLoaded = false ∨ ProfileSlot.corrupt ∈ s.store.slots
    · rw [if_pos (hx.mpr hc), if_pos hc]; rfl
    · rw [if_neg (fun h' => hc (hx.mp h')), if_neg hc]; rfl

/-- The completion of a run-out (R147). -/
theorem State.settle_eq (s : State) : s.settle = s.settled := by
  unfold State.settle State.settled
  have hi : (s.line.state = .runOut ∧ s.runOutDone = true) ↔ s.RunOutComplete := by
    unfold State.RunOutComplete State.runOutDone State.allZones
    simp [and_assoc]
  by_cases h : s.RunOutComplete
  · rw [if_pos (hi.mpr h), if_pos h]
    obtain ⟨hl, -, hp, hm, -⟩ := h
    rw [State.changeLine_still s .cold _ rfl rfl LineState.noConfusion
      (State.followCapture_disarms _ _ (by rw [hl]; rfl) rfl)]
    have hh : ∀ q : Sequencer, q.state = .stopped → q.held s.clock = q := by
      intro q hq
      unfold Sequencer.held
      rw [hq]
      rfl
    rw [hh _ hp, hh _ hm]
    rfl
  · rw [if_neg (fun h' => h (hi.mp h')), if_neg h]

/-- A chain follows the line into RUNNING (R46). -/
theorem State.followChain_running (s : State) (c : Chain) (l : Layout) (h : s.line.state = .running)
    (hl : s.store.layout = some l) : s.followChain c = s.setSeq c ((s.seq c).woken s.clock (l.interval c)) := by
  unfold State.followChain State.idleChain State.intervalTicks Sequencer.woken Sequencer.enter Layout.interval
  rw [h, hl]
  cases c <;> dsimp only <;> split <;> rfl

/-- The passage from STARTING to RUNNING (R141). -/
theorem State.tryRunning_eq (s : State) (l : Layout) (hl : s.store.layout = some l) :
    s.tryRunning = s.startedRunning l := by
  unfold State.tryRunning State.startedRunning
  have hi : (s.line.state = .starting ∧ s.allZones .conditioned = true) ↔
      (s.line.state = .starting ∧ ∀ zn ∈ s.zones, zn.state = .conditioned) := by
    unfold State.allZones
    simp
  by_cases h : s.line.state = .starting ∧ ∀ zn ∈ s.zones, zn.state = .conditioned
  · rw [if_pos (hi.mpr h), if_pos h]
    obtain ⟨hs, hz⟩ := h
    have hc : (s.setLine (Line.enter s.clock .running)).followCapture s.line.state =
        (s.setLine (Line.enter s.clock .running)).setCapture { s.capture with state := .idle } := by
      unfold State.followCapture
      rw [hs]
      rfl
    have ht : ∀ t : State, t.line.state = .running → t.store.layout = some l → t.zones = s.zones →
        (∀ z, t.zoneRods z = s.zoneRods z) →
        t.followTicks.followEconomy = { t with zones := s.zones.mapIdx fun z zn => { zn with
          tickTimer := some (zn.tickTimer.getD (l.tickPeriod * 100))
          economyTimer := if s.zoneRods z = 0 then some (zn.economyTimer.getD (l.economyDelay * 6000)) else none } } := by
      intro t h1 h2 h3 h4
      unfold State.followTicks State.followEconomy State.setZones State.tickTicks State.economyTicks
      dsimp only
      rw [h1, h2, h3]
      congr 1
      apply List.ext_getElem?
      intro i
      simp only [List.getElem?_mapIdx, List.getElem?_map, Option.map_map]
      cases hg : s.zones[i]? with
      | none => rfl
      | some zn =>
        have hzn := hz zn (List.mem_of_getElem? hg)
        have he : ∀ u : State, u.line.state = .running → u.zoneRods i = s.zoneRods i → ∀ x : Zone, x.state = .conditioned →
            u.economyRuns i x = decide (s.zoneRods i = 0) := by
          intro u hu1 hu2 x hx
          unfold State.economyRuns State.zoneHolds
          rw [hu1, hu2, hx]
          by_cases h0 : s.zoneRods i = 0 <;> simp [h0, Nat.pos_iff_ne_zero]
        simp only [Option.map_some, Function.comp, LineState.ticks, if_true, Option.some.injEq]
        rw [he _ (by exact h1) (by exact h4 i) _ (by exact hzn)]
        by_cases h0 : s.zoneRods i = 0 <;> simp [h0, secondTicks, minuteTicks]
    unfold State.changeLine
    dsimp only
    rw [hc, State.followChain_running _ .pre l (by rfl) (by exact hl), State.followChain_running _ .main l (by rfl) (by exact hl),
      ht _ (by rfl) (by exact hl) (by rfl) (by intro z; rfl)]
    rfl
  · rw [if_neg (fun h' => h (hi.mp h')), if_neg h]

/-- What follows the end of a poll in a state `s` that has taken its outcome (R157, R158). -/
theorem State.endPoll_eq (s : State) (i : Nat) (v : Verdict) :
    s.endPoll i v = ((s.setProbeBus { s.probeBus with inFlight := none }).takeVerdict i v).pollEnded := by
  unfold State.endPoll State.pollEnded
  dsimp only
  generalize (s.setProbeBus { s.probeBus with inFlight := none }).takeVerdict i v = t
  by_cases h : t.line.state = .init ∧ t.line.phase = some .probeScan
  · have hs : t.scanning = true := by unfold State.scanning; simp [h]
    rw [if_pos hs, if_pos h]
    unfold State.scanNext
    dsimp only
    split
    · rfl
    · exact State.finishInit_eq t h.1
  · have hs : ¬ t.scanning = true := by unfold State.scanning; simpa using h
    rw [if_neg hs, if_neg h]
    split
    · exact State.startRound_eq t
    · rfl

/-! ## Zones that keep ticking, and zones that wait (R69, R73, R74) -/

@[simp] theorem Zone.ticking_state (n : Nat) (a : Zone) : (a.ticking n).state = a.state := rfl
@[simp] theorem Zone.ticking_governing (n : Nat) (a : Zone) : (a.ticking n).governing = a.governing := rfl
@[simp] theorem Zone.ticking_latch (n : Nat) (a : Zone) : (a.ticking n).latch = a.latch := rfl
@[simp] theorem Zone.ticking_heat (n : Nat) (a : Zone) : (a.ticking n).heat = a.heat := rfl
@[simp] theorem Zone.ticking_vent (n : Nat) (a : Zone) : (a.ticking n).vent = a.vent := rfl
@[simp] theorem Zone.ticking_economyTimer (n : Nat) (a : Zone) : (a.ticking n).economyTimer = none := rfl
@[simp] theorem Zone.waits_state (now : Word32) (a : Zone) : (a.waits now).state = .waiting := rfl
@[simp] theorem Zone.waits_governing (now : Word32) (a : Zone) : (a.waits now).governing = a.governing := rfl
@[simp] theorem Zone.waits_latch (now : Word32) (a : Zone) : (a.waits now).latch = a.latch := rfl
@[simp] theorem Zone.waits_tickTimer (now : Word32) (a : Zone) : (a.waits now).tickTimer = a.tickTimer := rfl

/-- A zone outside the granted part of the ramp queue is as the event left it (R75). -/
theorem State.AfterGrants.kept {s : State} {l : Layout} {queue : List Nat} {k z : Nat} {w b : Zone}
    (h : s.AfterGrants l queue k z w b) (hz : z ∉ queue) : b = w :=
  h.1 fun hm => hz (List.mem_of_mem_take hm)

/-- With no grant in the event every zone is as the event left it (R75). -/
theorem State.AfterGrants.none {s : State} {l : Layout} {queue : List Nat} {z : Nat} {w b : Zone}
    (h : s.AfterGrants l queue 0 z w b) : b = w :=
  h.1 (by simp)

/-- What the master sends on the trunk is a poll only while a poll is in flight (R153). -/
theorem State.trunkTransfer_idle (s : State) (taken : Bool) (h : s.probeBus.inFlight = none) (hc : s.probeBus.check = none) :
    s.trunkTransfer taken = [] := by
  unfold State.trunkTransfer
  rw [h, hc]

/-! ## Pages of a store block (R171, R172) -/

/-- The eight pages of a block's 512 bytes, joined in address order, are the block. -/
theorem pages_join (image : List Byte) (h : image.length = 512) : (List.range 8).flatMap (pageBytes image) = image := by
  have hn : ∀ n, (List.range n).flatMap (pageBytes image) = image.take (64 * n) := by
    intro n
    induction n with
    | zero => simp
    | succ n ih =>
      rw [List.range_succ, List.flatMap_append, ih]
      simp only [List.flatMap_cons, List.flatMap_nil, List.append_nil, pageBytes]
      rw [Nat.mul_succ, List.take_add]
  rw [hn 8]
  exact List.take_of_length_le (by omega)

/-- Every page of a block's 512 bytes holds 64 bytes. -/
theorem pageBytes_length (image : List Byte) (p : Nat) (h : image.length = 512) (hp : p < 8) :
    (pageBytes image p).length = 64 := by
  simp only [pageBytes, List.length_take, List.length_drop, h]
  omega

end Sys2Proof.Machine
end

