-- ==== Sys2Proof/Tests/Slice0.lean ====
section
/-! SUPPORT. The model's own tests: the checks of WellFormed, the spec's worked cases, and for every statement with hypotheses a
witness that meets them, clause by clause. Expected values come from the tables and worked sequences of spec/, by hand. -/

namespace Sys2Proof.Tests

-- One theorem at a time: each thread of Lean reserves its stack, and many at once pass the memory limit of the check.
set_option Elab.async false

open Sys2Proof.Machine

/-! ## Small states -/

/-- The zone entry of the worked examples: working targets 580 and 780, bands 20 and 30, economy offset 150 (spec/04). -/
def entry : ZoneEntry :=
  { workTemp := 580, workHum := 780, tempBand := 20, humBand := 30, coefficient := 4096, gradientLimit := 600, holdTemp := 300,
    holdHum := 700, economyOffset := 150 }

/-- A profile that passes its checks: exit range 11,500 to 13,000, stress limit 3. -/
def profile : Profile :=
  { name := List.replicate 12 0x41, initialMoisture := 45000, exitMin := 11500, exitMax := 13000, stressLimit := 3,
    heatThreshold := 550, minHeat := 1800, minCurtain := 1000, zones := List.replicate 10 entry }

/-- A layout of two zones with chains of 2 and 3 positions, for small states. -/
def tiny : Layout :=
  { zoneCount := 2, preZones := 1, positions := [2, 3, 0, 0, 0, 0, 0, 0, 0, 0], preInterval := 120, mainInterval := 80,
    stepTimeout := 10, blockLimit := 60, rampSlots := 1, rampSpacing := 120, rampLimit := 45, purgeTime := 5, economyDelay := 20,
    wakeLead := 15, tickPeriod := 60, pollPeriod := 12, defaultMask := 2, prescales := [1, 4, 16, 64, 1, 1],
    massFactors := [80, 80, 80, 80, 80, 80], hallTemp := 220, hallHum := 550 }

/-- A layout that passes its checks, at the least chain lengths. -/
def least : Layout := { tiny with positions := [20, 100, 0, 0, 0, 0, 0, 0, 0, 0] }

/-- A zone in a state, governed by profile 2. -/
def zoneIn (st : ZoneState) : Zone :=
  { Zone.fresh 0 with
    state := st
    governing := some { profile := 2, entry := entry }
    rampTimer := if st = .ramping then some 100 else none
    purgeTimer := if st = .purging then some 0 else none }

/-- A line of two zones in a line state, with lot 7101 OPEN under profile 2 in slot 0. -/
def bench (line : LineState) (a b : ZoneState) : State :=
  { State.reset with
    clock := 1000
    line := { Line.enter 0 line with phase := if line = .init then some .loadLayout else none }
    capture := { Capture.atReset with state := if line.arms then .idle else .disarmed }
    zones := [zoneIn a, zoneIn b]
    arbiter := { Arbiter.atReset with
      queue := (if a = .waiting then [0] else []) ++ (if b = .waiting then [1] else []) }
    preChain := [none, none]
    mainChain := [none, none, none]
    table := List.replicate 168 1500
    lots := some (Lot.new 7101 2 0) :: List.replicate 15 none
    store := { Store.atReset with layout := some tiny, slots := List.replicate 8 (.valid profile) } }

/-- A rod with a number, whose other fields do not matter. -/
def rod (number : Word32) (loc : Location) : Rod :=
  { number := number, lotSlot := 0, hangTime := 0, cutTime := 0, counts := [0, 0, 0, 0, 0, 0], charge := some 150, moisture := 12000,
    stress := 0, heat := 2000, lastAccounted := 0, marks := Marks.empty, location := loc }

/-- A fresh reading of a probe. -/
def reading (t : Int) (h : Nat) : Reading := { temp := t, hum := h, clamped := false, time := 0 }

/-- The state with the probe of zone 0 fresh. -/
def fresh (s : State) (t : Int) (h : Nat) : State := s.modProbe 0 fun p => p.read (reading t h)

/-- The arbiter's law as a check over the zones there are. -/
def arbiterCheck (s : State) : Bool :=
  decide s.arbiter.queue.Nodup
    && s.arbiter.queue.all (fun z => s.zoneState z == some .waiting)
    && (List.range s.zones.length).all (fun z => !(s.zoneState z == some .waiting) || s.arbiter.queue.contains z)
    && (match s.store.layout with
        | some l => decide (s.slotsInUse ≤ l.rampSlots) && decide (s.zones.length = l.zoneCount)
        | none => s.zones.isEmpty)
    && (!(s.line.state == .init || s.line.state == .unconfigured || s.line.state == .cold) || s.zones.all (·.state == .off))
    && s.zones.all (fun zn => !zn.startPending || zn.state == .purging)
    && (!(s.line.state == .hold || s.line.state == .shutdown) || s.zones.all fun zn => !zn.startPending &&
        (zn.state == .off || zn.state == .purging || zn.state == .failed || (zn.state == .holding && s.line.state == .hold)))

theorem arbiterCheck_sound (s : State) (h : arbiterCheck s = true) : ArbiterLaw s := by
  simp only [arbiterCheck, Bool.and_eq_true] at h
  obtain ⟨⟨⟨⟨⟨⟨h1, h2⟩, h3⟩, h4⟩, h5⟩, h6⟩, h7⟩ := h
  refine ⟨by simpa using h1, ?_, ?_, ?_, ?_, ?_, ?_, ?_⟩
  · intro z
    constructor
    · intro hz
      have := List.all_eq_true.mp h2 z hz
      simpa using this
    · intro hz
      have hl : z < s.zones.length := by
        by_contra hn
        simp [State.zoneState, List.getElem?_eq_none (Nat.le_of_not_lt hn)] at hz
      have := List.all_eq_true.mp h3 z (List.mem_range.mpr hl)
      simpa [hz] using this
  · intro l hl
    simp [hl] at h4
    exact h4.1
  · intro hl
    simpa [hl] using h4
  · intro l hl
    simp [hl] at h4
    exact h4.2
  · intro hr zn hz
    rcases hr with hr | hr | hr <;> simp [hr] at h5 <;> exact h5 zn hz
  · intro zn hz hp
    have := List.all_eq_true.mp h6 zn hz
    simpa [hp] using this
  · intro hr zn hz
    rcases hr with hr | hr <;> simp [hr] at h7 <;> simpa [hr, or_assoc] using h7 zn hz

/-- The law of the modes as a check. -/
def modeCheck (s : State) : Bool :=
  (s.line.phase.isSome == (s.line.state == .init))
    && (s.line.state == .hold || (s.line.holdMask == 0 && s.line.holdOrigin == .noHold))
    && ((s.capture.state == .disarmed) == !s.line.state.arms)
    && [Chain.pre, Chain.main].all (fun c =>
      ((s.seq c).intervalTimer.isSome == ((s.seq c).state == .idle)) && ((s.seq c).stepTimer.isSome == ((s.seq c).state == .stepping))
        && (!(s.seq c).blockedTimer.isSome || (s.seq c).state == .blocked)
        && (!((s.seq c).state == .idle || (s.seq c).state == .blocked) || s.line.state.steps))

theorem modeCheck_sound (s : State) (h : modeCheck s = true) : ModeLaw s := by
  simp only [modeCheck, Bool.and_eq_true, List.all_cons, List.all_nil] at h
  obtain ⟨⟨⟨h1, h2⟩, h3⟩, ⟨⟨⟨⟨p1, p2⟩, p3⟩, p4⟩, ⟨⟨⟨m1, m2⟩, m3⟩, m4⟩, -⟩⟩ := h
  refine ⟨?_, ?_, ?_, ?_, ?_⟩
  · rw [beq_iff_eq] at h1
    rw [h1, beq_iff_eq]
  · intro hn
    simp [hn] at h2
    exact h2
  · rw [beq_iff_eq] at h3
    rw [← beq_iff_eq (a := s.capture.state), h3]
    simp
  · intro c
    cases c
    · refine ⟨?_, ?_, ?_⟩
      · rw [beq_iff_eq] at p1; rw [p1, beq_iff_eq]
      · rw [beq_iff_eq] at p2; rw [p2, beq_iff_eq]
      · intro hb
        rw [hb] at p3
        simpa using p3
    · refine ⟨?_, ?_, ?_⟩
      · rw [beq_iff_eq] at m1; rw [m1, beq_iff_eq]
      · rw [beq_iff_eq] at m2; rw [m2, beq_iff_eq]
      · intro hb
        rw [hb] at m3
        simpa using m3
  · intro c hc
    cases c
    · have : ((s.seq .pre).state == .idle || (s.seq .pre).state == .blocked) = true := by
        rcases hc with hc | hc <;> rw [hc] <;> rfl
      rw [this] at p4
      simpa using p4
    · have : ((s.seq .main).state == .idle || (s.seq .main).state == .blocked) = true := by
        rcases hc with hc | hc <;> rw [hc] <;> rfl
      rw [this] at m4
      simpa using m4


/-! ## WellFormed: one ill-formed term per check, refused; the boundary beside it, accepted -/

theorem test_curtainPulse_channel : (Instr.curtainPulse 6).wellFormed = false ∧ (Instr.curtainPulse 5).wellFormed = true := by decide +kernel

theorem test_curtainPulse_refused : exec (.curtainPulse 6) State.reset = .refused (.illFormed "CURTAIN_PULSE") := rfl

theorem test_zone_events_index : (Instr.zoneTick 10).wellFormed = false ∧ (Instr.economyTimerExpiry 10).wellFormed = false ∧
    (Instr.rampLimitExpiry 10).wellFormed = false ∧ (Instr.purgeTimerExpiry 10).wellFormed = false ∧
    (Instr.zoneTick 9).wellFormed = true := by decide +kernel

theorem test_images_length : (Instr.profileWrite 0 (List.replicate 214 0)).wellFormed = false ∧
    (Instr.layoutWrite (List.replicate 64 0)).wellFormed = false ∧ (Instr.tableWrite 0 (List.replicate 20 0)).wellFormed = false ∧
    (Instr.loadBlockRead (List.replicate 511 0)).wellFormed = false := by decide +kernel

theorem test_reflection_count : (Instr.lineCheckEnd (.sameSense 512)).wellFormed = false ∧
    (Instr.lineCheckEnd (.oppositeSense 512)).wellFormed = false ∧ (Instr.lineCheckEnd (.sameSense 511)).wellFormed = true := by decide +kernel

theorem test_frame_payload : (Instr.frameHeldPending ⟨1, 2, List.replicate 241 0⟩).wellFormed = false ∧
    (Instr.frameHeldPending ⟨1, 2, List.replicate 240 0⟩).wellFormed = true := by decide +kernel

theorem test_unknown_request : (Instr.unknownRequest 0x01).wellFormed = false ∧ (Instr.unknownRequest 0x06).wellFormed = true := by
  decide +kernel

/-! ## The spec's own tables and cases -/

/-- R67's table: working 580 and 780, bands 20 and 30; economy drops the humidity target and lowers the other by 150 (R66). -/
theorem test_targets : (zoneIn .conditioned).targets = some (580, some 780) ∧ (zoneIn .economy).targets = some (430, none) ∧
    (zoneIn .holding).targets = some (300, some 700) ∧ (zoneIn .purging).targets = none := by decide +kernel

theorem test_band_edges : (zoneIn .ramping).inBand (reading 600 810) = true ∧ (zoneIn .ramping).inBand (reading 601 810) = false ∧
    (zoneIn .ramping).inBand (reading 560 750) = true ∧ (zoneIn .ramping).inBand (reading 560 749) = false := by decide +kernel

/-- R68, R69: HEAT on at target − 5, off at target; VENT open at target + 5, closed at target. -/
theorem test_output_edges : heatLevel 580 575 false = true ∧ heatLevel 580 576 false = false ∧ heatLevel 580 579 true = true ∧
    heatLevel 580 580 true = false ∧ ventLevel (some 780) 785 false = true ∧ ventLevel (some 780) 784 false = false ∧
    ventLevel (some 780) 781 true = true ∧ ventLevel (some 780) 780 true = false := by decide +kernel

/-- The CRC of the nine characters "123456789" with polynomial 0x1021 and initial value 0xFFFF is 0x29B1 (R171's parameters). -/
theorem test_crc : crc16 [0x31, 0x32, 0x33, 0x34, 0x35, 0x36, 0x37, 0x38, 0x39] = 0x29B1#16 := by decide +kernel

/-- The least layout and the profile pass their checks, and their images have the lengths of the store blocks (R198). -/
theorem test_images : layoutFault least = none ∧ profileFault profile = none ∧ (layoutImage least).length = 63 ∧
    (profileImage profile).length = 215 := by decide +kernel

/-- R170: the first field at fault names the layout's refusal. -/
theorem test_layout_faults : layoutFault { least with zoneCount := 11 } = some 0 ∧
    layoutFault { least with preZones := 2 } = some 1 ∧ layoutFault { least with prescales := [1, 4, 16, 64, 1, 2] } = some 30 ∧
    layoutFault { least with defaultMask := 1024 } = some 24 := by decide +kernel

/-- R114, in its order. -/
theorem test_dispositions : disposition profile (rod 5 (.main 0)) = .accept ∧
    disposition profile { rod 5 (.main 0) with moisture := 13001 } = .rework ∧
    disposition profile { rod 5 (.main 0) with moisture := 11499 } = .reject ∧
    disposition profile { rod 5 (.main 0) with stress := 4 } = .review ∧
    disposition profile { rod 5 (.main 0) with heat := 1799 } = .review ∧
    disposition profile { rod 5 (.main 0) with moisture := 13001, marks := { Marks.empty with operator := true } } = .reject := by
  decide +kernel

/-- R98, R99: a table whose row 2 is 100 times the column, at 58.0 °C and 78.3 %: 1500 moved by 33/50 of 100, times 10. -/
theorem test_lookup : equilibrium ((List.range 168).map fun i => 100 * (i % 21)) 580 783 = 15660 ∧
    equilibrium ((List.range 168).map fun i => 100 * (i % 21)) 580 1200 = 20000 := by decide +kernel

/-! ## Reset -/

theorem test_reset_outputs : State.reset.spreaderHold = true ∧ State.reset.attention = false ∧ State.reset.linkDe = false ∧
    State.reset.stepOut .pre = false ∧ State.reset.heat 0 = false ∧ State.reset.vent 0 = false := by decide +kernel

theorem test_step_takes_the_front : step { State.reset with pending := [.byteGap, .cut] } =
    .next { State.reset with pending := [.cut] } := rfl

theorem test_word_spells_no_command : decodeTableWord 8 0x01 = none ∧ State.reset.withFetchWord 8 0x01 = State.reset := ⟨rfl, rfl⟩

/-! ## Witnesses: states and operands that meet the hypotheses of the statements, clause by clause -/

/-- Every lot of a table meets a check. -/
theorem all_lots (s : State) (p : Lot → Bool) (h : s.lots.all (fun o => o.all p) = true) (i : Nat) (l : Lot)
    (hl : s.lot i = some l) : p l = true := by
  have hm : some l ∈ s.lots := by
    have hg : s.lots[i]?.getD none = some l := by simpa [State.lot, List.getD_eq_getElem?_getD] using hl
    cases ho : s.lots[i]? with
    | none => simp [ho] at hg
    | some o =>
      simp [ho] at hg
      exact hg ▸ List.mem_of_getElem? ho
  have := List.all_eq_true.mp h _ hm
  simpa using this

/-- The line in RUNNING with both zones CONDITIONED. -/
def running : State := bench .running .conditioned .conditioned

/-- A state whose port has a reply prepared, or is sending one. -/
def withPort (s : State) (p : Port) : State := { s with link := { s.link with port := p } }

/-- The next state of an outcome. -/
def after (o : Host.Outcome State Fault Refusal) : State :=
  match o with
  | .next t => t
  | .fault _ => State.reset
  | .refused _ => State.reset

/-- A reply, whose contents do not matter. -/
def ok : Reply := { code := 0x01, status := .ok, payload := [] }

/-- A state with one chain's sequencer in a state, its timer running where the state has one. -/
def chainIn (s : State) (c : Chain) (st : ChainState) : State :=
  s.setSeq c { s.seq c with
    state := st
    intervalTimer := if st = .idle then some 5 else none
    stepTimer := if st = .stepping then some 5 else none
    blockedTimer := if st = .blocked then some 5 else none }

/-- Zone 1 of this bench has run its purge timer out, and nothing else is due. -/
theorem test_purge_is_due : let s := bench .shutdown .off .purging
    s.DueAt 10 (.purgeTimerExpiry 1) ∧ ∀ j, j < 10 → ∀ d, ¬ s.DueAt j d := by
  refine ⟨Or.inr (Or.inr (Or.inl ⟨1, zoneIn .purging, by decide +kernel⟩)), ?_⟩
  rintro j hj d (⟨-, -, hc, -⟩ | ⟨ch, -, hc⟩ | ⟨z, zn, hz, hg, hc⟩ | ⟨hr, -⟩ | ⟨hr, -⟩ | ⟨hr, -⟩)
  · exact absurd hc (by decide +kernel)
  · cases ch <;> revert hc <;> simp [bench, State.reset, State.seq, Sequencer.atReset]
  · rcases z with _ | _ | z
    · cases hg
      rcases hc with ⟨-, -, h⟩ | ⟨-, -, h⟩ | ⟨-, -, h, -⟩ | ⟨-, -, h, -⟩ <;> exact absurd h (by decide +kernel)
    · cases hg
      rcases hc with ⟨-, -, h⟩ | ⟨-, -, h⟩ | ⟨-, -, h, -⟩ | ⟨h, -⟩
      · exact absurd h (by decide +kernel)
      · exact absurd h (by decide +kernel)
      · exact absurd h (by decide +kernel)
      · omega
    · cases hg
  · omega
  · omega
  · omega

/-- Nothing is due right after reset. -/
theorem test_nothing_is_due_at_reset : ∀ rank c, ¬ State.reset.DueAt rank c := by
  rintro rank c (⟨-, -, h, -⟩ | ⟨ch, -, h⟩ | ⟨z, zn, -, h, -⟩ | ⟨-, -, h⟩ | ⟨-, -, h⟩ | ⟨-, -, h, -⟩)
  · exact absurd h (by decide +kernel)
  · cases ch <;> revert h <;> simp [State.reset, State.seq, Sequencer.atReset]
  · cases h
  · exact absurd h (by decide +kernel)
  · exact absurd h (by decide +kernel)
  · exact absurd h (by decide +kernel)

theorem test_witness_EmptyQueueTakesTheDueEventOrOneTick :
    (State.reset.pending = [] ∧ State.reset.nextDue = none ∧ State.reset.link.port = .idle ∧ ∀ rank c, ¬ State.reset.DueAt rank c) ∧
    ((withPort State.reset (.sending ok)).pending = [] ∧ (withPort State.reset (.sending ok)).nextDue = none) ∧
    ((withPort running (.preparing ok 0)).pending = [] ∧ (withPort running (.preparing ok 0)).link.port = .preparing ok 0) ∧
    (let s := bench .shutdown .off .purging
     s.pending = [] ∧ s.nextDue = some (.purgeTimerExpiry 1) ∧ s.DueAt 10 (.purgeTimerExpiry 1) ∧
      ∀ j, j < 10 → ∀ d, ¬ s.DueAt j d) :=
  ⟨⟨by decide +kernel, by decide +kernel, by decide +kernel, test_nothing_is_due_at_reset⟩, by decide +kernel, by decide +kernel,
   ⟨by decide +kernel, by decide +kernel, test_purge_is_due⟩⟩

theorem test_witness_ResetsSetEveryBlock :
    running.line.state ≠ .init ∧ running.link.port = .idle ∧
    (let s := withPort running (.sending ok)
     s.link.port ≠ .idle ∧ s.link.resetAtEnd = false ∧ s.link.held = none) ∧
    (let s : State := { running with link := { running.link with port := .sending ok, resetAtEnd := true } }
     s.link.port ≠ .idle ∧ s.link.resetAtEnd = true) ∧
    (let f : Frame := ⟨1, 0x04, []⟩
     let s : State := { running with link := { running.link with port := .sending ok, held := some f } }
     s.link.port ≠ .idle ∧ s.link.resetAtEnd = false ∧ s.link.held = some f) := by
  decide +kernel

theorem test_witness_WellFormedCommandsComplete :
    (Instr.zoneTick 9).wellFormed = true ∧ ((Instr.zoneTick 10).wellFormed = false ∧ (Instr.zoneTick 10).request.isNone = true) ∧
    ((Instr.layoutWrite []).wellFormed = false ∧ (Instr.layoutWrite []).request = some (0x56, [])) := by decide +kernel

theorem test_witness_ReadingRequestsChangeNothing : (Instr.zoneRead 0).reads = true := by decide +kernel

theorem test_witness_InitRefusesRequests :
    State.reset.line.state = .init ∧ (Instr.reset).wellFormed = true ∧ (Instr.reset).request = some (0x05, []) ∧
    (0x05 : Byte) ≠ 0x01 ∧ (0x05 : Byte) ≠ 0x02 ∧ (0x05 : Byte) ≠ 0x04 ∧ (0x05 : Byte) ≠ 0x42 := by decide +kernel

theorem test_witness_RequestRowsAreTheirFrames : (Instr.lotOpen 7101 2 255).wellFormed = true ∧
    (Instr.lotOpen 7101 2 255).request = some (0x30, [0x00, 0x00, 0x1B, 0xBD, 0x02, 0xFF]) := by decide +kernel

theorem test_witness_ReceivedBytesAreTheFrame :
    (List.replicate 240 (0 : Byte)).length ≤ 240 ∧ State.reset.link.receiver = .hunting ∧ State.reset.link.port = .idle ∧
    (1 : Byte).toNat = State.reset.link.address.toNat := by decide +kernel

theorem test_witness_StoreImagesRoundTrip :
    (layoutImage least).length = 63 ∧ (profileImage profile).length = 215 ∧
    (layoutFault least = none ∧ least.positions.length = 10 ∧ (∀ n ∈ least.positions, n < 65536) ∧ least.prescales.length = 6 ∧
      least.massFactors.length = 6) ∧
    (profileFault profile = none ∧ profile.name.length = 12 ∧ profile.zones.length = 10) := by decide +kernel

theorem test_witness_ReceiverCollectsFrames :
    (withPort State.reset (.sending ok)).linkDe = true ∧
    (State.reset.linkDe = false ∧ State.reset.link.receiver = .hunting ∧ (0xA4 : Byte) ≠ 0xA5) ∧
    (let s (bytes : List Byte) : State := { State.reset with link := { State.reset.link with receiver := .collecting bytes 0 } }
     ((s [1, 4]).linkDe = false ∧ (s [1, 4]).link.receiver = .collecting [1, 4] 0 ∧ ([1, 4] : List Byte).length = 2 ∧
        240 < (241 : Byte).toNat ∧ (240 : Byte).toNat ≤ 240) ∧
     ((s [1]).linkDe = false ∧ ([1] : List Byte).length < 2) ∧
     ((s [1, 4, 0]).linkDe = false ∧ 2 < ([1, 4, 0] : List Byte).length ∧
        ([1, 4, 0] : List Byte).length + 1 ≠ 5 + (([1, 4, 0] : List Byte).getD 2 0).toNat) ∧
     ((s [1, 4, 0, 0]).linkDe = false ∧ 2 < ([1, 4, 0, 0] : List Byte).length ∧
        ([1, 4, 0, 0] : List Byte).length + 1 = 5 + (([1, 4, 0, 0] : List Byte).getD 2 0).toNat ∧
        [(0 : Byte), 0] ≠ crcBytes [1, 4, 0]) ∧
     (let high : Byte := (crc16 [2, 4, 0] >>> 8).setWidth 8
      let low : Byte := (crc16 [2, 4, 0]).setWidth 8
      [high, low] = crcBytes [2, 4, 0] ∧ ([2, 4, 0, high] : List Byte).take 3 = [2, 4, 0] ∧
        ([2, 4, 0, high] : List Byte).drop 3 ++ [low] = [high, low] ∧
        (2 : Byte) ≠ 0 ∧ (2 : Byte).toNat ≠ (s [2, 4, 0, high]).link.address.toNat)) := by decide +kernel

/-- R191: a frame with a wrong CRC, and a correct frame for another node, are dropped. -/
theorem test_frames_dropped :
    (runs (received [0xA5, 1, 4, 0, 0, 0]) running) = some running ∧
    (runs (received (requestBytes ⟨2, 0x04, []⟩)) running) = some running := by decide +kernel

theorem test_witness_BusyPortHoldsOneRequest :
    (let f : Frame := ⟨0, 0x03, [0, 0, 0, 9]⟩
     f.payload.length ≤ 240 ∧ f.address = 0 ∧ State.reset.line.state = .init) ∧
    (let f : Frame := ⟨0, 0x04, []⟩
     f.address = 0 ∧ running.line.state ≠ .init ∧ f.code ≠ 0x03 ∧ f.code ≠ 0x11) ∧
    (let f : Frame := ⟨0, 0x11, [0, 1]⟩
     let s := withPort running (.preparing ok 0)
     s.link.port = .preparing ok 0 ∧ f.address = 0 ∧ s.line.state ≠ .init ∧ f.code = 0x11 ∧ f.payload.length = 2 ∧
      s.link.held = none) ∧
    (let f : Frame := ⟨1, 0x04, List.replicate 240 0⟩
     let s := withPort State.reset (.preparing ok 0)
     f.payload.length ≤ 240 ∧ s.link.port = .preparing ok 0 ∧ f.address ≠ 0 ∧ f.address.toNat = s.link.address.toNat ∧
      s.link.held = none) ∧
    (let f : Frame := ⟨0, 0x04, []⟩
     let s : State := { State.reset with link := { State.reset.link with port := .preparing ok 1, held := some f } }
     s.link.port = .preparing ok 1 ∧ s.link.held = some f) ∧
    ((withPort running (.sending ok)).link.port = .sending ok) ∧
    ((2 : Byte) ≠ 0 ∧ (2 : Byte).toNat ≠ State.reset.link.address.toNat) ∧ requestLength 0x06 = none := by decide +kernel

/-- R193: while a reply is prepared a broadcast LINE HOLD is held, one with 3 bytes or one received in INIT is not. -/
theorem test_ignored_broadcast_is_not_held :
    (after (exec (.frameHeldPending ⟨0, 0x11, [0, 1]⟩) (withPort running (.preparing ok 0)))).link.held = some ⟨0, 0x11, [0, 1]⟩ ∧
    (after (exec (.frameHeldPending ⟨0, 0x11, [0, 1, 2]⟩) (withPort running (.preparing ok 0)))).link.held = none ∧
    (after (exec (.frameHeldPending ⟨0, 0x11, [0, 1]⟩) (withPort State.reset (.preparing ok 0)))).link.held = none := by
  decide +kernel

theorem test_witness_PartLevelRequests : running.line.state ≠ .init := by decide +kernel

/-! ### Line requests -/

theorem test_witness_LineStartStartsEveryZone :
    (let s := bench .cold .off .off
     ModeLaw s ∧ ArbiterLaw s ∧ s.zones ≠ [] ∧ s.line.state = .cold ∧ s.openLot = some (Lot.new 7101 2 0) ∧
      s.profile 2 = some profile ∧ ∃ e ∈ s.table, e ≠ 0) ∧
    (let s := bench .shutdown .failed .purging
     ModeLaw s ∧ ArbiterLaw s ∧ s.zones ≠ [] ∧ s.line.state = .shutdown ∧ s.openLot = some (Lot.new 7101 2 0) ∧
      s.profile 2 = some profile ∧ ∃ e ∈ s.table, e ≠ 0) :=
  ⟨⟨modeCheck_sound _ (by decide +kernel), arbiterCheck_sound _ (by decide +kernel), by decide +kernel⟩,
   ⟨modeCheck_sound _ (by decide +kernel), arbiterCheck_sound _ (by decide +kernel), by decide +kernel⟩⟩

theorem test_witness_LineRequestsAreRefused :
    (running.line.state ≠ .init ∧ running.line.state ≠ .cold ∧ running.line.state ≠ .shutdown ∧ running.line.state ≠ .hold) ∧
    (let s : State := { bench .cold .off .off with lots := List.replicate 16 none }
     s.line.state ≠ .init ∧ s.line.state = .cold ∧ s.openLot = none ∧ s.line.state ≠ .starting ∧ s.line.state ≠ .running ∧
      s.line.state ≠ .hold ∧ s.line.state ≠ .runOut) ∧
    (let s : State := { bench .cold .off .off with lots := some (Lot.new 7101 7 0) :: List.replicate 15 none }
     let t : State := { s with store := { s.store with slots := List.replicate 8 .corrupt } }
     t.openLot = some (Lot.new 7101 7 0) ∧ t.profile 7 = none) ∧
    (let s : State := { bench .shutdown .off .off with table := List.replicate 168 0 }
     s.line.state = .shutdown ∧ s.openLot = some (Lot.new 7101 2 0) ∧ (s.profile 2).isSome = true ∧ ∀ e ∈ s.table, e = 0) ∧
    (let s := chainIn running .pre .jammed
     s.line.state = .running ∧ s.preSeq.state = .jammed) := by decide +kernel

theorem test_witness_HoldsMoveTheZonesByTheMask :
    (let s := bench .starting .waiting .ramping
     ArbiterLaw s ∧ s.store.layout = some tiny ∧ s.line.state = .starting) ∧
    (let s := bench .running .conditioned .economy
     ArbiterLaw s ∧ s.store.layout = some tiny ∧ s.line.state = .running) ∧
    (let s := bench .runOut .purging .failed
     ArbiterLaw s ∧ s.store.layout = some tiny ∧ s.line.state = .runOut) :=
  ⟨⟨arbiterCheck_sound _ (by decide +kernel), by decide +kernel⟩, ⟨arbiterCheck_sound _ (by decide +kernel), by decide +kernel⟩,
   ⟨arbiterCheck_sound _ (by decide +kernel), by decide +kernel⟩⟩

theorem test_witness_LineReleaseRampsTheZonesAgain :
    (let s := bench .hold .holding .purging
     ModeLaw s ∧ ArbiterLaw s ∧ s.zones ≠ [] ∧ s.line.state = .hold) ∧
    (let s := bench .hold .off .failed
     ModeLaw s ∧ ArbiterLaw s ∧ s.zones ≠ [] ∧ s.line.state = .hold) :=
  ⟨⟨modeCheck_sound _ (by decide +kernel), arbiterCheck_sound _ (by decide +kernel), by decide +kernel⟩,
   ⟨modeCheck_sound _ (by decide +kernel), arbiterCheck_sound _ (by decide +kernel), by decide +kernel⟩⟩

/-- A rod on main position 0 of a line in a state. -/
def loaded (line : LineState) (a b : ZoneState) : State :=
  let s := bench line a b
  { s with
    rods := [rod 1 (.main 0)]
    mainChain := [some 1, none, none]
    lots := some { Lot.new 7101 2 0 with born := 1, inTrain := 1 } :: List.replicate 15 none }

theorem test_witness_LineRunOutClosesTheLot :
    (let s := loaded .running .economy .conditioned
     ArbiterLaw s ∧ (s.store.layout = some tiny ∧ s.line.state = .running ∧ s.preSeq.state ≠ .jammed ∧ s.mainSeq.state ≠ .jammed ∧
      s.openSlot = some 0 ∧ s.lot 0 = some { Lot.new 7101 2 0 with born := 1, inTrain := 1 } ∧ s.runOutCondition 0 = true ∧
      s.runOutCondition 1 = false) ∧ (zoneIn .economy).state.moving) ∧
    (ArbiterLaw running ∧ running.line.state = .running ∧ running.trainEmpty = true ∧ running.openSlot = some 0 ∧
      running.lot 0 = some (Lot.new 7101 2 0) ∧ (Lot.new 7101 2 0).inTrain = 0) ∧
    (let s : State := { loaded .running .off .conditioned with lots := List.replicate 16 none }
     ArbiterLaw s ∧ s.line.state = .running ∧ s.openSlot = none) :=
  ⟨⟨arbiterCheck_sound _ (by decide +kernel), by decide +kernel, Or.inr (Or.inr (Or.inr rfl))⟩,
   ⟨arbiterCheck_sound _ (by decide +kernel), by decide +kernel⟩, ⟨arbiterCheck_sound _ (by decide +kernel), by decide +kernel⟩⟩

theorem test_witness_LineShutdownPurgesTheZones :
    (let s := bench .starting .ramping .purging
     ArbiterLaw s ∧ s.line.state = .starting) ∧
    (let s := bench .hold .holding .failed
     ArbiterLaw s ∧ s.line.state = .hold) ∧
    (let s := bench .runOut .off .conditioned
     ArbiterLaw s ∧ s.line.state = .runOut) :=
  ⟨⟨arbiterCheck_sound _ (by decide +kernel), by decide +kernel⟩, ⟨arbiterCheck_sound _ (by decide +kernel), by decide +kernel⟩,
   ⟨arbiterCheck_sound _ (by decide +kernel), by decide +kernel⟩⟩

/-! ### Zones -/

theorem test_witness_ZoneRestartLeavesFailed :
    (let s : State := { State.reset with line := { State.reset.line with state := .unconfigured, phase := none } }
     s.line.state ≠ .init ∧ s.line.state = .unconfigured) ∧
    (running.line.state ≠ .init ∧ running.line.state ≠ .unconfigured ∧ running.zones.length ≤ (2 : Byte).toNat ∧
      running.zones[(1 : Byte).toNat]? = some (zoneIn .conditioned) ∧ (zoneIn .conditioned).state ≠ .failed) ∧
    (let s := bench .hold .failed .holding
     s.line.state = .hold ∧ s.zones[(0 : Byte).toNat]? = some (zoneIn .failed) ∧ (zoneIn .failed).state = .failed) ∧
    (let s := bench .starting .conditioned .failed
     ArbiterLaw s ∧ s.store.layout = some tiny ∧ s.line.state = .starting ∧ s.zones[(1 : Byte).toNat]? = some (zoneIn .failed)) ∧
    (let s := loaded .runOut .purging .failed
     ArbiterLaw s ∧ s.store.layout = some tiny ∧ s.line.state = .runOut ∧ s.runOutCondition (1 : Byte).toNat = false ∧
      s.trainEmpty = false ∧ s.zones[(1 : Byte).toNat]? = some (zoneIn .failed)) ∧
    (let s := bench .runOut .failed .off
     ArbiterLaw s ∧ s.store.layout = some tiny ∧ s.line.state = .runOut ∧ s.runOutCondition (0 : Byte).toNat = true ∧
      s.zones[(0 : Byte).toNat]? = some (zoneIn .failed)) :=
  ⟨by decide +kernel, by decide +kernel, by decide +kernel, ⟨arbiterCheck_sound _ (by decide +kernel), by decide +kernel⟩,
   ⟨arbiterCheck_sound _ (by decide +kernel), by decide +kernel⟩, ⟨arbiterCheck_sound _ (by decide +kernel), by decide +kernel⟩⟩

theorem test_witness_ZonesTileTheChains : layoutFault least = none ∧ least.positions.length = 10 ∧
    (19 < least.preCount ∧ ¬ 20 < least.preCount) ∧ (99 < least.mainCount ∧ ¬ 100 < least.mainCount) ∧
    least.zoneHas 0 (.pre 19) = true ∧ least.zoneHas 1 (.main 0) = true ∧ least.zoneHas 1 (.main 99) = true := by decide +kernel

/-- A zone state with a running tick timer. -/
def ticking (st : ZoneState) : Zone := { zoneIn st with tickTimer := some 0 }

theorem test_witness_ZoneTickAccountsTheZonesRods :
    (running.zones[9]? = none ∧ running.zones[0]? = some (zoneIn .conditioned) ∧ (zoneIn .conditioned).tickTimer = none) ∧
    (let s := fresh { running with zones := [ticking .conditioned, ticking .holding] } 580 780
     s.zones[0]? = some (ticking .conditioned) ∧ (ticking .conditioned).tickTimer.isSome = true ∧ s.store.layout = some tiny ∧
      (ticking .conditioned).governing = some { profile := 2, entry := entry } ∧ s.blind 0 = false ∧
      (s.probe 0).reading = some (reading 580 780)) ∧
    (let s : State := { running with zones := [ticking .conditioned, ticking .off] }
     s.zones[1]? = some (ticking .off) ∧ s.blind 1 = true ∧ (ticking .off).state ≠ .conditioned ∧
      (ticking .off).state ≠ .holding) := by decide +kernel

/-- A CONDITIONED zone whose economy timer has run its time. -/
def idleZone : Zone := { zoneIn .conditioned with economyTimer := some 0 }

theorem test_witness_EconomyTimerExpiry :
    (running.zones[0]? = some (zoneIn .conditioned) ∧ running.store.layout = some tiny ∧
      (zoneIn .conditioned).governing = some { profile := 2, entry := entry } ∧ (zoneIn .conditioned).economyTimer = none) ∧
    ((loaded .running .economy .conditioned).zones[0]? = some (zoneIn .economy) ∧ (zoneIn .economy).state ≠ .conditioned) ∧
    (let s : State := { running with zones := [idleZone, idleZone], landing := [1] }
     s.zones[0]? = some idleZone ∧ idleZone.state = .conditioned ∧ idleZone.economyTimer.isSome = true ∧
      s.wakeCondition 0 = true ∧ s.zones[1]? = some idleZone ∧ s.wakeCondition 1 = false ∧ s.blind 1 = true) ∧
    (let s := fresh { running with zones := [idleZone, idleZone] } 425 0
     s.wakeCondition 0 = false ∧ s.blind 0 = false ∧ (s.probe 0).reading = some (reading 425 0) ∧ (425 : Int) ≤ 580 - 150 - 5) ∧
    (let s := fresh { running with zones := [idleZone, idleZone] } 430 0
     s.blind 0 = false ∧ (s.probe 0).reading = some (reading 430 0) ∧ (580 : Int) - 150 ≤ 430) ∧
    (let s := fresh { running with zones := [idleZone, idleZone] } 426 0
     s.blind 0 = false ∧ (s.probe 0).reading = some (reading 426 0) ∧ (580 : Int) - 150 - 5 < 426 ∧ (426 : Int) < 580 - 150) := by
  decide +kernel

theorem test_witness_RampLimitFailsTheZone :
    (running.zones[0]? = some (zoneIn .conditioned) ∧ (zoneIn .conditioned).state ≠ .ramping ∧ running.line.state ≠ .runOut) ∧
    (let s := bench .runOut .off .purging
     s.zones[1]? = some (zoneIn .purging) ∧ (zoneIn .purging).state ≠ .ramping ∧ s.line.state = .runOut) ∧
    (let s := bench .starting .ramping .waiting
     s.zones[0]? = some (zoneIn .ramping) ∧ ArbiterLaw s ∧ s.store.layout = some tiny ∧ (zoneIn .ramping).state = .ramping) :=
  ⟨by decide +kernel, by decide +kernel, by decide +kernel, arbiterCheck_sound _ (by decide +kernel), by decide +kernel⟩

/-- A PURGING zone with start pending. -/
def pendingZone : Zone := { zoneIn .purging with startPending := true }

theorem test_witness_PurgeTimerEndsThePurge :
    (running.zones[0]? = some (zoneIn .conditioned) ∧ (zoneIn .conditioned).state ≠ .purging ∧ running.line.state ≠ .runOut) ∧
    (let s := bench .shutdown .purging .off
     s.zones[0]? = some (zoneIn .purging) ∧ (zoneIn .purging).state = .purging ∧ (zoneIn .purging).startPending = false ∧
      s.line.state ≠ .runOut) ∧
    (let s : State := { bench .starting .purging .ramping with zones := [pendingZone, zoneIn .ramping] }
     ArbiterLaw s ∧ s.store.layout = some tiny ∧ s.zones[0]? = some pendingZone ∧ pendingZone.state = .purging ∧
      pendingZone.startPending = true ∧ s.line.state ≠ .runOut) ∧
    (let s : State := { bench .runOut .purging .off with zones := [pendingZone, zoneIn .off] }
     ArbiterLaw s ∧ s.zones[0]? = some pendingZone ∧ s.line.state = .runOut ∧ s.runOutCondition 0 = true) ∧
    (let s : State := { loaded .runOut .off .purging with zones := [zoneIn .off, pendingZone] }
     ArbiterLaw s ∧ s.zones[1]? = some pendingZone ∧ s.line.state = .runOut ∧ s.runOutCondition 1 = false) ∧
    (let s := bench .runOut .off .purging
     s.zones[1]? = some (zoneIn .purging) ∧ s.line.state = .runOut ∧ s.trainEmpty = true ∧ s.preSeq.state = .stopped ∧
      s.mainSeq.state = .stopped ∧ s.zones[0]? = some (zoneIn .off) ∧ s.zones.length = 2) :=
  ⟨by decide +kernel, by decide +kernel, ⟨arbiterCheck_sound _ (by decide +kernel), by decide +kernel⟩,
   ⟨arbiterCheck_sound _ (by decide +kernel), by decide +kernel⟩, ⟨arbiterCheck_sound _ (by decide +kernel), by decide +kernel⟩,
   by decide +kernel⟩

theorem test_witness_SpacingExpiryGrantsOneHead :
    (running.store.layout = some tiny ∧ running.arbiter.spacing = none) ∧
    (let s : State := { running with arbiter := { running.arbiter with spacing := some 0 } }
     s.arbiter.spacing.isSome = true ∧ s.arbiter.queue = []) ∧
    (let b := bench .starting .ramping .waiting
     let s : State := { b with arbiter := { b.arbiter with spacing := some 0 } }
     s.arbiter.spacing.isSome = true ∧ tiny.rampSlots ≤ s.slotsInUse) ∧
    (let b := bench .starting .waiting .waiting
     let s : State := { b with arbiter := { b.arbiter with spacing := some 0 } }
     (s.arbiter.spacing.isSome = true ∧ s.arbiter.queue = 0 :: [1] ∧ s.slotsInUse < tiny.rampSlots ∧ 0 < tiny.rampSpacing ∧
      s.zones[0]? = some (zoneIn .waiting) ∧ s.blind 0 = true) ∧
     (fresh s 570 790).blind 0 = false ∧ ((fresh s 570 790).probe 0).reading = some (reading 570 790)) ∧
    (∀ slots, slots = 1 ∨ slots = 2 →
     let b := bench .starting .waiting .waiting
     let l : Layout := { tiny with rampSpacing := 0, rampSlots := slots }
     let s : State := fresh { b with arbiter := { b.arbiter with spacing := some 0 }, store := { b.store with layout := some l } } 570 790
     ArbiterLaw s ∧ s.store.layout = some l ∧ s.arbiter.spacing.isSome = true ∧ l.rampSpacing = 0 ∧ s.arbiter.queue ≠ [] ∧
      s.slotsInUse < l.rampSlots ∧ s.blind 0 = false ∧
      (1 ∈ s.arbiter.queue.take (min s.arbiter.queue.length (l.rampSlots - s.slotsInUse)) ↔ slots = 2)) := by
  refine ⟨by decide +kernel, by decide +kernel, by decide +kernel, by decide +kernel, ?_⟩
  rintro slots (rfl | rfl) <;> exact ⟨arbiterCheck_sound _ (by decide +kernel), by decide +kernel⟩
/-! ### Probe bus, readings and reads -/

/-- What a probe clocks out for a temperature, a humidity and a status byte, with a right check byte. -/
def probeAnswer (th tl hh hl st : Byte) : ProbeReply := ⟨th, tl, hh, hl, st, th ^^^ tl ^^^ hh ^^^ hl ^^^ st⟩

/-- R154 at its edges: −40.0 and 150.0 °C are valid, the next values are not; 105.0 % is clamped, 105.1 % is not valid. -/
theorem test_poll_verdicts : judgePoll (some (probeAnswer 0xFE 0x70 0x03 0xE8 0)) = .valid (-400) 1000 false ∧
    judgePoll (some (probeAnswer 0xFE 0x6F 0x03 0xE8 0)) = .miss .rangeT ∧
    judgePoll (some (probeAnswer 0x05 0xDC 0x04 0x1A 0)) = .valid 1500 1000 true ∧
    judgePoll (some (probeAnswer 0x05 0xDD 0x04 0x1A 0)) = .miss .rangeT ∧
    judgePoll (some (probeAnswer 0x05 0xDC 0x04 0x1B 0)) = .miss .rangeH ∧
    judgePoll (some (probeAnswer 0x05 0xDC 0x03 0xE9 1)) = .miss .sensor ∧
    judgePoll (some { probeAnswer 0 0 0 0 0 with check := 1 }) = .miss .check := by decide +kernel

/-- A state with a poll of a probe in flight. -/
def polling (s : State) (i : Nat) : State := { s with probeBus := { s.probeBus with inFlight := some i } }

/-- The start-up scan of a part with two zones, with the poll of a probe at a slot in flight. -/
def scanning (slot i : Nat) : State :=
  let s := bench .init .off .off
  { s with
    line := { s.line with phase := some .probeScan }
    probeBus := { s.probeBus with inFlight := some i, nextSlot := slot } }

theorem test_witness_PollsAreJudgedAndMissesCounted :
    (let p := probeAnswer 0x02 0x44 0x03 0x0C 0
     p.check = p.tempHigh ^^^ p.tempLow ^^^ p.humHigh ^^^ p.humLow ^^^ p.status ∧ p.status.getLsbD 0 = false) ∧
    (running.configured.contains 10 = true ∧ running.configured.contains 1 = true ∧ running.configured.contains 2 = false ∧
      running.probeBus.records[10]? = some Probe.atReset ∧ judgePoll none = .miss .noAck ∧ running.probeBus.inFlight = none ∧
      (polling running 10).probeBus.inFlight = some 10 ∧ (polling running 2).probeBus.inFlight = some 2) ∧
    (let p : Probe := { Probe.atReset with misses := 2 }
     let s := polling (running.modProbe 1 fun _ => p) 1
     s.probeBus.records[1]? = some p ∧ s.configured.contains 1 = true ∧ s.probeBus.inFlight = some 1) ∧
    (let s := polling { running with probeBus := { running.probeBus with roundOnStop := true } } 2
     s.configured.contains 2 = false ∧ s.probeBus.roundOnStop = true) ∧
    ((scanning 0 0).probeBus.inFlight = some 0 ∧ (scanning 0 0).configured.contains 0 = true ∧
      (scanning 0 0).probeBus.records[0]? = some Probe.atReset ∧
      (scanning 0 0).probeBus.nextSlot + 1 < (scanning 0 0).configured.length) ∧
    ((scanning 2 10).probeBus.inFlight = some 10 ∧ (scanning 2 10).configured.contains 10 = true ∧
      ¬ (scanning 2 10).probeBus.nextSlot + 1 < (scanning 2 10).configured.length) := by decide +kernel

/-- The hypotheses that the clauses of the reading's statement share, for zone 0 in a state. -/
def readingReady (b : State) (zn : Zone) (reply : ProbeReply) (t : Int) (h : Nat) : Prop :=
  let s := polling { b with zones := [zn, zoneIn .off] } 0
  ArbiterLaw s ∧ s.probeBus.inFlight = some 0 ∧ s.configured.contains 0 = true ∧
    s.probeBus.records[0]? = some Probe.atReset ∧ s.store.layout = some tiny ∧ s.zones[0]? = some zn ∧
    judgePoll (some reply) = .valid t h false

/-- One witness per clause: the hall probe; in band and out of band while RAMPING, in and out of band in CONDITIONED and in HOLDING; ECONOMY;
a zone without a governing profile; a state that only records; the last zone of STARTING; the start-up scan. -/
theorem test_witness_ReadingsMoveTheZone :
    (let s := polling running 10
     ArbiterLaw s ∧ s.probeBus.inFlight = some 10 ∧ s.configured.contains 10 = true ∧
      s.probeBus.records[10]? = some Probe.atReset) ∧
    (readingReady running (zoneIn .ramping) (probeAnswer 0x02 0x58 0x03 0x2A 0) 600 810 ∧
      entry.InBand .ramping (reading 600 810) ∧ (zoneIn .ramping).governing = some { profile := 2, entry := entry }) ∧
    (readingReady running (zoneIn .ramping) (probeAnswer 0x02 0x59 0x03 0x0D 0) 601 781 ∧ ¬ entry.InBand .ramping (reading 601 781)) ∧
    (readingReady running (zoneIn .conditioned) (probeAnswer 0x02 0x30 0x02 0xEE 0) 560 750 ∧
      entry.InBand .conditioned (reading 560 750)) ∧
    (readingReady running { zoneIn .conditioned with latch := true } (probeAnswer 0x02 0x41 0x02 0xED 0) 577 749 ∧
      ¬ entry.InBand .conditioned (reading 577 749)) ∧
    (readingReady (bench .hold .holding .off) (zoneIn .holding) (probeAnswer 0x01 0x18 0x02 0xDA 0) 280 730 ∧
      entry.InBand .holding (reading 280 730)) ∧
    (readingReady (bench .hold .holding .off) { zoneIn .holding with latch := true } (probeAnswer 0x01 0x17 0x02 0xDA 0) 279 730 ∧
      ¬ entry.InBand .holding (reading 279 730)) ∧
    readingReady running (zoneIn .economy) (probeAnswer 0x01 0xA9 0x03 0x2A 0) 425 810 ∧
    readingReady running (Zone.fresh 0) (probeAnswer 0x02 0x58 0x03 0x2A 0) 600 810 ∧
    readingReady (bench .shutdown .off .off) (zoneIn .purging) (probeAnswer 0x02 0x58 0x03 0x2A 0) 600 810 ∧
    (let s := polling (bench .starting .ramping .conditioned) 0
     ArbiterLaw s ∧ s.zones[0]? = some (zoneIn .ramping) ∧ s.zones[1]? = some (zoneIn .conditioned)) ∧
    (ArbiterLaw (scanning 1 1) ∧ (scanning 1 1).probeBus.inFlight = some 1 ∧ (scanning 1 1).configured.contains 1 = true ∧
      (scanning 1 1).zones[1]? = some (zoneIn .off)) := by
  refine ⟨⟨arbiterCheck_sound _ ?_, ?_⟩, ⟨⟨arbiterCheck_sound _ ?_, ?_⟩, ⟨?_, ?_, ?_, ?_⟩, ?_⟩,
    ⟨⟨arbiterCheck_sound _ ?_, ?_⟩, fun h => absurd h.2.1 ?_⟩, ⟨⟨arbiterCheck_sound _ ?_, ?_⟩, ⟨?_, ?_, ?_, ?_⟩⟩,
    ⟨⟨arbiterCheck_sound _ ?_, ?_⟩, fun h => absurd h.2.2.1 ?_⟩, ⟨⟨arbiterCheck_sound _ ?_, ?_⟩, ⟨?_, ?_, ?_, ?_⟩⟩,
    ⟨⟨arbiterCheck_sound _ ?_, ?_⟩, fun h => absurd h.1 ?_⟩, ⟨arbiterCheck_sound _ ?_, ?_⟩, ⟨arbiterCheck_sound _ ?_, ?_⟩,
    ⟨arbiterCheck_sound _ ?_, ?_⟩, ⟨arbiterCheck_sound _ ?_, ?_⟩, ⟨arbiterCheck_sound _ ?_, ?_⟩⟩ <;> decide +kernel

theorem test_witness_ZoneChainAndCaptureReplies :
    (let s : State := { State.reset with line := { State.reset.line with state := .unconfigured, phase := none } }
     s.line.state ≠ .init ∧ s.line.state = .unconfigured ∧ s.capture.channels.length = 6) ∧
    (running.line.state ≠ .init ∧ running.line.state ≠ .unconfigured ∧ running.zones.length ≤ (2 : Byte).toNat ∧
      running.zones[(1 : Byte).toNat]? = some (zoneIn .conditioned) ∧ (zoneIn .conditioned).targets = some (580, some 780) ∧
      (zoneIn .economy).targets = some (430, none) ∧ (zoneIn .off).targets = none ∧ 1 < (2 : Byte).toNat) ∧
    (let s := bench .starting .waiting .waiting
     s.zones[(1 : Byte).toNat]? = some (zoneIn .waiting) ∧ (zoneIn .waiting).state = .waiting ∧
      s.arbiter.queue.findIdx? (· == 1) = some 1) := by decide +kernel

/-! ### Chains -/

/-- A latched rod. -/
def latched : Latch :=
  { number := 4294967295, hangTime := 0, cutTime := 0, counts := [0, 0, 0, 0, 0, 0], overflow := List.replicate 6 false,
    noCut := false }

/-- A state whose birth latch holds a rod. -/
def withLatch (s : State) : State := { s with capture := { s.capture with latch := some latched } }

/-- The latch free; a latched rod with no lot OPEN; a latched rod with a lot OPEN and the landing queue at 4 before the shift; and an emptied
line in RUN_OUT. -/
theorem test_witness_PreStepShiftsTheTrain :
    (let s := chainIn running .pre .stepping
     ArbiterLaw s ∧ (s.store.layout = some tiny ∧ s.preSeq.state = .stepping) ∧ ∃ t, PreShifted s t tiny) ∧
    (let s : State := { withLatch (chainIn running .pre .stepping) with lots := List.replicate 16 none }
     ArbiterLaw s ∧ (s.store.layout = some tiny ∧ s.preSeq.state = .stepping) ∧ ∃ t, PreShifted s t tiny) ∧
    (let s : State := { withLatch (chainIn running .pre .stepping) with
       landing := [1, 2, 3, 4], rods := [rod 1 (.landing 0), rod 2 (.landing 1), rod 3 (.landing 2), rod 4 (.landing 3)] }
     ArbiterLaw s ∧ (s.store.layout = some tiny ∧ s.preSeq.state = .stepping) ∧ ∃ t, PreShifted s t tiny) ∧
    (let s := chainIn (bench .runOut .purging .purging) .pre .stepping
     ArbiterLaw s ∧ (s.store.layout = some tiny ∧ s.preSeq.state = .stepping ∧ s.line.state = .runOut ∧
      s.emptyUpTo .pre = true) ∧ ∃ t, PreShifted s t tiny) := by
  refine ⟨⟨arbiterCheck_sound _ ?_, ?_, _, Or.inl ⟨?_, rfl⟩⟩, ⟨arbiterCheck_sound _ ?_, ?_, _, Or.inr (Or.inl ⟨latched, ?_, ?_, rfl⟩)⟩,
    ⟨arbiterCheck_sound _ ?_, ?_, _, Or.inr (Or.inr ⟨latched, 0, Lot.new 7101 2 0, profile, ?_, ?_, ?_, ?_, ?_, rfl⟩)⟩,
    ⟨arbiterCheck_sound _ ?_, ?_, _, Or.inl ⟨?_, rfl⟩⟩⟩ <;> decide +kernel

/-- A main-chain shift with a gap before the stripper. -/
theorem main_gap (s : State) (h : lastRod s.mainChain = none) : ∃ t, MainShifted s t :=
  ⟨_, s, fun _ => rfl, fun _ hn => absurd (h.symm.trans hn) (by simp), rfl⟩

/-- A main-chain shift with a rod before the stripper. -/
theorem main_rod (s : State) (n : Word32) (h : lastRod s.mainChain = some n) : ∃ t, MainShifted s t :=
  ⟨_, s.gradeExit n s.clock, fun hn => absurd (h.symm.trans hn) (by simp), fun m hm => by rw [Option.some.inj (h.symm.trans hm)], rfl⟩

/-- A gap before the stripper; a rod there, on HOLD; an emptied line in RUN_OUT; and a BLOCKED pre chain behind a full buffer. -/
theorem test_witness_MainStepGradesAndShifts :
    (let s := chainIn running .main .stepping
     ArbiterLaw s ∧ (s.store.layout = some tiny ∧ s.mainSeq.state = .stepping) ∧ ∃ t, MainShifted s t) ∧
    (let s : State := { chainIn (bench .hold .holding .holding) .main .stepping with
       mainChain := [none, none, some 1], rods := [rod 1 (.main 2)] }
     ArbiterLaw s ∧ (s.mainSeq.state = .stepping ∧ lastRod s.mainChain = some 1) ∧ ∃ t, MainShifted s t) ∧
    (let s := chainIn (bench .runOut .purging .purging) .main .stepping
     ArbiterLaw s ∧ (s.mainSeq.state = .stepping ∧ s.emptyUpTo .main = true) ∧ ∃ t, MainShifted s t) ∧
    (let s : State := { chainIn (chainIn running .main .stepping) .pre .blocked with buffer := [1, 2, 3, 4, 5, 6, 7, 8] }
     ArbiterLaw s ∧ (s.mainSeq.state = .stepping ∧ s.preSeq.state = .blocked ∧ s.buffer.length = 8) ∧
      ∃ t, MainShifted s t) := by
  refine ⟨⟨arbiterCheck_sound _ ?_, ?_, main_gap _ ?_⟩, ⟨arbiterCheck_sound _ ?_, ?_, main_rod _ 1 ?_⟩,
    ⟨arbiterCheck_sound _ ?_, ?_, main_gap _ ?_⟩, ⟨arbiterCheck_sound _ ?_, ?_, main_gap _ ?_⟩⟩ <;> decide +kernel

/-- An OPEN lot; a CLOSED one that keeps a rod; a CLOSED one that drains, the report queue at 190; and a full report queue. -/
theorem test_witness_ExitGradesTheRod :
    (let s : State := { running with mainChain := [none, none, some 1], rods := [rod 1 (.main 2)] }
     s.rod 1 = some (rod 1 (.main 2)) ∧ s.lot 0 = some (Lot.new 7101 2 0) ∧ s.profile 2 = some profile ∧
      s.store.layout = some tiny ∧ 1 + 1 = s.zones.length ∧ s.zones[1]? = some (zoneIn .conditioned) ∧
      (zoneIn .conditioned).governing = some { profile := 2, entry := entry } ∧
      s.reports.reports.length < 256 ∧ (Lot.new 7101 2 0).state = .opened) ∧
    (let lot (n : Nat) : Lot := { Lot.new 7101 2 0 with state := .closed, inTrain := n }
     let s (n k : Nat) : State := { running with
       rods := [rod 1 (.main 2)], lots := some (lot n) :: List.replicate 15 none
       reports := { reports := List.replicate k { sequence := 0, body := .rodScrap 1 0 .noLot 0 }, nextSequence := 0 } }
     ((s 2 191).lot 0 = some (lot 2) ∧ 1 < (lot 2).inTrain ∧ (s 2 191).reports.reports.length = 191) ∧
     ((s 1 190).lot 0 = some (lot 1) ∧ (lot 1).state = .closed ∧ (lot 1).inTrain ≤ 1 ∧
      (s 1 190).reports.reports.length < 255) ∧
     ((s 1 255).lot 0 = some (lot 1) ∧ (s 1 255).reports.reports.length = 255) ∧
     ((s 1 256).lot 0 = some (lot 1) ∧ (s 1 256).reports.reports.length = 256) ∧
     ((s 2 256).lot 0 = some (lot 2) ∧ (s 2 256).reports.reports.length = 256)) := by decide +kernel

theorem test_witness_LateStepDoneShiftsOnce :
    ∀ c, (let s := chainIn (bench .hold .holding .holding) c .jammed
      ((s.seq c).state = .jammed ∧ (s.seq c).lateApplied = false ∧ s.line.state ≠ .runOut ∧ s.notices.records.length = 20) ∧
      ArbiterLaw s ∧ s.store.layout = some tiny ∧ ∃ t, Shifted s t tiny c) := by
  intro c
  cases c
  · exact ⟨by decide +kernel, arbiterCheck_sound _ (by decide +kernel), by decide +kernel, _, Or.inl ⟨by decide +kernel, rfl⟩⟩
  · exact ⟨by decide +kernel, arbiterCheck_sound _ (by decide +kernel), by decide +kernel, main_gap _ (by decide +kernel)⟩

theorem test_witness_IntervalExpiryStepsOrBlocks :
    (running.store.layout = some tiny ∧ running.line.state ≠ .runOut ∧ (running.seq .pre).state ≠ .idle) ∧
    (let s := chainIn running .pre .idle
     (s.seq .pre).state = .idle ∧ s.takeCondition .pre = true) ∧
    (let s : State := { chainIn running .main .idle with mainChain := [none, none, some 1] }
     (s.seq .main).state = .idle ∧ s.takeCondition .main = false) ∧
    (let s := chainIn (loaded .runOut .purging .conditioned) .main .idle
     s.emptyUpTo .main = false ∧ s.trainEmpty = false) ∧
    (let s := chainIn (loaded .runOut .purging .conditioned) .pre .idle
     s.line.state = .runOut ∧ (s.seq .pre).state = .idle ∧ s.emptyUpTo .pre = true ∧ s.trainEmpty = false) ∧
    (let s := chainIn (bench .runOut .off .off) .main .idle
     s.line.state = .runOut ∧ (s.seq .main).state = .idle ∧ s.emptyUpTo .main = true ∧ (s.seq .pre).state ≠ .idle) := by decide +kernel

theorem test_witness_StepTimeoutJamsTheChain :
    (running.store.layout = some tiny ∧ (running.seq .main).state ≠ .stepping) ∧
    (let s := chainIn (bench .hold .holding .holding) .main .stepping
     (s.seq .main).state = .stepping ∧ s.line.state ≠ .running ∧ s.line.state ≠ .runOut) ∧
    (let s := chainIn running .pre .stepping
     ArbiterLaw s ∧ (s.seq .pre).state = .stepping ∧ s.line.state = .running) ∧
    (let s := chainIn (bench .runOut .purging .conditioned) .main .stepping
     ArbiterLaw s ∧ (s.seq .main).state = .stepping ∧ s.line.state = .runOut) :=
  ⟨by decide +kernel, by decide +kernel, ⟨arbiterCheck_sound _ (by decide +kernel), by decide +kernel⟩,
   ⟨arbiterCheck_sound _ (by decide +kernel), by decide +kernel⟩⟩

theorem test_witness_BlockedChainsWaitForTheirExit :
    (let s := chainIn running .main .blocked
     s.store.layout = some tiny ∧ (s.seq .main).state = .blocked ∧ (s.seq .main).blockedTimer.isSome = true ∧
      s.mainSeq.state = .blocked) ∧
    (running.mainSeq.state ≠ .blocked ∧ (running.seq .pre).blockedTimer = none) ∧
    (let s (st : ChainState) : State :=
       { chainIn (chainIn running .main st) .pre .blocked with buffer := [1, 2, 3, 4, 5, 6, 7, 8] }
     ((s .stepping).mainSeq.state = .stepping ∧ (s .stepping).preSeq.state = .blocked ∧ (s .stepping).buffer ≠ [] ∧
      (s .stepping).buffer.length ≤ 8) ∧
     (s .jammed).mainSeq.state = .jammed ∧ (s .jammed).mainSeq.lateApplied = false) := by decide +kernel

theorem test_witness_ChainClearEndsTheJam :
    (running.store.layout = some tiny ∧ running.line.state ≠ .init ∧ 1 < (2 : Byte).toNat ∧ (1 : Byte).toNat ≤ 1 ∧
      (running.seq .pre).state ≠ .jammed) ∧
    (let s : State := { State.reset with line := { State.reset.line with state := .unconfigured, phase := none } }
     s.store.layout = none ∧ s.line.state ≠ .init ∧ (s.seq .main).state ≠ .jammed) ∧
    (let s := chainIn running .main .jammed
     (s.seq .main).state = .jammed ∧ s.line.state = .running ∧ (0 : Byte).toNat ≤ 1) ∧
    (let s := chainIn (bench .hold .holding .holding) .pre .jammed
     let t := s.setSeq .pre { s.preSeq with lateApplied := true }
     ((t.seq .pre).state = .jammed ∧ (t.seq .pre).lateApplied = true ∧ t.line.state = .hold ∧
      (s.seq .pre).state = .jammed ∧ (s.seq .pre).lateApplied = false ∧ s.line.state = .hold) ∧
     ArbiterLaw s ∧ ∃ u, Shifted s u tiny .pre) ∧
    (let s := chainIn (bench .runOut .purging .purging) .main .jammed
     ((s.seq .main).state = .jammed ∧ (s.seq .main).lateApplied = false ∧ s.line.state = .runOut) ∧
     ArbiterLaw s ∧ ∃ u, Shifted s u tiny .main) :=
  ⟨by decide +kernel, by decide +kernel, by decide +kernel,
   ⟨by decide +kernel, arbiterCheck_sound _ (by decide +kernel), _, Or.inl ⟨by decide +kernel, rfl⟩⟩,
   ⟨by decide +kernel, arbiterCheck_sound _ (by decide +kernel), main_gap _ (by decide +kernel)⟩⟩

/-! ### Capture and lots -/

/-- A state whose capture unit is in a state. -/
def capturing (s : State) (st : CaptureState) : State := { s with capture := { s.capture with state := st } }

theorem test_witness_HangAndCutEdges :
    (let s : State := { running with lots := List.replicate 16 none }
     s.capture.state = .idle ∧ s.openSlot = none) ∧
    (running.capture.state = .idle ∧ running.openSlot = some 0 ∧ running.lot 0 = some (Lot.new 7101 2 0)) ∧
    (let s : State := { capturing running .hanging with landing := [5, 6, 7] }
     s.capture.state = .hanging ∧ s.numberHeld s.capture.rodCounter = false ∧ s.capture.latch = none ∧ s.openSlot = some 0 ∧
      s.lot 0 = some (Lot.new 7101 2 0) ∧ s.profile 2 = some profile ∧ s.store.layout = some tiny ∧ s.landing.length = 3 ∧
      s.zoneState 0 ≠ some .economy) ∧
    (let s := capturing (bench .running .economy .waiting) .hanging
     ArbiterLaw s ∧ s.capture.state = .hanging ∧ s.numberHeld s.capture.rodCounter = false ∧ s.capture.latch = none ∧
      s.openSlot = some 0 ∧ s.landing.length < 4 ∧ s.zoneState 0 = some .economy) ∧
    (let s : State := { capturing running .hanging with landing := [5, 6, 7, 8] }
     s.capture.state = .hanging ∧ s.numberHeld s.capture.rodCounter = false ∧ s.capture.latch = none ∧ s.openSlot = some 0 ∧
      s.lot 0 = some (Lot.new 7101 2 0) ∧ s.landing.length = 4) ∧
    (let s := withLatch (capturing running .hanging)
     s.capture.state = .hanging ∧ s.numberHeld s.capture.rodCounter = false ∧ s.capture.latch = some latched ∧
      s.openSlot = some 0 ∧ s.lot 0 = some (Lot.new 7101 2 0) ∧ s.reports.reports.length < 191) ∧
    (let s : State := { capturing running .hanging with lots := List.replicate 16 none }
     s.capture.state = .hanging ∧ s.numberHeld s.capture.rodCounter = false ∧ s.capture.latch = none ∧ s.openSlot = none ∧
      s.reports.reports.length < 191) ∧
    (let s : State := { withLatch (capturing running .hanging) with lots := List.replicate 16 none }
     s.capture.state = .hanging ∧ s.numberHeld s.capture.rodCounter = false ∧ s.capture.latch = some latched ∧ s.openSlot = none ∧
      s.reports.reports.length < 191) :=
  ⟨by decide +kernel, by decide +kernel, by decide +kernel, ⟨arbiterCheck_sound _ (by decide +kernel), by decide +kernel⟩,
   by decide +kernel, by decide +kernel, by decide +kernel, by decide +kernel⟩

/-- R27, R35, R2: a HANG in HANGING writes the ended rod out with NO_CUT and without a charge. -/
theorem test_hang_in_hanging_writes_out : (after (exec .hang (capturing running .hanging))).rods.map
    (fun r => (r.marks.noCut, r.charge)) = [(true, none)] := by decide +kernel

/-- R8: after 4,294,967,295 the next number is 1, and 0 is never issued. -/
theorem test_rod_number_wraps : (after (exec .cut { running with
    capture := { running.capture with state := .hanging, rodCounter := 4294967295 } })).capture.rodCounter = 1 := by
  decide +kernel

theorem test_witness_StrayEdgesAreIgnored :
    (running.line.state ≠ .runOut ∧ running.capture.state = .idle ∧ (running.seq .pre).state = .stopped) ∧
    (let s := bench .cold .off .off
     s.line.state ≠ .runOut ∧ s.capture.state = .disarmed) ∧
    (let s := chainIn (loaded .runOut .purging .conditioned) .main .blocked
     s.runOutDone = false ∧ (s.seq .main).state = .blocked) ∧
    (let s := chainIn (bench .hold .holding .holding) .pre .jammed
     let t := s.setSeq .pre { s.preSeq with lateApplied := true }
     (t.seq .pre).state = .jammed ∧ (t.seq .pre).lateApplied = true) ∧
    ((chainIn running .main .idle).seq .main).state = .idle := by decide +kernel

theorem test_witness_CurtainPulsesCount :
    (let s := capturing running .hanging
     s.capture.channels[5]? = some Channel.cleared ∧ s.capture.state = .hanging) ∧
    (running.capture.channels[0]? = some Channel.cleared ∧ running.capture.state ≠ .hanging) := by decide +kernel

/-- R30, R31 with prescale 4 on channel 1: the fourth pulse counts; at 1,048,575 a pulse sets the overflow flag. -/
theorem test_curtain_edges :
    (Channel.cleared.hangPulse 4).divider = 1 ∧ ({ Channel.cleared with divider := 3 }.hangPulse 4).count = 1 ∧
    ({ Channel.cleared with count := 1048575 }.hangPulse 4).overflow = true ∧
    ({ Channel.cleared with count := 1048574, divider := 3 }.hangPulse 4).overflow = false := by decide +kernel

/-- No lot of a table has an id. -/
theorem unused_id (s : State) (id : Word32) (h : s.lots.all (fun o => o.all (·.id != id)) = true) :
    ∀ i l, s.lot i = some l → l.id ≠ id := by
  intro i l hl
  simpa using all_lots s _ h i l hl

/-- A slot is the lowest free one. -/
theorem lowest_free (s : State) (slot : Nat) (h : s.lots[slot]? = some none ∧ ∀ j, j < slot → s.lots[j]? ≠ some none) :
    s.lots[slot]? = some none ∧ ∀ j, j < slot → s.lots[j]? ≠ some none := h

theorem test_witness_LotsOpenCloseAndDrain :
    (running.line.state ≠ .init ∧ running.line.state ≠ .unconfigured ∧ running.line.state ≠ .runOut ∧ (9 : Word32) ≠ 0 ∧
      7 < (8 : Byte).toNat ∧ (7 : Byte).toNat ≤ 7 ∧ (running.profile (2 : Byte).toNat).isSome = true ∧
      running.lot 0 = some (Lot.new 7101 2 0) ∧ (Lot.new 7101 2 0).id = 7101) ∧
    (let s := bench .runOut .off .purging
     s.line.state ≠ .init ∧ s.line.state = .runOut) ∧
    (let s : State := { running with store := { running.store with slots := List.replicate 8 .empty } }
     s.profile (7 : Byte).toNat = none) ∧
    (let s : State := { running with lots := List.replicate 16 (some { Lot.new 5 2 0 with state := .closed }) }
     (∀ i l, s.lot i = some l → l.id ≠ 9) ∧ ∀ l ∈ s.lots, l ≠ none) ∧
    (let s : State := { running with lots := List.replicate 15 (some { Lot.new 5 2 0 with state := .closed }) ++ [none] }
     (∀ i l, s.lot i = some l → l.id ≠ 9) ∧ (s.lots[15]? = some none ∧ ∀ j, j < 15 → s.lots[j]? ≠ some none) ∧
      s.openSlot = none) ∧
    (let s := loaded .running .economy .conditioned
     let lot : Lot := { Lot.new 7101 2 0 with born := 1, inTrain := 1 }
     (∀ i l, s.lot i = some l → l.id ≠ 9) ∧ (s.lots[1]? = some none ∧ ∀ j, j < 1 → s.lots[j]? ≠ some none) ∧
      s.openSlot = some 0 ∧ s.lot 0 = some lot ∧ 0 < lot.inTrain) ∧
    ((∀ i l, running.lot i = some l → l.id ≠ 9) ∧
      (running.lots[1]? = some none ∧ ∀ j, j < 1 → running.lots[j]? ≠ some none) ∧ running.openSlot = some 0 ∧
      (Lot.new 7101 2 0).inTrain = 0 ∧ running.reports.reports.length < 191 ∧
      ((running.lots.set 0 none)[0]? = some none ∧ ∀ j, j < 0 → (running.lots.set 0 none)[j]? ≠ some none)) ∧
    (let s : State := { running with lots := List.replicate 16 none }
     s.openLot = none) :=
  ⟨by decide +kernel, by decide +kernel, by decide +kernel,
   ⟨unused_id _ 9 (by decide +kernel), by decide +kernel⟩,
   ⟨unused_id _ 9 (by decide +kernel), by decide +kernel, by decide +kernel⟩,
   ⟨unused_id _ 9 (by decide +kernel), by decide +kernel, by decide +kernel⟩,
   ⟨unused_id _ 9 (by decide +kernel), by decide +kernel, by decide +kernel⟩, by decide +kernel⟩

/-! ### Rods, notices, reports -/

theorem test_witness_RodsLotsAndTheTrainAreRead :
    (let s := loaded .running .economy .conditioned
     let lot : Lot := { Lot.new 7101 2 0 with born := 1, inTrain := 1 }
     s.line.state ≠ .init ∧ s.line.state ≠ .unconfigured ∧ (1 : Word32) ≠ 0 ∧ s.rod 1 = some (rod 1 (.main 0)) ∧
      s.lot (rod 1 (.main 0)).lotSlot = some lot ∧ (rod 1 (.main 0)).counts.length = 6 ∧ (∀ r ∈ s.rods, r.number ≠ 2) ∧
      s.lotSlotOf 9 = none ∧ s.lotSlotOf 7101 = some 0) ∧
    (3 < (4 : Byte).toNat ∧ (3 : Byte).toNat ≤ 3 ∧ 48 < (49 : Byte).toNat ∧ (48 : Byte).toNat ≤ 48 ∧ (48 : Byte) ≠ 0) ∧
    (let s : State := { State.reset with line := { State.reset.line with state := .unconfigured, phase := none } }
     s.line.state ≠ .init ∧ s.line.state = .unconfigured) := by decide +kernel

/-- A notice unit with two pending kinds, CHAIN_JAM later than LINE_STATE. -/
def noticed : State :=
  { running with notices := { running.notices with
      records := [some ⟨2, 1, 990⟩, none, none, none, none, none, none, none, none, none, none, none, none, none, none,
        some ⟨1, 5, 900⟩, none, none, none, none] } }

theorem test_witness_NoticesAreFetchedByRank :
    running.notices.records.length = 20 ∧ noticed.notices.records.length = 20 ∧ running.line.state ≠ .init ∧
    (∀ k n, ¬ (running.notices.records[k]? = some (some n) ∧ running.noticeEnabled k = true)) ∧
    (noticed.notices.records[0]? = some (some ⟨2, 1, 990⟩) ∧ noticed.noticeEnabled 0 = true) ∧
    (∀ j m, noticed.notices.records[j]? = some (some m) ∧ noticed.noticeEnabled j = true → j ≠ 0 →
      noticeGroup j < noticeGroup 0) := by
  refine ⟨by decide +kernel, by decide +kernel, by decide +kernel, ?_, by decide +kernel, ?_⟩
  · rintro k n ⟨h, -⟩
    have := List.mem_of_getElem? h
    have h2 : ∀ o ∈ running.notices.records, o = none := by decide +kernel
    simp [h2 _ this] at this
    exact absurd (h2 _ (List.mem_of_getElem? h)) (by simp)
  · rintro j m ⟨h, -⟩ hj
    have hl : j < 20 := by
      have h20 : noticed.notices.records.length = 20 := by decide +kernel
      by_contra hn
      rw [List.getElem?_eq_none (by omega)] at h
      cases h
    have hp : ∀ i : Fin 20, i.val ≠ 0 → (noticed.notices.records[i.val]?.join).isSome = true →
        noticeGroup i.val < noticeGroup 0 := by decide +kernel
    exact hp ⟨j, hl⟩ hj (by simp [h])

theorem test_witness_ReportsQueueInOrder :
    running.line.state ≠ .init ∧ running.reports.reports.length < 256 ∧
    (let r : Report := { sequence := 0, body := .rodScrap 1 0 .noLot 0 }
     let s : State := { running with reports := { reports := List.replicate 256 r, nextSequence := 256 } }
     s.reports.reports.length = 256 ∧ s.lot 0 = some (Lot.new 7101 2 0)) ∧
    (let r : Report := { sequence := 0, body := .rodScrap 1 0 .noLot 0 }
     let s : State := { running with reports := { reports := List.replicate 191 r, nextSequence := 191 } }
     s.reports.reports.length < 256 ∧ s.reports.reports.length = 191) := by decide +kernel

/-! ### Grading and moisture: the clauses of the statements, and the spec's worked cases -/

theorem test_witness_DispositionIsTheFirstTestThatHolds :
    (let r : Rod := { rod 1 (.main 0) with marks := { Marks.empty with unconditioned := true } }
     r.marks.operator = true ∨ r.marks.unconditioned = true) ∧
    (13000 < 13001 ∧ profile.exitMax = 13000 ∧ profile.exitMin = 11500 ∧ 11499 < profile.exitMin) ∧
    (let r : Rod := { rod 1 (.main 0) with moisture := 13000, stress := 4 }
     ¬ (r.marks.operator = true ∨ r.marks.unconditioned = true) ∧ ¬ profile.exitMax < r.moisture ∧
      ¬ r.moisture < profile.exitMin ∧ profile.stressLimit < r.stress) ∧
    (let r : Rod := { rod 1 (.main 0) with moisture := 11500, stress := 3, heat := 1800 }
     ¬ profile.exitMax < r.moisture ∧ ¬ r.moisture < profile.exitMin ∧ ¬ profile.stressLimit < r.stress ∧
      ¬ r.heat < profile.minHeat ∧ r.marks = Marks.empty) := by decide +kernel

theorem test_witness_EquilibriumLookup :
    (1000 ≤ 1000 ∧ 999 < 1000) ∧ ∀ x ∈ List.replicate 168 10000, x ≤ 10000 := by decide +kernel

/-- The excerpt of the sorption table of spec/05, 0 where it gives no entry. -/
def excerpt : List Nat := (List.range 168).map fun i =>
  ([(11, 1310), (12, 1390), (31, 1180), (32, 1250), (56, 1360), (57, 1520), (58, 1720), (59, 1950), (77, 1250), (78, 1400),
    (79, 1580), (80, 1790), (108, 640), (109, 627), (167, 2400)].find? fun p => p.1 == i).elim 0 Prod.snd

/-- The table of lookups of spec/05. -/
theorem test_lookups_of_the_spec :
    equilibrium excerpt 580 780 = 16400 ∧ equilibrium excerpt 612 760 = 14360 ∧ equilibrium excerpt 599 800 = 17200 ∧
    equilibrium excerpt 600 800 = 15800 ∧ equilibrium excerpt 580 781 = 16440 ∧ equilibrium excerpt 452 530 = 12220 ∧
    equilibrium excerpt 220 550 = 13100 ∧ equilibrium excerpt 820 187 = 6310 ∧ equilibrium excerpt 1120 1000 = 24000 := by
  decide +kernel

/-- A zone's air. -/
def air (st : ZoneState) (k g : Nat) (t : Int) (h : Nat) (estimated : Bool) : ZoneAir :=
  { state := st, latch := true, profile := 2, coefficient := k, gradientLimit := g, temp := t, hum := h, estimated := estimated }

/-- A rod of a moisture, last accounted at 0. -/
def wet (m : Nat) : Rod := { rod 5311 (.pre 0) with moisture := m, heat := 0 }

/-- Cases 1 to 3 of spec/05: 44,524 without stress and with 60 heat seconds; one stress count at G = 400 and none at 476; rewetting. -/
theorem test_accounting_cases_1_to_3 :
    (let r := accountRod excerpt (air .conditioned 4096 600 580 780 false) 6000 (some 2) (some 550) (wet 45000)
     r.moisture = 44524 ∧ r.stress = 0 ∧ r.heat = 60 ∧ r.lastAccounted = 6000 ∧ r.marks = Marks.empty) ∧
    (accountRod excerpt (air .conditioned 4096 400 580 780 false) 6000 (some 2) (some 550) (wet 45000)).stress = 1 ∧
    (accountRod excerpt (air .conditioned 4096 476 580 780 false) 6000 (some 2) (some 550) (wet 45000)).stress = 0 ∧
    (accountRod excerpt (air .conditioned 4096 600 580 780 false) 6000 (some 2) (some 550) (wet 13970)).moisture = 14010 := by
  decide +kernel

/-- Cases 4 and 5 of spec/05: the clamp at the equilibrium after 3,600 s, and an OFF zone under the hall climate. -/
theorem test_accounting_cases_4_and_5 :
    (let r := accountRod excerpt (air .conditioned 6144 600 580 780 false) 500000 (some 2) (some 550) (wet 45000)
     r.moisture = 16400 ∧ r.stress = 0 ∧ r.heat = 3600) ∧
    (let r := accountRod excerpt (air .off 3072 600 220 550 true) 6000 (some 2) (some 550) (wet 30000)
     r.moisture = 29789 ∧ r.stress = 0 ∧ r.heat = 0 ∧ r.marks = { Marks.empty with unconditioned := true, estimated := true }) := by
  decide +kernel

/-- The worked charges of spec/02: 2,021 g, 3,001 g, 1 g and 2 g about the half gram, and the clamp. -/
theorem test_charges_of_the_spec :
    chargeGrams (List.replicate 6 4210) (List.replicate 6 80) = 2021 ∧
    chargeGrams [3125, 3130, 3118, 3127, 3121, 3133] (List.replicate 6 160) = 3001 ∧
    chargeGrams [1499, 0, 0, 0, 0, 0] [1, 0, 0, 0, 0, 0] = 1 ∧ chargeGrams [1500, 0, 0, 0, 0, 0] [1, 0, 0, 0, 0, 0] = 2 ∧
    chargeGrams (List.replicate 6 1048575) (List.replicate 6 65535) = 65535 := by decide +kernel

theorem test_witness_AccountingMovesTowardEquilibrium :
    (min ((99 : Word32) - 0).toNat 100 = 99 ∧ min (((99 : Word32) - 0).toNat / 100) 3600 = 0) ∧
    (let d : Int := 28600
     ((d * 4096 * 60).tdiv 14745600).natAbs ≤ d.natAbs ∧ d.natAbs < ((d * 6144 * 3600).tdiv 14745600).natAbs) := by decide +kernel

theorem test_witness_WorkingClimateTable :
    (let s := fresh running 600 790
     s.blind 0 = false ∧ (s.probe 0).reading = some (reading 600 790)) ∧
    (running.blind 0 = true ∧ running.probeFresh 10 = false) ∧
    (let s := running.modProbe hallIndex fun p => p.read (reading 220 550)
     s.blind 0 = true ∧ s.probeFresh 10 = true ∧ (s.probe 10).reading = some (reading 220 550)) ∧
    running.probeBus.records[0]? = some (running.probe 0) := by decide +kernel

/-- R95: a zone is blind at 3 misses in a row and not at 2, and in a standing bus fault. -/
theorem test_blind :
    ((fresh running 600 790).modProbe 0 fun p => { p with misses := 2 }).blind 0 = false ∧
    ((fresh running 600 790).modProbe 0 fun p => { p with misses := 3 }).blind 0 = true ∧
    ({ fresh running 600 790 with probeBus := { (fresh running 600 790).probeBus with fault := some 0 } } : State).blind 0 = true := by
  decide +kernel

/-! ### The store -/

/-- The image of `least`, written out from the table of store blocks (R198). -/
def leastBytes : List Byte :=
  [0x02, 0x01, 0x00, 0x14, 0x00, 0x64, 0x00, 0x00, 0x00, 0x00, 0x00, 0x00, 0x00, 0x00, 0x00, 0x00, 0x00, 0x00, 0x00, 0x00, 0x00, 0x00, 0x00, 0x78,
   0x00, 0x50, 0x0A, 0x00, 0x3C, 0x01, 0x00, 0x78, 0x2D, 0x05, 0x14, 0x0F, 0x00, 0x3C, 0x0C, 0x00, 0x02, 0x01, 0x04, 0x10, 0x40, 0x01, 0x01, 0x00,
   0x50, 0x00, 0x50, 0x00, 0x50, 0x00, 0x50, 0x00, 0x50, 0x00, 0x50, 0x00, 0xDC, 0x02, 0x26]

theorem test_layout_bytes : layoutImage least = leastBytes := by decide +kernel

theorem test_layout_read : layoutFault (readLayout leastBytes) = none ∧ leastBytes.length = 63 := by decide +kernel

/-- The image of `profile`, written out from the table of store blocks (R198). -/
def profileBytes : List Byte :=
  [0x41, 0x41, 0x41, 0x41, 0x41, 0x41, 0x41, 0x41, 0x41, 0x41, 0x41, 0x41, 0x00, 0x00, 0xAF, 0xC8, 0x00, 0x00, 0x2C, 0xEC, 0x00, 0x00, 0x32, 0xC8,
   0x03, 0x02, 0x26, 0x00, 0x00, 0x07, 0x08, 0x00, 0x00, 0x03, 0xE8, 0x02, 0x44, 0x03, 0x0C, 0x00, 0x14, 0x00, 0x1E, 0x10, 0x00, 0x02, 0x58, 0x01,
   0x2C, 0x02, 0xBC, 0x00, 0x96, 0x02, 0x44, 0x03, 0x0C, 0x00, 0x14, 0x00, 0x1E, 0x10, 0x00, 0x02, 0x58, 0x01, 0x2C, 0x02, 0xBC, 0x00, 0x96, 0x02,
   0x44, 0x03, 0x0C, 0x00, 0x14, 0x00, 0x1E, 0x10, 0x00, 0x02, 0x58, 0x01, 0x2C, 0x02, 0xBC, 0x00, 0x96, 0x02, 0x44, 0x03, 0x0C, 0x00, 0x14, 0x00,
   0x1E, 0x10, 0x00, 0x02, 0x58, 0x01, 0x2C, 0x02, 0xBC, 0x00, 0x96, 0x02, 0x44, 0x03, 0x0C, 0x00, 0x14, 0x00, 0x1E, 0x10, 0x00, 0x02, 0x58, 0x01,
   0x2C, 0x02, 0xBC, 0x00, 0x96, 0x02, 0x44, 0x03, 0x0C, 0x00, 0x14, 0x00, 0x1E, 0x10, 0x00, 0x02, 0x58, 0x01, 0x2C, 0x02, 0xBC, 0x00, 0x96, 0x02,
   0x44, 0x03, 0x0C, 0x00, 0x14, 0x00, 0x1E, 0x10, 0x00, 0x02, 0x58, 0x01, 0x2C, 0x02, 0xBC, 0x00, 0x96, 0x02, 0x44, 0x03, 0x0C, 0x00, 0x14, 0x00,
   0x1E, 0x10, 0x00, 0x02, 0x58, 0x01, 0x2C, 0x02, 0xBC, 0x00, 0x96, 0x02, 0x44, 0x03, 0x0C, 0x00, 0x14, 0x00, 0x1E, 0x10, 0x00, 0x02, 0x58, 0x01,
   0x2C, 0x02, 0xBC, 0x00, 0x96, 0x02, 0x44, 0x03, 0x0C, 0x00, 0x14, 0x00, 0x1E, 0x10, 0x00, 0x02, 0x58, 0x01, 0x2C, 0x02, 0xBC, 0x00, 0x96]

theorem test_profile_bytes : profileImage profile = profileBytes := by decide +kernel

theorem test_profile_read : profileFault (readProfile profileBytes) = none ∧ profileBytes.length = 215 := by decide +kernel

/-- A running job of a kind at a page. -/
def jobAt (s : State) (kind : JobKind) (block page : Nat) (image : List Byte) : State :=
  { s with store := { s.store with job := some { block := block, kind := kind, image := image, page := page } } }

/-- No lot of a table names a profile slot. -/
theorem unnamed_slot (s : State) (n : Nat) (h : s.lots.all (fun o => o.all (·.profile != n)) = true) :
    ∀ i l, s.lot i = some l → l.profile ≠ n := by
  intro i l hl
  simpa using all_lots s _ h i l hl

/-- Twenty entries at the greatest value and one above it. -/
def highLast : List (BitVec 16) := List.replicate 20 10000 ++ [10001]

theorem high_first (j : Nat) (w : BitVec 16) (hj : j < 20) (h : highLast[j]? = some w) : w.toNat ≤ 10000 := by
  have hm : w ∈ List.replicate 20 (10000 : BitVec 16) := by
    rw [highLast, List.getElem?_append_left (by simpa using hj)] at h
    exact List.mem_of_getElem? h
  rw [List.eq_of_mem_replicate hm]
  simp

theorem test_witness_WritingRequestsStartAJob :
    (running.line.state ≠ .init ∧ running.line.state ≠ .cold ∧ running.line.state ≠ .unconfigured ∧ 7 < (8 : Byte).toNat ∧
      (7 : Byte).toNat ≤ 7 ∧ running.store.job = none) ∧
    (profileFault (readProfile profileBytes) = none ∧ profileBytes.length = 215 ∧
      profileFault (readProfile (List.replicate 215 0)) = some 0 ∧ running.lot 0 = some (Lot.new 7101 2 0) ∧
      (Lot.new 7101 2 0).profile = (2 : Byte).toNat) ∧
    (∀ i l, running.lot i = some l → l.profile ≠ (7 : Byte).toNat) ∧
    (jobAt running .tableWrite 9 0 []).store.job.isSome = true ∧
    (highLast.length = 21 ∧ highLast[20]? = some 10001 ∧ 10000 < (10001 : BitVec 16).toNat) ∧
    (∀ j w, j < 20 → highLast[j]? = some w → w.toNat ≤ 10000) ∧
    (∀ v ∈ List.replicate 21 (10000 : BitVec 16), v.toNat ≤ 10000) ∧
    (let s := bench .cold .off .off
     s.line.state = .cold ∧ s.store.job = none ∧ leastBytes.length = 63 ∧
      layoutFault (readLayout leastBytes) = none ∧ layoutFault (readLayout (List.replicate 63 0)) = some 0) :=
  ⟨by decide +kernel, by decide +kernel, unnamed_slot _ 7 (by decide +kernel), by decide +kernel, by decide +kernel,
   high_first, fun v hv => by rw [List.eq_of_mem_replicate hv]; simp, by decide +kernel⟩

theorem test_witness_StoreJobsCompleteOrFailWhole :
    running.store.job = none ∧
    (let j : Job := { block := 9, kind := .tableWrite, image := [], page := 6 }
     (jobAt running .tableWrite 9 6 []).store.job = some j ∧ j.page < 7 ∧ 0 < j.page) ∧
    (let j : Job := { block := 9, kind := .tableWrite, image := [], page := 7 }
     7 ≤ j.page ∧ j.kind = .tableWrite) ∧
    (let j : Job := { block := 3, kind := .profileWrite, image := [], page := 7 }
     7 ≤ j.page ∧ running.profileNamed (j.block - 1) = true) ∧
    (let j : Job := { block := 8, kind := .profileErase, image := [], page := 7 }
     7 ≤ j.page ∧ running.profileNamed (j.block - 1) = false ∧ j.block - 1 < running.store.slots.length) ∧
    (let j : Job := { block := 3, kind := .profileWrite, image := profileBytes, page := 7 }
     let s : State := { running with lots := List.replicate 16 none }
     7 ≤ j.page ∧ s.profileNamed (j.block - 1) = false ∧ (zoneIn .conditioned).governing.map Governing.profile = some (j.block - 1) ∧
      (readProfile j.image).zones[1]? = some entry) ∧
    (let j : Job := { block := 3, kind := .profileWrite, image := [], page := 0 }
     j.page = 0) ∧
    (let j : Job := { block := 0, kind := .layoutWrite, image := [], page := 7 }
     7 ≤ j.page ∧ running.line.state ≠ .cold ∧ running.line.state ≠ .unconfigured) := by decide +kernel

theorem test_witness_LayoutCompletionSetsUpTheLine :
    (let s := jobAt (bench .cold .off .off) .layoutWrite 0 7 (layoutImage least)
     ModeLaw s ∧ s.line.state = .cold ∧ s.probeBus.inFlight = none) ∧
    (let b := bench .cold .off .off
     let s := polling (jobAt { b with probeBus := { b.probeBus with fault := some 5, faultAge := 1300 } } .layoutWrite 0 7
       (layoutImage least)) 0
     ModeLaw s ∧ s.line.state = .cold ∧ s.probeBus.inFlight = some 0 ∧ s.probeBus.fault.isSome = true) ∧
    (let u : State := { State.reset with line := { State.reset.line with state := .unconfigured, phase := none } }
     let s := jobAt u .layoutWrite 0 7 (layoutImage least)
     ModeLaw s ∧ s.line.state = .unconfigured ∧ s.probeBus.inFlight = none) :=
  ⟨⟨modeCheck_sound _ (by decide +kernel), by decide +kernel⟩, ⟨modeCheck_sound _ (by decide +kernel), by decide +kernel⟩,
   ⟨modeCheck_sound _ (by decide +kernel), by decide +kernel⟩⟩

/-- R75: a running spacing timer stops when a layout with a ramp spacing of 0 is set up, and runs on under one above 0. -/
theorem test_spacing_under_a_new_layout :
    (let s : State := { bench .cold .off .off with arbiter := { queue := [], granted := true, lastGrant := 7, spacing := some 40 } }
     (s.setupLayout { tiny with rampSpacing := 0 } 9).arbiter = { queue := [], granted := true, lastGrant := 7, spacing := none } ∧
     (s.setupLayout tiny 9).arbiter = s.arbiter) := by decide +kernel

/-- R160: a fault of 1,300 ticks under a poll period of 1,200 is retried after 1,100 more, at the second period; under 1,700 after 400. -/
theorem test_recovery_wait : recoveryWait 1200 1300 = 1100 ∧ recoveryWait 1700 1300 = 400 ∧ recoveryWait 1200 1200 = 1200 := by
  decide +kernel

/-- R171, R172: page 5 of block 6 is written to address 0x52 at memory byte 512 · 6 + 64 · 5 = 3,392 = 0x0D40. -/
theorem test_page_write : (Job.pageWrite ⟨6, .profileWrite, blankImage, 5⟩).take 4 =
    [.start 0x52 .write, .sent 0x0D, .sent 0x40, .sent 0xFF] ∧
    (Job.pageWrite ⟨6, .profileWrite, blankImage, 5⟩).length = 68 := by decide +kernel

/-- R175: block 9 is read from memory byte 4,608 = 0x1200, 512 bytes with the last not acknowledged. -/
theorem test_block_read : (blockRead 9).take 4 = [.start 0x52 .write, .sent 0x12, .sent 0x00, .start 0x52 .read] ∧
    (blockRead 9).length = 517 ∧ (blockRead 9).drop 514 = [.clockedIn true, .clockedIn false, .stop] := by decide +kernel

/-- A block's last two bytes are the CRC of the rest, high byte first. -/
theorem block_crc (content : List Byte) (h : content.length ≤ 510) :
    (blockImage content).length = 512 ∧
    [(crc16 ((blockImage content).take 510) >>> 8).setWidth 8, (crc16 ((blockImage content).take 510)).setWidth 8]
      = (blockImage content).drop 510 := by
  have hp : (padTo 510 0 content).length = 510 := by simp [padTo]; omega
  have ht : (blockImage content).take 510 = padTo 510 0 content := by
    unfold blockImage
    generalize padTo 510 0 content = x at hp
    rw [← hp, List.take_left]
  have hd : (blockImage content).drop 510 = crcBytes (padTo 510 0 content) := by
    unfold blockImage
    generalize padTo 510 0 content = x at hp
    rw [← hp, List.drop_left]
  refine ⟨by unfold blockImage; rw [List.length_append, hp]; simp [crcBytes, beBytes], ?_⟩
  rw [ht, hd]
  simp only [crcBytes, beBytes, List.nil_append, List.cons_append, List.cons.injEq, and_true]
  generalize crc16 (padTo 510 0 content) = c
  constructor <;> apply BitVec.eq_of_toNat_eq <;> simp [BitVec.toNat_setWidth, BitVec.toNat_ushiftRight, Nat.shiftRight_eq_div_pow]

/-- R171: the blocks as written carry their CRC and pass their checks; the blank block is 0xFF throughout; of two blocks that differ in
the last byte one has a wrong CRC. -/
theorem test_witness_StartUpLoadsTheBlocks :
    (let bytes := blockImage leastBytes
     (bytes.length = 512 ∧
      [(crc16 (bytes.take 510) >>> 8).setWidth 8, (crc16 (bytes.take 510)).setWidth 8] = bytes.drop 510) ∧
      ¬ (∀ x ∈ bytes, x = 0xFF) ∧ layoutFault (readLayout bytes) = none) ∧
    (let bytes := blockImage profileBytes
     (bytes.length = 512 ∧
      [(crc16 (bytes.take 510) >>> 8).setWidth 8, (crc16 (bytes.take 510)).setWidth 8] = bytes.drop 510) ∧
      profileFault (readProfile bytes) = none) ∧
    (let bytes := blockImage []
     (bytes.length = 512 ∧
      [(crc16 (bytes.take 510) >>> 8).setWidth 8, (crc16 (bytes.take 510)).setWidth 8] = bytes.drop 510) ∧
      ∀ x ∈ readTable bytes, x ≤ 10000) ∧
    (let bytes : List Byte := List.replicate 512 0xFF
     bytes.length = 512 ∧ ∀ x ∈ bytes, x = 0xFF) ∧
    (∃ b : Byte, let bytes : List Byte := List.replicate 510 0 ++ [0, b]
     ¬ [(crc16 (bytes.take 510) >>> 8).setWidth 8, (crc16 (bytes.take 510)).setWidth 8] = bytes.drop 510) ∧
    (State.reset.line.state = .init ∧ State.reset.line.phase ≠ some .probeScan ∧ State.reset.store.loadBlock = 0 ∧
      State.reset.store.job = none ∧ running.line.state ≠ .init) ∧
    (∀ b, b = 1 ∨ b = 8 ∨ b = 9 →
      let s : State := { State.reset with store := { State.reset.store with loadBlock := b } }
      s.line.state = .init ∧ s.line.phase ≠ some .probeScan ∧ s.store.loadBlock = b ∧ s.store.job = none) := by
  refine ⟨⟨block_crc _ (by decide +kernel), ?_, by decide +kernel⟩, ⟨block_crc _ (by decide +kernel), by decide +kernel⟩,
    ⟨block_crc _ (by decide +kernel), by decide +kernel⟩, by decide +kernel, ?_, by decide +kernel, ?_⟩
  rotate_right
  · rintro b (rfl | rfl | rfl) <;> decide +kernel
  · intro h
    have : (blockImage leastBytes).head? = some 2 := by decide +kernel
    have h2 := h 2 (List.mem_of_head? this)
    exact absurd h2 (by decide)
  · by_contra hn
    have h0 : ∀ b : Byte, _ := fun b => not_not.mp (not_exists.mp hn b)
    have e0 := h0 0
    have e1 := h0 1
    have t (b : Byte) : (List.replicate 510 (0 : Byte) ++ [0, b]).take 510 = List.replicate 510 0 :=
      List.take_left' (List.length_replicate ..)
    have d (b : Byte) : (List.replicate 510 (0 : Byte) ++ [0, b]).drop 510 = [0, b] :=
      List.drop_left' (List.length_replicate ..)
    rw [t, d] at e0 e1
    exact absurd (e0.symm.trans e1) (by decide)

theorem test_witness_StoreAndProbeReads :
    (running.line.state ≠ .init ∧ running.table.length = 168 ∧ 7 < (8 : Byte).toNat ∧ (7 : Byte).toNat ≤ 7 ∧
      running.store.status[1 + (7 : Byte).toNat]? = some .current ∧ running.store.slots[(7 : Byte).toNat]? = some (.valid profile) ∧
      profile.name.length = 12 ∧ profile.zones.length = 10 ∧ running.store.status[9]? = some .current ∧
      running.store.status[0]? = some .current ∧ running.store.layout = some tiny ∧ tiny.positions.length = 10 ∧
      tiny.prescales.length = 6 ∧ tiny.massFactors.length = 6) ∧
    (let s : State := { State.reset with line := { State.reset.line with state := .unconfigured, phase := none } }
     s.line.state ≠ .init ∧ s.store.slots[(0 : Byte).toNat]? = some .empty ∧ s.store.layout = none) ∧
    ((0x1F : Byte).toNat < 0x20 ∧ 0x29 < (0x2A : Byte).toNat ∧ (0x2A : Byte) ≠ 0x2F ∧ 9 < 10 ∧ (0x29 : Byte).toNat = 0x20 + 9) := by
  decide +kernel

/-- A state whose probe bus master is changed. -/
def withBus (f : ProbeBus → ProbeBus) : State := { running with probeBus := f running.probeBus }

theorem test_witness_PollsFaultsAndRecovery :
    (running.store.layout = some tiny ∧ running.line.state ≠ .init ∧ running.probeBus.pollTimer = none ∧
      running.probeBus.fault = none ∧ running.probeBus.recovery = none ∧ running.probeBus.check = none ∧
      running.probeBus.roundOnStop = false) ∧
    (let s := withBus fun b => { b with pollTimer := some 0, nextSlot := 2 }
     s.probeBus.pollTimer.isSome = true ∧ s.probeBus.check = none ∧ s.probeBus.fault = none ∧ s.probeBus.inFlight = none) ∧
    (let s := withBus fun b => { b with pollTimer := some 0, inFlight := some 1 }
     s.probeBus.pollTimer.isSome = true ∧ s.probeBus.inFlight.isSome = true ∧ s.probeBus.inFlight = some 1) ∧
    (let s : State := { scanning 1 1 with probeBus := { (scanning 1 1).probeBus with inFlight := none, pollTimer := some 0 } }
     s.probeBus.pollTimer.isSome = true ∧ s.line.state = .init ∧ s.line.phase = some .probeScan ∧ s.probeBus.fault = none ∧
      s.probeBus.check = none) ∧
    (let s : State := { State.reset with line := { State.reset.line with state := .unconfigured, phase := none } }
     let t : State := { s with probeBus := { s.probeBus with pollTimer := some 0 } }
     t.probeBus.pollTimer.isSome = true ∧ t.line.state ≠ .init ∧ t.store.layout = none) ∧
    (State.reset.line.state = .init ∧ State.reset.line.phase ≠ some .probeScan) ∧
    (let s := withBus fun b => { b with inFlight := some 1, check := some .accepted, roundOnStop := true }
     s.probeBus.fault = none ∧ s.probeBus.check ≠ some .quiet ∧ s.probeBus.check ≠ some .pulse ∧ s.probeBus.inFlight ≠ none ∧
      s.probeBus.roundOnStop = true) ∧
    (let s := withBus fun b => { b with pollTimer := some 0, fault := some 5, recovery := some 0 }
     s.probeBus.pollTimer.isSome = true ∧ s.probeBus.fault.isSome = true ∧ s.probeBus.recovery.isSome = true ∧
      s.probeBus.check = none) ∧
    (let s := withBus fun b => { b with fault := some 5, recovery := some 0, check := some .quiet }
     s.probeBus.fault.isSome = true ∧ s.probeBus.recovery.isSome = true ∧ s.probeBus.check = some .quiet) := by decide +kernel

theorem test_witness_LineCheckStages :
    (running.line.state ≠ .init ∧ running.probeBus.check = none ∧ running.probeBus.check ≠ some .accepted ∧
      running.probeBus.check ≠ some .quiet ∧ running.probeBus.check ≠ some .pulse) ∧
    (let s := withBus fun b => { b with check := some .accepted }
     s.probeBus.check.isSome = true ∧ s.probeBus.check = some .accepted ∧ s.probeBus.inFlight = none) ∧
    (let s := withBus fun b => { b with check := some .quiet }
     s.probeBus.check = some .quiet ∧ s.probeBus.inFlight = none) ∧
    (let s := withBus fun b => { b with check := some .pulse }
     s.probeBus.check = some .pulse ∧ s.probeBus.inFlight = none ∧ 511 ≤ 511) := by decide +kernel

/-- R153: the poll of zone 2's probe, and of the hall probe that does not acknowledge its address. -/
theorem test_poll_transfer :
    (polling running 2).trunkTransfer true = [.start 0x22 .read, .clockedIn true, .clockedIn true, .clockedIn true, .clockedIn true,
      .clockedIn true, .clockedIn false, .stop] ∧
    (polling running 10).trunkTransfer false = [.start 0x2F .read, .stop] := by decide +kernel

/-- R160: nine clock pulses and a stop at the attempt that finds the line high. -/
theorem test_recovery_sends :
    (withBus fun b => { b with fault := some 5, recovery := some 0 }).recoverySends true = [.clockPulse, .clockPulse, .clockPulse,
      .clockPulse, .clockPulse, .clockPulse, .clockPulse, .clockPulse, .clockPulse, .stop] ∧
    (withBus fun b => { b with fault := some 5, recovery := some 0 }).recoverySends false = [] := by decide +kernel

/-- R162: the quiet command goes to the general address, which every node takes. -/
theorem test_quiet_command : (quietTransfer.head? = some (.start 0x00 .write)) ∧ quietTransfer.length = 3 := ⟨rfl, rfl⟩

/-! ### The laws: a part on HOLD with one rod on the landing queue meets them all and takes a step -/

/-- A line on HOLD with the least layout, one rod on the landing queue and a byte gap commanded. -/
def carried : State :=
  let s := bench .hold .holding .purging
  { s with
    store := { s.store with layout := some least }
    preChain := List.replicate 20 none
    mainChain := List.replicate 100 none
    landing := [1]
    rods := [rod 1 (.landing 0)]
    lots := some { Lot.new 7101 2 0 with born := 1, inTrain := 1 } :: List.replicate 15 none
    pending := [.byteGap] }

theorem carried_modes : ModeLaw carried := modeCheck_sound _ (by decide +kernel)

theorem carried_capacities : CapacityLaw carried := by
  refine ⟨by decide +kernel, by decide +kernel, by decide +kernel, by decide +kernel, ?_⟩
  intro h
  have hs : carried.preSeq.state = .stopped := by decide +kernel
  rcases h with h | ⟨h, -⟩ <;> rw [hs] at h <;> cases h

theorem carried_arbiter : ArbiterLaw carried := arbiterCheck_sound _ (by decide +kernel)

theorem carried_spacing : SpacingLaw carried := ⟨fun _ => by decide +kernel, fun _ _ _ => by decide +kernel⟩

theorem carried_train : TrainLaw carried := by
  refine ⟨by decide +kernel, ?_, ?_, ?_, ?_, ?_, ?_, ?_⟩
  · intro l hl
    have : carried.capture.latch = none := by decide +kernel
    rw [this] at hl; cases hl
  · intro r hr
    rw [show r = rod 1 (.landing 0) from by simpa [carried] using hr]
    decide +kernel
  · intro loc n h
    refine ⟨rod 1 (.landing 0), by simp [carried], ?_⟩
    cases loc with
    | landing i =>
      cases i with
      | zero =>
        have : (1 : Word32) = n := by simpa [State.rodAt, carried] using h
        exact ⟨this, rfl⟩
      | succ i => simp [State.rodAt, carried] at h
    | pre p =>
      have hg : carried.preChain = List.replicate 20 none := rfl
      rw [State.rodAt, hg, List.getElem?_replicate] at h
      split at h <;> simp at h
    | buffer i => simp [State.rodAt, carried, bench, State.reset] at h
    | main q =>
      have hg : carried.mainChain = List.replicate 100 none := rfl
      rw [State.rodAt, hg, List.getElem?_replicate] at h
      split at h <;> simp at h
  · intro l hl
    rw [show l = least from by simpa [carried] using hl.symm]
    decide +kernel
  · intro _ _; decide +kernel
  · intro h
    have hs : carried.line.state = .hold := by decide +kernel
    rcases h with h | h | h <;> rw [hs] at h <;> cases h
  · intro j hj; exact absurd hj (by simp [carried, bench, Store.atReset])

theorem carried_lots : LotLaw carried := by
  have hl : ∀ i l, carried.lot i = some l → i = 0 ∧ l = { Lot.new 7101 2 0 with born := 1, inTrain := 1 } := by
    intro i l h
    cases i with
    | zero => exact ⟨rfl, by simpa [State.lot, carried] using h.symm⟩
    | succ i =>
      simp only [State.lot, carried, List.getD_eq_getElem?_getD, List.getElem?_cons_succ, List.getElem?_replicate] at h
      split at h <;> simp at h
  refine ⟨?_, ?_, ?_, ?_⟩
  · intro i j a b ha hb _
    rw [(hl i a ha).1, (hl j b hb).1]
  · intro i l h
    obtain ⟨rfl, rfl⟩ := hl i l h
    unfold State.lotBalanced State.liveRods
    decide +kernel
  · intro i l h _
    obtain ⟨rfl, rfl⟩ := hl i l h
    decide +kernel
  · decide +kernel

theorem carried_rods : carried.rodNumbers = [1] := by decide +kernel

theorem carried_order : OrderLaw carried := by
  refine ⟨by decide +kernel, ?_, ?_⟩ <;> rw [carried_rods]
  · simp
  · exact List.pairwise_singleton _ _

theorem test_witness_the_laws : ModeLaw carried ∧ CapacityLaw carried ∧ ArbiterLaw carried ∧ SpacingLaw carried ∧ TrainLaw carried ∧
    LotLaw carried ∧ OrderLaw carried ∧ carried.capture.state ≠ .hanging ∧ carried.numberHeld 2 = false ∧ ∃ t, step carried = .next t :=
  ⟨carried_modes, carried_capacities, carried_arbiter, carried_spacing, carried_train, carried_lots, carried_order, by decide +kernel,
   by decide +kernel, _, rfl⟩

/-! ## One step each, against the spec's rules -/

/-- The five line states that a taken line request leads to, as the reply gives them (R138), and the broadcast without one. -/
theorem test_line_requests :
    (after (exec .lineStart (bench .cold .off .off))).line.state = .starting ∧
    (after (exec (.lineHold 1) running)).line.state = .hold ∧
    (after (exec .lineRelease (bench .hold .holding .holding))).line.state = .starting ∧
    (after (exec .lineShutdown running)).line.state = .shutdown ∧
    (after (exec (.broadcastLineHold 0) running)).line.holdMask = 2 := by decide +kernel

/-- R146, R147: a run-out of an empty line with every zone CONDITIONED purges both zones and waits for them in RUN_OUT. -/
theorem test_run_out_of_an_empty_line :
    (after (exec .lineRunOut running)).line.state = .runOut ∧
    (after (exec .lineRunOut running)).zones.map (·.state) = [.purging, .purging] ∧
    (after (exec .lineRunOut running)).openSlot = none ∧
    (after (exec .lineRunOut (bench .running .off .off))).line.state = .cold := by decide +kernel

/-- R75 with one slot: LINE START grants zone 0 within the event and leaves zone 1 WAITING. -/
theorem test_start_grants_one_zone :
    (after (exec .lineStart (bench .cold .off .off))).zones.map (·.state) = [.ramping, .waiting] ∧
    (after (exec .lineStart (bench .cold .off .off))).arbiter.queue = [1] := by decide +kernel

/-- R68, R69: held at its last reading of 29.0 and 70.5, a zone heats and vents by the hold targets 30.0 and 70.0. -/
theorem test_hold_regulates : (after (exec (.lineHold 1) (fresh running 290 705))).zones.map (fun zn => (zn.heat, zn.vent)) =
    [(true, true), (false, true)] := by decide +kernel

/-- Of a bad part code and a bad count the part code is named: the model's choice (assumption log 14). -/
theorem test_two_bad_parameters : (after (exec (.trainRead 4 0 0) running)).link =
    running.link.prepared 0x35 .badValue [0] := by decide +kernel

/-- R83: with mask 2 zone 0 purges and zone 1 is HOLDING. -/
theorem test_hold_by_mask : (after (exec (.lineHold 2) running)).zones.map (·.state) = [.purging, .holding] := by decide +kernel

/-- R57, R144: a step timeout in RUNNING jams the chain and holds the line with origin JAM and the default mask 2. -/
theorem test_jam_holds_the_line :
    (after (exec (.stepTimeout .main) (chainIn running .main .stepping))).mainSeq.state = .jammed ∧
    (after (exec (.stepTimeout .main) (chainIn running .main .stepping))).line.holdOrigin = .jam .main ∧
    (after (exec (.stepTimeout .main) (chainIn running .main .stepping))).line.holdMask = 2 := by decide +kernel

/-- R55, R113: a rod at main position Q − 1 is graded at the shift and its record freed. -/
theorem test_exit_is_graded :
    (let s : State := { chainIn running .main .stepping with
       mainChain := [none, none, some 1], rods := [rod 1 (.main 2)]
       lots := some { Lot.new 7101 2 0 with born := 1, inTrain := 1 } :: List.replicate 15 none }
     (after (exec (.stepDone .main) s)).rods = [] ∧ (after (exec (.stepDone .main) s)).reports.reports.length = 1 ∧
      (after (exec (.stepDone .main) s)).mainChain = [none, none, none]) := by decide +kernel

/-- R182: CHAIN_JAM of group 3 is fetched before LINE_STATE, which is older. -/
theorem test_fetch_by_group : (after (exec .noticeFetch noticed)).noticePending 0 = false ∧
    (after (exec .noticeFetch noticed)).noticePending 15 = true := by decide +kernel

/-- R153, R70: a third miss in a row makes the zone blind and raises ZONE_BLIND. -/
theorem test_third_miss : (after (exec (.pollStop none) (polling (running.modProbe 1 fun p => { p with misses := 2 }) 1))).noticePending 6
    = true := by decide +kernel

/-- R123: LOT OPEN writes the lowest free slot and answers it; R122: an id in use is DUPLICATE. -/
theorem test_lot_open :
    (after (exec (.lotOpen 9 2 0) { running with lots := List.replicate 16 none })).openSlot = some 0 ∧
    (after (exec (.lotOpen 7101 2 0) running)).link.port = .preparing { code := 0x30, status := .duplicate, payload := [] } 0 := by
  decide +kernel

/-- R188: the release of more reports than there are removes them all. -/
theorem test_report_release :
    (let r : Report := { sequence := 7, body := .rodScrap 1 0 .noLot 0 }
     let s : State := { running with reports := { reports := [r, r], nextSequence := 9 } }
     (after (exec (.reportRelease 255) s)).reports.reports = [] ∧
      (after (exec (.reportRelease 255) s)).link.port = .preparing { code := 0x41, status := .ok, payload := [2, 0, 0, 0, 9] } 0) := by
  decide +kernel
end Sys2Proof.Tests
end

section
/-! Quiet changes: what the laws of the modes, the capacities, the train, its order and the lots read of a state, and the operations
that leave all of it as it was. -/

namespace Sys2Proof.Machine

/-- What the laws read of a rod: its number, its lot and its place. -/
def Rod.key (r : Rod) : Word32 × Nat × Location := (r.number, r.lotSlot, r.location)

/-- A lot with the fields that no law reads blanked (R121 balances the others). -/
def Lot.account (l : Lot) : Lot :=
  { l with profile := 0, gapPending := 0, acceptedCharge := 0, trimTotal := 0, firstRod := 0, lastRod := 0, reportsLost := 0 }

/-- A step has been issued and its shift not applied (R53): STEPPING, or JAMMED with the late-applied flag clear. -/
def Sequencer.isOpen (q : Sequencer) : Prop := q.state = .stepping ∨ (q.state = .jammed ∧ q.lateApplied = false)

/-- Two sequencers that no law tells apart. -/
structure Sequencer.Like (q q' : Sequencer) : Prop where
  state : q'.state = q.state
  late : q'.lateApplied = q.lateApplied
  timed : q.timed → q'.timed

theorem Sequencer.Like.refl (q : Sequencer) : q.Like q := ⟨rfl, rfl, id⟩

theorem Sequencer.Like.trans {a b c : Sequencer} (h : a.Like b) (h' : b.Like c) : a.Like c :=
  ⟨h'.state.trans h.state, h'.late.trans h.late, h'.timed ∘ h.timed⟩

theorem Sequencer.Like.isOpen {a b : Sequencer} (h : a.Like b) : b.isOpen ↔ a.isOpen := by
  unfold Sequencer.isOpen
  rw [h.state, h.late]

/-- `t` differs from `s` in nothing that a law reads. -/
structure Quiet (s t : State) : Prop where
  lineState : t.line.state = s.line.state := by rfl
  phase : t.line.phase.isSome = s.line.phase.isSome := by rfl
  hold : s.line.state ≠ .hold → t.line.holdMask = s.line.holdMask ∧ t.line.holdOrigin = s.line.holdOrigin := by
    exact fun _ => ⟨rfl, rfl⟩
  armed : t.capture.state = .disarmed ↔ s.capture.state = .disarmed := by rfl
  latch : t.capture.latch = s.capture.latch := by rfl
  rodCounter : t.capture.rodCounter = s.capture.rodCounter := by rfl
  rods : t.rods.map Rod.key = s.rods.map Rod.key := by rfl
  landing : t.landing = s.landing := by rfl
  preChain : t.preChain = s.preChain := by rfl
  buffer : t.buffer = s.buffer := by rfl
  mainChain : t.mainChain = s.mainChain := by rfl
  seq : ∀ c, (s.seq c).Like (t.seq c) := by exact fun _ => Sequencer.Like.refl _
  lots : ∀ i, (t.lot i).map Lot.account = (s.lot i).map Lot.account := by exact fun _ => rfl
  layout : t.store.layout = s.store.layout := by rfl
  job : s.jobSound → t.jobSound := by exact fun h => h
  reports : s.reports.reports.length ≤ 256 → t.reports.reports.length ≤ 256 := by exact fun h => h

theorem Quiet.refl (s : State) : Quiet s s := {}

theorem Quiet.trans {s t u : State} (h : Quiet s t) (h' : Quiet t u) : Quiet s u where
  lineState := h'.lineState.trans h.lineState
  phase := h'.phase.trans h.phase
  hold := fun hs => by
    obtain ⟨m, o⟩ := h.hold hs
    obtain ⟨m', o'⟩ := h'.hold (h.lineState ▸ hs)
    exact ⟨m'.trans m, o'.trans o⟩
  armed := h'.armed.trans h.armed
  latch := h'.latch.trans h.latch
  rodCounter := h'.rodCounter.trans h.rodCounter
  rods := h'.rods.trans h.rods
  landing := h'.landing.trans h.landing
  preChain := h'.preChain.trans h.preChain
  buffer := h'.buffer.trans h.buffer
  mainChain := h'.mainChain.trans h.mainChain
  seq := fun c => (h.seq c).trans (h'.seq c)
  lots := fun i => (h'.lots i).trans (h.lots i)
  layout := h'.layout.trans h.layout
  job := h'.job ∘ h.job
  reports := h'.reports ∘ h.reports

/-- The blocks that no law reads may become anything. -/
theorem Quiet.blocks (s : State) (clock : Word32) (zones : List Zone) (arbiter : Arbiter) (table : List Nat) (loaded : Bool)
    (divert : Disposition) (bus : ProbeBus) (notices : NoticeUnit) (link : Link) (pins : Pins) (pending : List Instr)
    (count : Nat) :
    Quiet s { s with
      clock := clock, zones := zones, arbiter := arbiter, table := table, tableLoaded := loaded, divert := divert
      probeBus := bus, notices := notices, link := link, pins := pins, pending := pending, freeCount := count } := {}

/-- A sequencer is set alike on both sides of a quiet change. -/
theorem Quiet.setSeq {s t : State} (h : Quiet s t) (c : Chain) (q : Sequencer) : Quiet (s.setSeq c q) (t.setSeq c q) := by
  have hpre : s.preSeq.Like t.preSeq := h.seq .pre
  have hmain : s.mainSeq.Like t.mainSeq := h.seq .main
  cases c with
  | pre => exact { h with seq := fun d => by cases d <;> [exact .refl q; exact hmain] }
  | main => exact { h with seq := fun d => by cases d <;> [exact hpre; exact .refl q] }

/-- A sequencer replaced by one that no law tells from it. -/
theorem State.setSeq_quiet (s : State) (c : Chain) (q : Sequencer) (h : (s.seq c).Like q) : Quiet s (s.setSeq c q) := by
  cases c with
  | pre => exact { seq := fun d => by cases d <;> [exact h; exact .refl _] }
  | main => exact { seq := fun d => by cases d <;> [exact .refl _; exact h] }

end Sys2Proof.Machine
end


section
namespace Sys2Proof.Machine

/-- An operation that writes zones, arbiter and notices alone is quiet. -/
theorem Quiet.of_frame {s t : State} (h : ∃ zs a n, t = { s with zones := zs, arbiter := a, notices := n }) : Quiet s t := by
  obtain ⟨zs, a, n, rfl⟩ := h
  exact {}

/-- An operation that writes zones and arbiter alone is quiet. -/
theorem Quiet.of_zones {s t : State} (h : ∃ zs a, t = { s with zones := zs, arbiter := a }) : Quiet s t := by
  obtain ⟨zs, a, rfl⟩ := h
  exact {}

theorem State.eachZone_quiet (s : State) (f : State → Nat → State) (hf : ∀ s z, Quiet s (f s z)) : Quiet s (s.eachZone f) := by
  unfold State.eachZone
  generalize List.range s.zones.length = xs
  induction xs generalizing s with
  | nil => exact .refl s
  | cons x xs ih => exact (hf s x).trans (ih (f s x))

/-! ## The lot in a slot after an update of the table -/

theorem State.lot_setLots_modify (s : State) (slot i : Nat) (g : Option Lot → Option Lot) (hg : g none = none) :
    (s.setLots (s.lots.modify slot g)).lot i = if i = slot then g (s.lot i) else s.lot i := by
  simp only [State.lot, State.setLots_lots, List.getD_eq_getElem?_getD, List.getElem?_modify]
  by_cases h : slot = i
  · subst h
    cases hl : s.lots[slot]? <;> simp [hg]
  · simp [h, Ne.symm h]

theorem State.lot_modLot (s : State) (slot i : Nat) (f : Lot → Lot) :
    (s.modLot slot f).lot i = if i = slot then (s.lot i).map f else s.lot i :=
  s.lot_setLots_modify slot i (Option.map f) rfl

theorem State.lot_setLots_none (s : State) (slot i : Nat) :
    (s.setLots (s.lots.set slot none)).lot i = if i = slot then none else s.lot i := by
  simp only [State.lot, State.setLots_lots, List.getD_eq_getElem?_getD, List.getElem?_set]
  by_cases h : slot = i
  · subst h
    by_cases hl : slot < s.lots.length <;> simp [hl]
  · simp [h, Ne.symm h]

/-- A change of a lot that keeps its account is quiet. -/
theorem State.modLot_quiet (s : State) (slot : Nat) (f : Lot → Lot) (hf : ∀ l, (f l).account = l.account) :
    Quiet s (s.modLot slot f) where
  lots i := by
    rw [State.lot_modLot]
    split
    · cases s.lot i with
      | none => rfl
      | some l => exact congrArg some (hf l)
    · rfl

/-! ## Notices and reports -/

theorem State.raise_quiet (s : State) (k : NoticeKind) (d : Word32) : Quiet s (s.raise k d) := {}

theorem State.raiseNat_quiet (s : State) (k : NoticeKind) (d : Nat) : Quiet s (s.raiseNat k d) := {}

/-- A report joins a queue with room, so the queue stays within its capacity (R184). -/
theorem State.joinReport_quiet (s : State) (b : ReportBody) (h : s.reports.reports.length < 256) : Quiet s (s.joinReport b) := by
  have joined : ∀ n : NoticeUnit, Quiet s { s with
      reports := { reports := s.reports.reports ++ [{ sequence := s.reports.nextSequence, body := b }]
                   nextSequence := s.reports.nextSequence + 1 }
      notices := n } :=
    fun n => { reports := fun _ => by
                show (s.reports.reports ++ _).length ≤ 256
                simp only [List.length_append, List.length_singleton]
                omega }
  unfold State.joinReport
  dsimp only
  split
  · exact joined _
  · exact joined s.notices

theorem State.loseReport_quiet (s : State) (slot : Option Nat) (id : Word32) : Quiet s (s.loseReport slot id) := by
  have used : Quiet s (s.setReports { s.reports with nextSequence := s.reports.nextSequence + 1 }) := {}
  unfold State.loseReport
  cases slot with
  | none => exact used.trans (State.raise_quiet _ _ _)
  | some i =>
    refine used.trans (Quiet.trans (State.modLot_quiet _ i _ ?_) (State.raise_quiet _ _ _))
    exact fun _ => rfl

theorem State.offerReport_quiet (s : State) (b : ReportBody) (slot : Option Nat) (id : Word32) :
    Quiet s (s.offerReport b slot id) := by
  unfold State.offerReport
  split
  · exact s.joinReport_quiet b ‹_›
  · exact s.loseReport_quiet slot id

/-! ## The rods' accounting -/

theorem accountRod_key (table : List Nat) (air : ZoneAir) (now : Word32) (profile : Option Nat) (threshold : Option Int) (r : Rod) :
    (accountRod table air now profile threshold r).key = r.key := by
  unfold accountRod
  dsimp only
  split <;> rfl

theorem State.accounted_key (s : State) (z : Nat) (latch : Bool) (now : Word32) (r : Rod) :
    (s.accounted z latch now r).key = r.key := by
  unfold State.accounted
  split
  · rfl
  · exact accountRod_key ..

/-- Rods rewritten without a change of number, lot or place. -/
theorem State.setRods_quiet (s : State) (f : Rod → Rod) (hf : ∀ r, (f r).key = r.key) : Quiet s (s.setRods (s.rods.map f)) where
  rods := by
    simp only [State.setRods_rods, List.map_map]
    exact List.map_congr_left fun r _ => hf r

theorem State.accountPass_quiet (s : State) (z : Nat) (latch : Bool) : Quiet s (s.accountPass z latch) :=
  s.setRods_quiet _ fun r => by
    split
    · exact s.accounted_key z latch _ r
    · rfl

theorem State.zoneTick_quiet (s : State) (z : Nat) : Quiet s (s.zoneTick z) := by
  unfold State.zoneTick
  split
  · exact .refl s
  · split
    · exact (s.accountPass_quiet z _).trans (.of_zones ⟨_, _, rfl⟩)
    · exact .refl s

theorem State.markRod_quiet (s : State) (n : Word32) : Quiet s (s.markRod n) :=
  s.setRods_quiet _ fun r => by split <;> rfl

/-! ## Capture channels -/

theorem State.mapChannels_quiet (s : State) (f : Nat → Channel → Channel) : Quiet s (s.mapChannels f) := {}

theorem State.curtainPulse_quiet (s : State) (c : Nat) : Quiet s (s.curtainPulse c) := {}

theorem State.passTrim_quiet (s : State) : Quiet s s.passTrim := by
  unfold State.passTrim
  split
  · exact .refl s
  · refine Quiet.trans (s.modLot_quiet _ _ ?_) (State.mapChannels_quiet _ _)
    exact fun _ => rfl

theorem State.countGap_quiet (s : State) : Quiet s s.countGap := by
  unfold State.countGap
  split
  · exact .refl s
  · exact s.modLot_quiet _ _ fun _ => rfl

/-! ## The zones of a hand-off and of the line requests -/

theorem State.adopt_quiet (c : Chain) (s : State) (z : Nat) : Quiet s (State.adopt c s z) := by
  obtain ⟨zs, n, h⟩ := State.adopt_frame c s z
  exact .of_frame ⟨zs, s.arbiter, n, h⟩

theorem State.followEconomy_quiet (s : State) : Quiet s s.followEconomy := .of_zones ⟨_, s.arbiter, rfl⟩

theorem State.wakeZone_quiet (s : State) (z : Nat) : Quiet s (s.wakeZone z) := .of_zones (s.wakeZone_frame z)

theorem State.runOutZone_quiet (s : State) (z : Nat) : Quiet s (s.runOutZone z) := .of_zones (s.runOutZone_frame z)

/-- The zones' part of the hand-offs after a shift of chain c (R56). -/
def State.zonesHandOff (s : State) (c : Chain) : State :=
  ((s.eachZone (State.adopt c)).followEconomy.eachZone State.wakeZone).eachZone State.runOutZone

theorem State.zonesHandOff_quiet (s : State) (c : Chain) : Quiet s (s.zonesHandOff c) :=
  (s.eachZone_quiet _ (State.adopt_quiet c)).trans <| (State.followEconomy_quiet _).trans <|
    (State.eachZone_quiet _ _ State.wakeZone_quiet).trans (State.eachZone_quiet _ _ State.runOutZone_quiet)

theorem State.handOff_pre (s : State) (b : Bool) : s.handOff .pre b = s.zonesHandOff .pre := by
  unfold State.handOff
  exact if_neg fun h => Chain.noConfusion h.1

theorem State.handOff_main (s : State) (b : Bool) :
    s.handOff .main b = if b = true then (s.zonesHandOff .main).releaseBlocked .pre else s.zonesHandOff .main := by
  cases b <;> rfl

theorem State.countShift_quiet (s : State) (c : Chain) : Quiet s (s.countShift c) := s.setSeq_quiet c _ ⟨rfl, rfl, id⟩

end Sys2Proof.Machine
end


section
/-! The laws of the modes, the capacities and the train as one invariant, and the change of the line state. -/

namespace Sys2Proof.Machine

/-! ## The invariant -/

/-- Rod numbers are distinct, the latched rod is not live, and rods and places name each other (R7, R14). -/
structure Placed (s : State) : Prop where
  nodup : (s.rods.map (·.number)).Nodup
  latch : ∀ l, s.capture.latch = some l → ∀ r ∈ s.rods, r.number ≠ l.number
  stands : ∀ r ∈ s.rods, s.rodAt r.location = some r.number
  live : ∀ loc n, s.rodAt loc = some n → ∃ r ∈ s.rods, r.number = n ∧ r.location = loc

/-- The laws of the modes, the capacities and the train together, but for the room in the rod table, which follows. -/
structure Lawful (s : State) : Prop where
  phase : s.line.phase.isSome = true ↔ s.line.state = .init
  hold : s.line.state ≠ .hold → s.line.holdMask = 0 ∧ s.line.holdOrigin = .noHold
  armed : s.capture.state = .disarmed ↔ s.line.state.arms = false
  timed : ∀ c, (s.seq c).timed
  waiting : ∀ c, (s.seq c).state = .idle ∨ (s.seq c).state = .blocked → s.line.state.steps = true
  landing : s.landing.length ≤ 4
  buffer : s.buffer.length ≤ 8
  reports : s.reports.reports.length ≤ 256
  room : s.preSeq.isOpen → s.takeCondition .pre = true
  placed : Placed s
  chains : ∀ l, s.store.layout = some l →
    layoutFault l = none ∧ s.preChain.length = l.preCount ∧ s.mainChain.length = l.mainCount
  configured : s.line.state ≠ .init → s.line.state ≠ .unconfigured → s.store.layout.isSome = true
  rest : s.line.state.resting →
    s.noRods ∧ s.capture.latch = none ∧ s.preSeq.state = .stopped ∧ s.mainSeq.state = .stopped
  job : s.jobSound

/-- Every check before a failing one holds: with no failing check each of them holds. -/
theorem firstFailing_eq_none {checks : List (Nat × Bool)} : firstFailing checks = none ↔ ∀ p ∈ checks, p.2 = true := by
  induction checks with
  | nil => simp [firstFailing]
  | cons p rest ih =>
    obtain ⟨i, ok⟩ := p
    cases ok <;> simp [firstFailing, ih]

/-- What R170 bounds of a layout's chains. -/
theorem layoutFault_bounds {l : Layout} (h : layoutFault l = none) :
    1 ≤ l.preZones ∧ l.preZones ≤ 2 ∧ l.preZones < l.zoneCount ∧ l.zoneCount ≤ 10 ∧ 20 ≤ l.preCount ∧ 100 ≤ l.mainCount ∧
      l.preCount + l.mainCount ≤ 4000 := by
  have checks := firstFailing_eq_none.mp h
  simp only [layoutChecks, List.mem_append, List.mem_cons, or_imp, forall_and, forall_eq, inRange, decide_eq_true_eq,
    Bool.and_eq_true, and_assoc] at checks
  omega

/-- The numbers that stand in the train (R14). -/
def State.standing (s : State) : List Word32 :=
  s.landing ++ (s.preChain.filterMap id ++ (s.buffer ++ s.mainChain.filterMap id))

theorem State.rodAt_mem_standing {s : State} {loc : Location} {n : Word32} (h : s.rodAt loc = some n) : n ∈ s.standing := by
  have chain : ∀ (ps : List (Option Word32)) (p : Nat), (ps[p]?).join = some n → n ∈ ps.filterMap id := fun ps p hp => by
    rw [Option.join_eq_some_iff] at hp
    exact List.mem_filterMap.mpr ⟨_, List.mem_of_getElem? hp, rfl⟩
  simp only [State.standing, List.mem_append]
  cases loc with
  | landing i => exact .inl (List.mem_of_getElem? h)
  | pre p => exact .inr (.inl (chain _ p h))
  | buffer i => exact .inr (.inr (.inl (List.mem_of_getElem? h)))
  | main q => exact .inr (.inr (.inr (chain _ q h)))

/-- There are no more rods than places (R15). -/
theorem Placed.rods_length {s : State} (h : Placed s) :
    s.rods.length ≤ s.landing.length + s.preChain.length + s.buffer.length + s.mainChain.length := by
  have sub : s.rods.map (·.number) ⊆ s.standing := fun n hn => by
    obtain ⟨r, hr, rfl⟩ := List.mem_map.mp hn
    exact State.rodAt_mem_standing (h.stands r hr)
  have len := (h.nodup.subperm sub).length_le
  have pre := List.length_filterMap_le id s.preChain
  have main := List.length_filterMap_le id s.mainChain
  simp only [State.standing, List.length_map, List.length_append] at len
  omega

theorem Lawful.not_resting {s : State} (h : Lawful s) (hl : s.store.layout = none) : s.line.state.resting := by
  by_contra hr
  simp only [LineState.resting, not_or] at hr
  simpa [hl] using h.configured hr.1 hr.2.1

theorem Lawful.rods {s : State} (h : Lawful s) : s.rods.length ≤ 4012 := by
  have places := h.placed.rods_length
  have := h.landing
  have := h.buffer
  cases hl : s.store.layout with
  | none =>
    obtain ⟨⟨hrods, -⟩, -⟩ := h.rest (h.not_resting hl)
    simp [hrods]
  | some l =>
    obtain ⟨hf, hp, hm⟩ := h.chains l hl
    have := layoutFault_bounds hf
    omega

theorem lawful_iff {s : State} : Lawful s ↔ ModeLaw s ∧ CapacityLaw s ∧ TrainLaw s := by
  constructor
  · intro h
    exact ⟨⟨h.phase, h.hold, h.armed, h.timed, h.waiting⟩, ⟨h.landing, h.buffer, h.rods, h.reports, h.room⟩,
      h.placed.nodup, h.placed.latch, h.placed.stands, h.placed.live, h.chains, h.configured, h.rest, h.job⟩
  · rintro ⟨⟨phase, hold, armed, timed, waiting⟩, ⟨landing, buffer, -, reports, room⟩,
      nodup, latch, stands, live, chains, configured, rest, job⟩
    exact ⟨phase, hold, armed, timed, waiting, landing, buffer, reports, room, ⟨nodup, latch, stands, live⟩, chains,
      configured, rest, job⟩

/-! ## Quiet changes keep the invariant -/

theorem rodAt_congr {s t : State} (hl : t.landing = s.landing) (hp : t.preChain = s.preChain) (hb : t.buffer = s.buffer)
    (hm : t.mainChain = s.mainChain) (loc : Location) : t.rodAt loc = s.rodAt loc := by
  cases loc <;> simp only [State.rodAt, hl, hp, hb, hm]

theorem Quiet.rodAt {s t : State} (q : Quiet s t) (loc : Location) : t.rodAt loc = s.rodAt loc :=
  rodAt_congr q.landing q.preChain q.buffer q.mainChain loc

/-- Each rod after a quiet change has the number, the lot and the place of a rod before it. -/
theorem mem_of_keys_eq {rods rods' : List Rod} (h : rods'.map Rod.key = rods.map Rod.key) {r : Rod} (hr : r ∈ rods') :
    ∃ r' ∈ rods, r'.number = r.number ∧ r'.lotSlot = r.lotSlot ∧ r'.location = r.location := by
  obtain ⟨r', hr', hk⟩ := List.mem_map.mp (h ▸ List.mem_map_of_mem hr : r.key ∈ rods.map Rod.key)
  simp only [Rod.key, Prod.mk.injEq] at hk
  exact ⟨r', hr', hk⟩

theorem numbers_of_keys_eq {rods rods' : List Rod} (h : rods'.map Rod.key = rods.map Rod.key) :
    rods'.map (·.number) = rods.map (·.number) := by
  have hn : (fun r : Rod => r.number) = Prod.fst ∘ Rod.key := rfl
  rw [hn, ← List.map_map, ← List.map_map, h]

theorem Quiet.placed {s t : State} (q : Quiet s t) (h : Placed s) : Placed t where
  nodup := by
    rw [numbers_of_keys_eq q.rods]
    exact h.nodup
  latch l hl r hr := by
    obtain ⟨r', hr', hn, -⟩ := mem_of_keys_eq q.rods hr
    exact hn ▸ h.latch l (q.latch ▸ hl) r' hr'
  stands r hr := by
    obtain ⟨r', hr', hn, -, hloc⟩ := mem_of_keys_eq q.rods hr
    rw [q.rodAt, ← hloc, ← hn]
    exact h.stands r' hr'
  live loc n hn := by
    obtain ⟨r, hr, hnum, hloc⟩ := h.live loc n (q.rodAt loc ▸ hn)
    obtain ⟨r', hr', hn', -, hloc'⟩ := mem_of_keys_eq q.rods.symm hr
    exact ⟨r', hr', hn'.trans hnum, hloc'.trans hloc⟩

theorem Quiet.takeCondition {s t : State} (q : Quiet s t) : t.takeCondition .pre = s.takeCondition .pre := by
  simp only [State.takeCondition, q.preChain, q.buffer]

theorem Quiet.noRods {s t : State} (q : Quiet s t) (h : s.noRods) : t.noRods := by
  obtain ⟨hr, hl, hb, hp, hm⟩ := h
  refine ⟨?_, q.landing.trans hl, q.buffer.trans hb, q.preChain ▸ hp, q.mainChain ▸ hm⟩
  simpa [hr] using q.rods

theorem Quiet.lawful {s t : State} (q : Quiet s t) (h : Lawful s) : Lawful t where
  phase := by rw [q.phase, q.lineState]; exact h.phase
  hold hs := by
    obtain ⟨hm, ho⟩ := q.hold (q.lineState ▸ hs)
    rw [hm, ho]
    exact h.hold (q.lineState ▸ hs)
  armed := by rw [q.armed, q.lineState]; exact h.armed
  timed c := (q.seq c).timed (h.timed c)
  waiting c := by rw [(q.seq c).state, q.lineState]; exact h.waiting c
  landing := q.landing ▸ h.landing
  buffer := q.buffer ▸ h.buffer
  reports := q.reports h.reports
  room ho := by rw [q.takeCondition]; exact h.room ((q.seq .pre).isOpen.mp ho)
  placed := q.placed h.placed
  chains l := by rw [q.layout, q.preChain, q.mainChain]; exact h.chains l
  configured := by rw [q.lineState, q.layout]; exact h.configured
  rest hr := by
    obtain ⟨hn, hl, hp, hm⟩ := h.rest (q.lineState ▸ hr)
    exact ⟨q.noRods hn, q.latch.trans hl, (q.seq .pre).state.trans hp, (q.seq .main).state.trans hm⟩
  job := q.job h.job

/-! ## A change of the line state (R132) -/

/-- What a sequencer may become where the line enters a state (R46, R50, R62). -/
structure Sequencer.Follows (line : LineState) (q q' : Sequencer) : Prop where
  timed : q.timed → q'.timed
  waiting : q'.state = .idle ∨ q'.state = .blocked → line.steps = true
  isOpen : q'.isOpen → q.isOpen
  stopped : line ≠ .running → q.state = .stopped → q'.state = .stopped

/-- A sequencer that has entered STOPPED runs no timer. -/
theorem Sequencer.Follows.stops (line : LineState) (now : Word32) (q : Sequencer) : q.Follows line (q.enter now .stopped) where
  timed _ := by simp [Sequencer.timed, Sequencer.enter]
  waiting h := by simp [Sequencer.enter] at h
  isOpen h := by simp [Sequencer.isOpen, Sequencer.enter] at h
  stopped _ _ := rfl

/-- A sequencer that waits in no state is kept by every line state. -/
theorem Sequencer.Follows.kept (line : LineState) (q : Sequencer)
    (h : q.state = .idle ∨ q.state = .blocked → line.steps = true) : q.Follows line q := ⟨id, h, id, fun _ => id⟩

theorem State.followChain_follows (s : State) (c : Chain) :
    ∃ q, s.followChain c = s.setSeq c q ∧ (s.seq c).Follows s.line.state q := by
  have kept : s = s.setSeq c (s.seq c) := by cases c <;> rfl
  unfold State.followChain
  cases hl : s.line.state with
  | running =>
    dsimp only
    split
    · refine ⟨_, rfl, ?_, fun _ => rfl, ?_, fun h => absurd rfl h⟩
      · simp [Sequencer.timed, Sequencer.enter]
      · simp [Sequencer.isOpen, Sequencer.enter]
    · exact ⟨_, kept, .kept _ _ fun _ => rfl⟩
  | runOut =>
    dsimp only
    unfold State.runOutChain
    split
    · exact ⟨_, rfl, .stops ..⟩
    · exact ⟨_, kept, .kept _ _ fun _ => rfl⟩
  | _ =>
    dsimp only
    split
    · exact ⟨_, rfl, .stops ..⟩
    · exact ⟨_, kept, .kept _ _ fun h => absurd h ‹_›⟩

/-- What the capture unit may become where the line goes from a state to another (R24). -/
structure Capture.Follows (old new : LineState) (c c' : Capture) : Prop where
  latch : c'.latch = c.latch
  rodCounter : c'.rodCounter = c.rodCounter
  armed : (c.state = .disarmed ↔ old.arms = false) → (c'.state = .disarmed ↔ new.arms = false)

theorem State.followCapture_follows (s : State) (old : LineState) :
    ∃ c, s.followCapture old = s.setCapture c ∧ s.capture.Follows old s.line.state c := by
  unfold State.followCapture
  cases ho : old.arms <;> cases hn : s.line.state.arms
  · exact ⟨s.capture, rfl, rfl, rfl, by simp [ho, hn]⟩
  · exact ⟨_, rfl, rfl, rfl, by simp [hn]⟩
  · dsimp only
    split
    · exact ⟨_, rfl, rfl, rfl, by simp [hn]⟩
    · exact ⟨_, rfl, rfl, rfl, by simp [hn]⟩
  · exact ⟨s.capture, rfl, rfl, rfl, by simp [ho, hn]⟩

/-- A change of the line state as the laws see it (R132). -/
theorem State.changeLine_follows (s : State) (new : LineState) :
    ∃ c p m zs n, s.changeLine new =
        { s with line := Line.enter s.clock new, capture := c, preSeq := p, mainSeq := m, zones := zs, notices := n } ∧
      s.capture.Follows s.line.state new c ∧ s.preSeq.Follows new p ∧ s.mainSeq.Follows new m := by
  obtain ⟨c, hc, fc⟩ := (s.setLine (Line.enter s.clock new)).followCapture_follows s.line.state
  obtain ⟨p, hp, fp⟩ := ((s.setLine (Line.enter s.clock new)).setCapture c).followChain_follows .pre
  obtain ⟨m, hm, fm⟩ := (((s.setLine (Line.enter s.clock new)).setCapture c).setSeq .pre p).followChain_follows .main
  unfold State.changeLine
  dsimp only
  rw [hc, hp, hm]
  exact ⟨c, p, m, _, _, rfl, fc, fp, fm⟩

/-- The rods as a state with the same train and latch has them. -/
theorem Placed.congr {s t : State} (h : Placed s) (hr : t.rods = s.rods) (hc : t.capture.latch = s.capture.latch)
    (hl : t.landing = s.landing) (hp : t.preChain = s.preChain) (hb : t.buffer = s.buffer) (hm : t.mainChain = s.mainChain) :
    Placed t where
  nodup := hr ▸ h.nodup
  latch l hl' r hr' := h.latch l (hc ▸ hl') r (hr ▸ hr')
  stands r hr' := (rodAt_congr hl hp hb hm _).trans (h.stands r (hr ▸ hr'))
  live loc n hn := by
    rw [hr]
    exact h.live loc n ((rodAt_congr hl hp hb hm loc).symm.trans hn)

/-- A train of which every place is empty has no rods. -/
theorem Placed.noRods {s : State} (h : Placed s) (hl : s.landing = []) (hp : allGaps s.preChain = true) (hb : s.buffer = [])
    (hm : allGaps s.mainChain = true) : s.noRods := by
  refine ⟨List.eq_nil_iff_forall_not_mem.mpr fun r hr => ?_, hl, hb, hp, hm⟩
  have hs := h.stands r hr
  have gap : ∀ (ps : List (Option Word32)) (p : Nat) (n : Word32), allGaps ps = true → (ps[p]?).join ≠ some n := fun ps p n hg hj => by
    rw [Option.join_eq_some_iff] at hj
    simpa using List.all_eq_true.mp hg _ (List.mem_of_getElem? hj)
  cases hloc : r.location <;> rw [hloc] at hs <;> simp only [State.rodAt, hl, hb, List.getElem?_nil, reduceCtorEq] at hs
  · exact gap _ _ _ hp hs
  · exact gap _ _ _ hm hs

/-- The completion condition of a run-out leaves nothing in the train and both chains STOPPED (R147). -/
theorem Placed.rest_of_runOutDone {s : State} (h : Placed s) (hd : s.runOutDone = true) :
    s.noRods ∧ s.capture.latch = none ∧ s.preSeq.state = .stopped ∧ s.mainSeq.state = .stopped := by
  simp only [State.runOutDone, State.trainEmpty, State.emptyUpTo, Bool.and_eq_true, List.isEmpty_iff, beq_iff_eq,
    Option.isNone_iff_eq_none] at hd
  obtain ⟨⟨⟨⟨⟨⟨⟨hpre, hland⟩, hlatch⟩, hbuf⟩, hmain⟩, hp⟩, hm⟩, -⟩ := hd
  exact ⟨h.noRods hland hpre hbuf hmain, hlatch, hp, hm⟩

/-- The line enters a state other than INIT, with a working layout unless it is UNCONFIGURED, and an empty train if no zone is in
motion there. -/
theorem Lawful.changeLine {s : State} (h : Lawful s) (new : LineState) (hi : new ≠ .init)
    (hl : new ≠ .unconfigured → s.store.layout.isSome = true)
    (hr : new.resting → s.line.state.resting ∨ s.runOutDone = true) : Lawful (s.changeLine new) := by
  obtain ⟨c, p, m, zs, n, heq, fc, fp, fm⟩ := s.changeLine_follows new
  rw [heq]
  exact {
    phase := by simpa [Line.enter] using hi
    hold := fun _ => ⟨rfl, rfl⟩
    armed := fc.armed h.armed
    timed := fun d => by cases d <;> [exact fp.timed (h.timed .pre); exact fm.timed (h.timed .main)]
    waiting := fun d => by cases d <;> [exact fp.waiting; exact fm.waiting]
    landing := h.landing
    buffer := h.buffer
    reports := h.reports
    room := fun ho => h.room (fp.isOpen ho)
    placed := h.placed.congr rfl fc.latch rfl rfl rfl rfl
    chains := h.chains
    configured := fun _ => hl
    rest := fun hres => by
      have old : s.noRods ∧ s.capture.latch = none ∧ s.preSeq.state = .stopped ∧ s.mainSeq.state = .stopped :=
        (hr hres).elim h.rest h.placed.rest_of_runOutDone
      obtain ⟨hn, hlatch, hp, hm⟩ := old
      have still : new ≠ .running := by rintro rfl; simp [LineState.resting, Line.enter] at hres
      exact ⟨hn, fc.latch.trans hlatch, fp.stopped still hp, fm.stopped still hm⟩
    job := h.job }

end Sys2Proof.Machine
end


section
/-! The moves of the train beside the invariant: shifts, write-outs, the latch, a new layout, a reset. -/

namespace Sys2Proof.Machine

/-! ## Rows of positions -/

theorem shiftIn_length (x : Option Word32) (ps : List (Option Word32)) : (shiftIn x ps).length = ps.length := by
  simp [shiftIn]

theorem shiftIn_zero (x : Option Word32) {ps : List (Option Word32)} (h : 0 < ps.length) : (shiftIn x ps)[0]? = some x := by
  simp [shiftIn, h]

theorem shiftIn_succ (x : Option Word32) (ps : List (Option Word32)) (i : Nat) :
    (shiftIn x ps)[i + 1]? = if i + 1 < ps.length then ps[i]? else none := by
  simp [shiftIn, List.getElem?_dropLast]

theorem lastRod_eq (ps : List (Option Word32)) : lastRod ps = (ps[ps.length - 1]?).join := by
  rw [lastRod, List.getLast?_eq_getElem?]

theorem State.rodAt_last (s : State) : s.rodAt (.main (s.mainChain.length - 1)) = lastRod s.mainChain :=
  (lastRod_eq s.mainChain).symm

/-- A position that holds a rod is one of the chain's. -/
theorem lt_of_position {ps : List (Option Word32)} {p : Nat} {n : Word32} (h : (ps[p]?).join = some n) : p < ps.length := by
  by_contra hp
  simp [List.getElem?_eq_none (Nat.le_of_not_lt hp)] at h

/-! ## Rods keep their places along a shift -/

/-- A number stands at one place only (R14). -/
theorem Placed.location_unique {s : State} (h : Placed s) {a b : Location} {n : Word32} (ha : s.rodAt a = some n)
    (hb : s.rodAt b = some n) : a = b := by
  obtain ⟨r, hr, hn, rfl⟩ := h.live a n ha
  obtain ⟨r', hr', hn', rfl⟩ := h.live b n hb
  rw [List.inj_on_of_nodup_map h.nodup hr hr' (hn.trans hn'.symm)]

/-- The rods that `keep` keeps move by `move`, and so does what stands in the train. -/
theorem Placed.relocate {s t : State} (h : Placed s) (keep : Word32 → Bool) (move : Location → Location)
    (hr : t.rods = (s.rods.filter fun r => keep r.number).map fun r => { r with location := move r.location })
    (hc : t.capture.latch = s.capture.latch)
    (stands : ∀ loc n, keep n = true → s.rodAt loc = some n → t.rodAt (move loc) = some n)
    (live : ∀ loc n, t.rodAt loc = some n → keep n = true ∧ ∃ loc', s.rodAt loc' = some n ∧ move loc' = loc) : Placed t where
  nodup := by
    rw [hr, List.map_map]
    exact (List.filter_sublist.map _).nodup h.nodup
  latch l hl r hr' := by
    rw [hr] at hr'
    obtain ⟨x, hx, rfl⟩ := List.mem_map.mp hr'
    exact h.latch l (hc ▸ hl) x (List.mem_filter.mp hx).1
  stands r hr' := by
    rw [hr] at hr'
    obtain ⟨x, hx, rfl⟩ := List.mem_map.mp hr'
    obtain ⟨hx, hk⟩ := List.mem_filter.mp hx
    exact stands _ _ hk (h.stands x hx)
  live loc n hn := by
    obtain ⟨hk, loc', hn', rfl⟩ := live loc n hn
    obtain ⟨x, hx, rfl, rfl⟩ := h.live loc' n hn'
    rw [hr]
    exact ⟨_, List.mem_map_of_mem (List.mem_filter.mpr ⟨hx, hk⟩), rfl, rfl⟩

/-! ## The pre-chain shift (R52) -/

theorem State.movePre_stands {s : State} (h0 : 0 < s.preChain.length) {loc : Location} {n : Word32} (h : s.rodAt loc = some n) :
    s.movePre.rodAt (preMove s.preChain.length s.buffer.length loc) = some n := by
  cases loc with
  | landing i =>
    cases i with
    | zero =>
      show ((shiftIn s.landing.head? s.preChain)[0]?).join = some n
      rw [shiftIn_zero _ h0, List.head?_eq_getElem?]
      exact h
    | succ i => exact (List.getElem?_tail ..).trans h
  | pre p =>
    have hp := lt_of_position h
    by_cases hlast : p + 1 = s.preChain.length
    · simp only [preMove, if_pos hlast]
      show (s.buffer ++ (lastRod s.preChain).toList)[s.buffer.length]? = some n
      rw [lastRod_eq, ← hlast, Nat.add_sub_cancel, show (s.preChain[p]?).join = some n from h]
      simp
    · simp only [preMove, if_neg hlast]
      show ((shiftIn s.landing.head? s.preChain)[p + 1]?).join = some n
      rw [shiftIn_succ, if_pos (by omega)]
      exact h
  | buffer i =>
    show (s.buffer ++ (lastRod s.preChain).toList)[i]? = some n
    rw [List.getElem?_append_left (List.getElem?_eq_some_iff.mp h).1]
    exact h
  | main q => exact h

theorem State.movePre_live {s : State} (h0 : 0 < s.preChain.length) {loc : Location} {n : Word32}
    (h : s.movePre.rodAt loc = some n) :
    ∃ loc', s.rodAt loc' = some n ∧ preMove s.preChain.length s.buffer.length loc' = loc := by
  cases loc with
  | landing i => exact ⟨.landing (i + 1), (List.getElem?_tail ..).symm.trans h, rfl⟩
  | pre p =>
    change ((shiftIn s.landing.head? s.preChain)[p]?).join = some n at h
    cases p with
    | zero =>
      rw [shiftIn_zero _ h0, List.head?_eq_getElem?] at h
      exact ⟨.landing 0, h, rfl⟩
    | succ p =>
      rw [shiftIn_succ] at h
      split at h
      · exact ⟨.pre p, h, if_neg (by omega)⟩
      · simp at h
  | buffer i =>
    change (s.buffer ++ (lastRod s.preChain).toList)[i]? = some n at h
    by_cases hi : i < s.buffer.length
    · rw [List.getElem?_append_left hi] at h
      exact ⟨.buffer i, h, rfl⟩
    · rw [List.getElem?_append_right (by omega)] at h
      cases hl : lastRod s.preChain with
      | none => simp [hl] at h
      | some m =>
        rw [hl, Option.toList_some, List.getElem?_singleton] at h
        split at h
        · rw [lastRod_eq] at hl
          refine ⟨.pre (s.preChain.length - 1), hl.trans h, ?_⟩
          simp only [preMove, if_pos (Nat.sub_add_cancel h0)]
          exact congrArg _ (by omega)
        · simp at h
  | main q => exact ⟨.main q, h, rfl⟩

theorem Placed.movePre {s : State} (h : Placed s) (h0 : 0 < s.preChain.length) : Placed s.movePre :=
  h.relocate (fun _ => true) (preMove s.preChain.length s.buffer.length) (by simp [State.movePre, State.relocate]) rfl
    (fun _ _ _ => s.movePre_stands h0) fun _ _ hn => ⟨rfl, s.movePre_live h0 hn⟩

/-! ## The main-chain shift (R55) -/

/-- The rod `r` leaves the rod table and its lot takes account of it, draining where it is CLOSED and was the last (R113, R127). -/
def Lot.drained (l : Lot) : Option Lot := if l.state = .closed ∧ l.inTrain = 0 then none else some l

/-- A lot after the grading of one of its rods (R116, R121). -/
def Lot.left (d : Disposition) (charge : Option Nat) (l : Lot) : Option Lot :=
  Lot.drained { l.countExit d charge with inTrain := l.inTrain - 1 }

/-- The state after the exit grading of rod `r`, as the laws see it: the rod freed, its lot's counts moved, the lot drained where it was
the last rod of a CLOSED one (R113, R127). -/
def State.freed (s : State) (r : Rod) (d : Disposition) (charge : Option Nat) : State :=
  { s with
    rods := s.rods.filter fun x => x.number != r.number
    lots := s.lots.modify r.lotSlot fun l => l.bind (Lot.left d charge) }

/-- A place other than the last main-chain position keeps its content along a main-chain shift. -/
theorem State.moveMain_stands {s : State} (h0 : 0 < s.mainChain.length) {loc : Location} {n : Word32}
    (h : s.rodAt loc = some n) (hlast : loc ≠ .main (s.mainChain.length - 1)) : s.moveMain.rodAt (mainMove loc) = some n := by
  cases loc with
  | landing i => exact h
  | pre p => exact h
  | buffer i =>
    cases i with
    | zero =>
      show ((shiftIn s.buffer.head? s.mainChain)[0]?).join = some n
      rw [shiftIn_zero _ h0, List.head?_eq_getElem?]
      exact h
    | succ i => exact (List.getElem?_tail ..).trans h
  | main q =>
    have hq := lt_of_position h
    have hne : q ≠ s.mainChain.length - 1 := fun he => hlast (congrArg _ he)
    show ((shiftIn s.buffer.head? s.mainChain)[q + 1]?).join = some n
    rw [shiftIn_succ, if_pos (by omega)]
    exact h

theorem State.moveMain_live {s : State} (h0 : 0 < s.mainChain.length) {loc : Location} {n : Word32}
    (h : s.moveMain.rodAt loc = some n) :
    ∃ loc', s.rodAt loc' = some n ∧ mainMove loc' = loc ∧ loc' ≠ .main (s.mainChain.length - 1) := by
  cases loc with
  | landing i => exact ⟨.landing i, h, rfl, Location.noConfusion⟩
  | pre p => exact ⟨.pre p, h, rfl, Location.noConfusion⟩
  | buffer i => exact ⟨.buffer (i + 1), (List.getElem?_tail ..).symm.trans h, rfl, Location.noConfusion⟩
  | main q =>
    change ((shiftIn s.buffer.head? s.mainChain)[q]?).join = some n at h
    cases q with
    | zero =>
      rw [shiftIn_zero _ h0, List.head?_eq_getElem?] at h
      exact ⟨.buffer 0, h, rfl, Location.noConfusion⟩
    | succ q =>
      rw [shiftIn_succ] at h
      split at h
      · refine ⟨.main q, h, rfl, fun he => ?_⟩
        injection he
        omega
      · simp at h

/-- A main-chain shift that takes a gap at the last position. -/
theorem Placed.moveMain_gap {s : State} (h : Placed s) (h0 : 0 < s.mainChain.length) (hlast : lastRod s.mainChain = none) :
    Placed s.moveMain := by
  refine h.relocate (fun _ => true) mainMove (by simp [State.moveMain, State.relocate]) rfl (fun loc n _ hn => ?_) fun loc n hn => ?_
  · refine State.moveMain_stands h0 hn fun he => ?_
    rw [he, s.rodAt_last, hlast] at hn
    cases hn
  · obtain ⟨loc', hn', hl, -⟩ := State.moveMain_live h0 hn
    exact ⟨rfl, loc', hn', hl⟩

/-- A main-chain shift that takes the rod at the last position out of the train. -/
theorem Placed.moveMain_rod {s : State} (h : Placed s) (h0 : 0 < s.mainChain.length) {r : Rod} (d : Disposition)
    (charge : Option Nat) (hlast : lastRod s.mainChain = some r.number) : Placed (s.freed r d charge).moveMain := by
  have last : s.rodAt (.main (s.mainChain.length - 1)) = some r.number := s.rodAt_last.trans hlast
  refine h.relocate (fun n => n != r.number) mainMove rfl rfl (fun loc n hk hn => ?_) fun loc n hn => ?_
  · refine State.moveMain_stands h0 hn fun he => ?_
    rw [he, last] at hn
    simp [Option.some.inj hn] at hk
  · obtain ⟨loc', hn', hl, hne⟩ := State.moveMain_live h0 hn
    refine ⟨?_, loc', hn', hl⟩
    simp only [bne_iff_ne, ne_eq]
    rintro rfl
    exact hne (h.location_unique hn' last)

/-! ## The landing queue and the latch (R33, R35) -/

/-- A latched rod joins the landing queue as the record `r` (R35). -/
def State.landed (s : State) (r : Rod) : State :=
  { s with rods := s.rods ++ [r], landing := s.landing ++ [r.number], capture := { s.capture with latch := none } }

theorem Placed.landed {s : State} (h : Placed s) {l : Latch} {r : Rod} (hl : s.capture.latch = some l) (hn : r.number = l.number)
    (hloc : r.location = .landing s.landing.length) : Placed (s.landed r) := by
  have new : ∀ x ∈ s.rods, x.number ≠ r.number := hn ▸ h.latch l hl
  have at_landing : ∀ i, (s.landed r).rodAt (.landing i) = if i = s.landing.length then some r.number else s.landing[i]? := by
    intro i
    show (s.landing ++ [r.number])[i]? = _
    rw [List.getElem?_append]
    split
    · rw [if_neg (by omega)]
    · rw [List.getElem?_singleton]
      by_cases hi : i = s.landing.length
      · simp [hi]
      · rw [if_neg (by omega), if_neg hi, List.getElem?_eq_none (by omega)]
  constructor
  case nodup =>
    show ((s.rods ++ [r]).map (·.number)).Nodup
    rw [List.map_append]
    refine List.nodup_append.mpr ⟨h.nodup, List.nodup_singleton _, fun a ha b hb => ?_⟩
    obtain ⟨x, hx, rfl⟩ := List.mem_map.mp ha
    rw [List.mem_singleton.mp hb]
    exact new x hx
  case latch => exact fun _ hc => nomatch hc
  case stands =>
    intro x hx
    rcases List.mem_append.mp hx with hx | hx
    · have hs := h.stands x hx
      cases hxl : x.location with rw [hxl] at hs
      | landing i =>
        have hi : i < s.landing.length := (List.getElem?_eq_some_iff.mp hs).1
        rw [at_landing, if_neg (by omega)]
        exact hs
      | pre _ => exact hs
      | buffer _ => exact hs
      | main _ => exact hs
    · rw [List.mem_singleton.mp hx, hloc, at_landing, if_pos rfl]
  case live =>
    intro loc n hn'
    have old : s.rodAt loc = some n → ∃ x ∈ (s.landed r).rods, x.number = n ∧ x.location = loc := fun ho => by
      obtain ⟨x, hx, hxn⟩ := h.live loc n ho
      exact ⟨x, List.mem_append_left _ hx, hxn⟩
    cases loc with
    | landing i =>
      rw [at_landing] at hn'
      split at hn'
      · exact ⟨r, List.mem_append_right _ (List.mem_singleton.mpr rfl), Option.some.inj hn', ‹i = _› ▸ hloc⟩
      · exact old hn'
    | pre _ => exact old hn'
    | buffer _ => exact old hn'
    | main _ => exact old hn'

end Sys2Proof.Machine
end


section
/-! The lot table's operations and the exit grading as changes of what the laws read. -/

namespace Sys2Proof.Machine

/-! ## What a quiet change carries along -/

theorem Quiet.setLots_modify {s t : State} (q : Quiet s t) (slot : Nat) (g : Option Lot → Option Lot) (hg : g none = none)
    (resp : ∀ a b : Lot, a.account = b.account → (g (some a)).map Lot.account = (g (some b)).map Lot.account) :
    Quiet (s.setLots (s.lots.modify slot g)) (t.setLots (t.lots.modify slot g)) :=
  { q with
    lots := fun i => by
      have hi := q.lots i
      rw [State.lot_setLots_modify _ _ _ _ hg, State.lot_setLots_modify _ _ _ _ hg]
      split
      · cases hs : s.lot i <;> cases ht : t.lot i <;> simp only [hs, ht, Option.map_none, Option.map_some, reduceCtorEq,
          Option.some.injEq] at hi ⊢
        · exact resp _ _ hi
      · exact hi }

theorem Quiet.filterRods {s t : State} (q : Quiet s t) (n : Word32) :
    Quiet (s.setRods (s.rods.filter fun r => r.number != n)) (t.setRods (t.rods.filter fun r => r.number != n)) :=
  { q with
    rods := by
      have filtered : ∀ rods : List Rod, (rods.filter fun r => r.number != n).map Rod.key =
          (rods.map Rod.key).filter fun k => k.1 != n := fun rods => by
        rw [List.filter_map]
        rfl
      show (t.rods.filter _).map Rod.key = (s.rods.filter _).map Rod.key
      rw [filtered, filtered, q.rods] }

theorem Quiet.moveMain {s t : State} (q : Quiet s t) : Quiet s.moveMain t.moveMain :=
  { q with
    rods := by
      have moved : ∀ rods : List Rod, (rods.map fun r => { r with location := mainMove r.location }).map Rod.key =
          (rods.map Rod.key).map fun k => (k.1, k.2.1, mainMove k.2.2) := fun rods => by
        rw [List.map_map, List.map_map]
        rfl
      show (t.rods.map _).map Rod.key = (s.rods.map _).map Rod.key
      rw [moved, moved, q.rods]
    buffer := congrArg List.tail q.buffer
    mainChain := by
      show shiftIn t.buffer.head? t.mainChain = shiftIn s.buffer.head? s.mainChain
      rw [q.buffer, q.mainChain] }

theorem Quiet.unlatch {s t : State} (q : Quiet s t) :
    Quiet (s.setCapture { s.capture with latch := none }) (t.setCapture { t.capture with latch := none }) :=
  { q with latch := rfl }

/-! ## Lots (R113, R125, R127) -/

theorem Lot.drained_resp (a b : Lot) (h : a.account = b.account) :
    ((some a).bind Lot.drained).map Lot.account = ((some b).bind Lot.drained).map Lot.account := by
  have hs : a.state = b.state := show a.account.state = b.account.state from congrArg Lot.state h
  have hi : a.inTrain = b.inTrain := show a.account.inTrain = b.account.inTrain from congrArg Lot.inTrain h
  simp only [Option.bind_some, Lot.drained, hs, hi]
  split
  · rfl
  · exact congrArg some h

/-- The drain check frees the slot of a CLOSED lot without rods (R127). -/
theorem State.drainCheck_quiet (s : State) (slot : Nat) :
    Quiet (s.setLots (s.lots.modify slot fun l => l.bind Lot.drained)) (s.drainCheck slot) := by
  have lotAt := s.lot_setLots_modify slot (g := fun l => l.bind Lot.drained) (hg := rfl)
  have same : (s.lot slot).bind Lot.drained = s.lot slot → Quiet (s.setLots (s.lots.modify slot fun l => l.bind Lot.drained)) s :=
    fun hs => { lots := fun i => by
                  rw [lotAt]
                  split
                  · rw [‹i = slot›, hs]
                  · rfl }
  unfold State.drainCheck
  cases hl : s.lot slot with
  | none => exact same (by rw [hl]; rfl)
  | some l =>
    dsimp only
    split
    · have q : Quiet s ((s.offerReport (.lotSummary slot l s.clock) (some slot) l.id).raise .lotDrained l.id) :=
        (s.offerReport_quiet _ _ _).trans (State.raise_quiet _ _ _)
      exact { q with
        lots := fun i => by
          rw [lotAt]
          refine (congrArg _ (State.lot_setLots_none _ slot i)).trans ?_
          split
          · rename_i drains hi
            simp only [hi, hl, Option.bind_some, Lot.drained, if_pos drains]
          · exact q.lots i }
    · exact same (by simp only [hl, Option.bind_some, Lot.drained, if_neg ‹_›])

/-- Closing the OPEN lot closes it and drains it where it has no rod (R125). -/
theorem State.closeOpenLot_quiet (s : State) (slot : Nat) (h : s.openSlot = some slot) :
    Quiet (s.setLots (s.lots.modify slot fun l => l.bind fun lot => Lot.drained { lot with state := .closed })) s.closeOpenLot := by
  unfold State.closeOpenLot
  rw [h]
  refine Quiet.trans ?_ (State.drainCheck_quiet _ slot)
  exact { lots := fun i => by
            rw [State.lot_setLots_modify _ _ _ _ rfl, State.lot_setLots_modify _ _ _ _ rfl, State.lot_modLot]
            split
            · cases s.lot i <;> rfl
            · rfl }

/-- Closing the OPEN lot changes the lots alone, as the laws see it (R125). -/
theorem State.closeOpenLot_lots (s : State) : ∃ lots, Quiet (s.setLots lots) s.closeOpenLot := by
  cases h : s.openSlot with
  | none =>
    refine ⟨s.lots, ?_⟩
    unfold State.closeOpenLot
    rw [h]
    exact .refl s
  | some slot => exact ⟨_, s.closeOpenLot_quiet slot h⟩

/-! ## Grading (R113) -/

theorem State.gradeRod_quiet (s : State) (r : Rod) (now : Word32) :
    Quiet (s.freed r (s.dispositionOf r) r.charge) (s.gradeRod r now) := by
  let leave (l : Lot) : Lot := { l with inTrain := l.inTrain - 1 }
  let s2 := ({ s with divert := s.dispositionOf r } : State).modLot r.lotSlot fun l => l.countExit (s.dispositionOf r) r.charge
  have offered := s2.offerReport_quiet (exitReport (s.lotIdOf r.lotSlot) (s.dispositionOf r) now r) (some r.lotSlot)
    (s.lotIdOf r.lotSlot)
  have left := (offered.filterRods r.number).setLots_modify r.lotSlot (Option.map leave) rfl fun a b h => by
    cases a
    cases b
    simp only [Lot.account, Lot.mk.injEq] at h
    simp [leave, Lot.account, h]
  refine Quiet.trans ?_ ((left.setLots_modify r.lotSlot (fun l => l.bind Lot.drained) rfl Lot.drained_resp).trans
    (State.drainCheck_quiet _ _))
  exact { lots := fun i => by
            rw [State.lot_setLots_modify _ _ _ _ rfl, State.lot_setLots_modify _ _ _ _ rfl]
            show _ = ((s.setLots (s.lots.modify r.lotSlot fun l => l.bind (Lot.left (s.dispositionOf r) r.charge))).lot i).map _
            rw [State.lot_setLots_modify _ _ _ _ rfl]
            have graded : (s2.setRods (s2.rods.filter fun x => x.number != r.number)).lot i = s2.lot i := rfl
            rw [graded, State.lot_modLot]
            split
            · show _ = ((s.lot i).bind _).map _
              have same : ({ s with divert := s.dispositionOf r } : State).lot i = s.lot i := rfl
              rw [same]
              cases hl : s.lot i with
              | none => rfl
              | some l =>
                have keeps : ∀ d c, (l.countExit d c).inTrain = l.inTrain := fun d c => by cases d <;> rfl
                simp only [Option.map_some, Option.bind_some, Lot.left, leave, keeps]
            · rfl }

end Sys2Proof.Machine
end


section
/-! What an event can do to the state as the laws see it, move by move, and that every move keeps the laws of the modes, the
capacities and the train. -/

namespace Sys2Proof.Machine

/-! ## Rod numbers (R8) -/

/-- Numbers run from 1 to 4,294,967,295 in a cycle. -/
theorem nextNumber_toNat (n : Word32) : (nextNumber n).toNat = n.toNat % 4294967295 + 1 := by
  unfold nextNumber
  split <;> bv_omega

theorem nextNumber_iterate_toNat (n : Word32) (i : Nat) :
    (nextNumber^[i + 1] n).toNat = (n.toNat + i) % 4294967295 + 1 := by
  induction i with
  | zero => exact nextNumber_toNat n
  | succ i ih =>
    rw [Function.iterate_succ_apply', nextNumber_toNat, ih]
    omega

/-- Fewer than a lap of numbers on, no number comes again. -/
theorem nextNumber_iterate_injOn (n : Word32) : Set.InjOn (fun i => nextNumber^[i] n) (Set.Iio 5000) := by
  have apart : ∀ i j, i < j → j < 5000 → nextNumber^[i] n ≠ nextNumber^[j] n := by
    intro i j hij hj he
    obtain ⟨k, rfl⟩ := Nat.exists_eq_succ_of_ne_zero (Nat.ne_of_gt (Nat.zero_lt_of_lt hij))
    have hn := congrArg BitVec.toNat he
    rw [nextNumber_iterate_toNat] at hn
    have := n.isLt
    cases i with
    | zero =>
      simp only [Function.iterate_zero, id] at hn
      omega
    | succ i =>
      rw [nextNumber_iterate_toNat] at hn
      omega
  intro i hi j hj he
  rcases Nat.lt_trichotomy i j with h | h | h
  · exact absurd he (apart i j h hj)
  · exact h
  · exact absurd he.symm (apart j i h hi)

/-- Where the number found is held, so is every number passed over. -/
theorem held_of_freeNumber_held {held : Word32 → Bool} {fuel : Nat} {n : Word32} (h : held (freeNumber held fuel n) = true) :
    ∀ i ≤ fuel, held (nextNumber^[i] n) = true := by
  induction fuel generalizing n with
  | zero =>
    intro i hi
    rw [Nat.le_zero.mp hi]
    exact h
  | succ fuel ih =>
    unfold freeNumber at h
    cases hn : held n with
    | false => rw [hn, if_neg Bool.false_ne_true, hn] at h; exact absurd h Bool.false_ne_true
    | true =>
      rw [hn, if_pos rfl] at h
      intro i hi
      cases i with
      | zero => exact hn
      | succ i => exact ih h i (by omega)

theorem freeNumber_of_free {held : Word32 → Bool} {fuel : Nat} {n : Word32} (h : held n = false) : freeNumber held fuel n = n := by
  cases fuel with
  | zero => rfl
  | succ fuel => simp [freeNumber, h]

/-- A number is held by a live rod or the latched rod, and by nothing else. -/
theorem State.numberHeld_iff (s : State) (n : Word32) :
    s.numberHeld n = true ↔ n ∈ s.rods.map (·.number) ++ (s.capture.latch.map Latch.number).toList := by
  unfold State.numberHeld
  rw [Bool.or_eq_true, List.mem_append]
  refine or_congr (by simp [State.rod, List.find?_isSome]) ?_
  cases s.capture.latch with
  | none => simp
  | some l => simpa using eq_comm

/-- The number given to an ended rod is no rod's (R8). -/
theorem State.numberGiven_free (s : State) (h : s.rods.length ≤ 4012) : s.numberHeld s.numberGiven = false := by
  by_contra hheld
  rw [Bool.not_eq_false] at hheld
  have passed := held_of_freeNumber_held hheld
  let taken := s.rods.map (·.number) ++ (s.capture.latch.map Latch.number).toList
  have card : ((Finset.range (s.rods.length + 2)).image fun i => nextNumber^[i] s.capture.rodCounter).card ≤ taken.length := by
    refine (Finset.card_le_card fun n hn => ?_).trans taken.toFinset_card_le
    obtain ⟨i, hi, rfl⟩ := Finset.mem_image.mp hn
    exact List.mem_toFinset.mpr ((s.numberHeld_iff _).mp (passed i (Finset.mem_range.mp hi).le))
  rw [Finset.card_image_of_injOn, Finset.card_range] at card
  · have one : (s.capture.latch.map Latch.number).toList.length ≤ 1 := by cases s.capture.latch <;> simp
    simp only [taken, List.length_append, List.length_map] at card
    omega
  · refine (nextNumber_iterate_injOn _).mono fun i hi => ?_
    have := Finset.mem_range.mp (Finset.mem_coe.mp hi)
    show i < 5000
    omega

/-! ## The moves -/

/-- What an event does to the state as the laws see it is a row of these moves. -/
inductive Move : State → State → Prop
  /-- Nothing a law reads changes. -/
  | quiet {s t : State} (q : Quiet s t) : Move s t
  /-- The line enters another state (R132). -/
  | line {s : State} (new : LineState) (hi : new ≠ .init) (hl : new ≠ .unconfigured → s.store.layout.isSome = true)
      (hr : new.resting → s.line.state.resting ∨ s.runOutDone = true) : Move s (s.changeLine new)
  /-- The hold in force is named (R131). -/
  | hold {s : State} (mask : BitVec 10) (origin : HoldOrigin) (h : s.line.state = .hold) :
      Move s (s.setLine { s.line with holdMask := mask, holdOrigin := origin })
  /-- A chain goes to another state (R45 to R50). -/
  | seq {s : State} (c : Chain) (q : Sequencer) (timed : q.timed)
      (waiting : q.state = .idle ∨ q.state = .blocked → s.line.state.steps = true)
      (rest : s.line.state.resting → q.state = .stopped) (room : c = .pre → q.isOpen → s.takeCondition .pre = true) :
      Move s (s.setSeq c q)
  /-- The pre chain moves on, which closes its step (R52). -/
  | shiftPre {s : State} (q : Sequencer) (hs : s.preSeq.isOpen) (closed : ¬ q.isOpen) (timed : q.timed)
      (waiting : q.state = .idle ∨ q.state = .blocked → s.line.state.steps = true) : Move s (s.movePre.setSeq .pre q)
  /-- The main chain moves on with a gap at its last position (R55). -/
  | shiftMain {s : State} (hs : s.mainSeq.state ≠ .stopped) (hlast : lastRod s.mainChain = none) : Move s s.moveMain
  /-- The main chain moves on, and the rod at its last position leaves the train (R55, R113). -/
  | gradeMain {s : State} (r : Rod) (d : Disposition) (charge : Option Nat) (hs : s.mainSeq.state ≠ .stopped) (hr : r ∈ s.rods)
      (hlast : lastRod s.mainChain = some r.number) : Move s (s.freed r d charge).moveMain
  /-- The latched rod is written out into a lot (R35). -/
  | writeOut {s : State} (l : Latch) (r : Rod) (hl : s.capture.latch = some l) (hn : r.number = l.number)
      (hloc : r.location = .landing s.landing.length) (room : s.landing.length < 4) (lot : (s.lot r.lotSlot).isSome = true) :
      Move s ((s.landed r).modLot r.lotSlot fun lot => lot.countBirth r.number)
  /-- The latch is freed (R39). -/
  | unlatch {s : State} : Move s (s.setCapture { s.capture with latch := none })
  /-- A lot counts a rod scrapped (R38). -/
  | scrap {s : State} (slot : Nat) (n : Word32) : Move s (s.modLot slot fun lot => lot.countScrap n)
  /-- A lot is closed, and drains where it has no rod (R125, R127). -/
  | close {s : State} (slot : Nat) :
      Move s (s.setLots (s.lots.modify slot fun l => l.bind fun lot => Lot.drained { lot with state := .closed }))
  /-- The OPEN lot is closed and a lot opened in a free slot (R123). -/
  | lotOpen {s : State} (slot : Nat) (id : Word32) (profile gap : Nat) (free : s.closeOpenLot.lot slot = none)
      (fresh : ∀ i a, s.lot i = some a → a.id ≠ id) :
      Move s (s.closeOpenLot.setLots (s.closeOpenLot.lots.set slot (some (Lot.new id profile gap))))
  /-- A layout is set up on an empty line (R137, R175). -/
  | layout {s : State} (l : Layout) (now : Word32) (hr : s.line.state.resting) (hf : layoutFault l = none) :
      Move s (s.setupLayout l now)
  /-- A reset (R149, R150). -/
  | reset {s : State} (k : ResetKind) (now : Word32) (enabled : BitVec 20) : Move s (s.atReset k now enabled)

/-- The end of a rod on the spreader: it takes its number, and the latch where that is free (R8, R26, R33). -/
inductive RodEnds : State → State → Prop
  | latched {s : State} (l : Latch) (hs : s.capture.state = .hanging) (free : s.capture.latch = none) (hn : l.number = s.numberGiven) :
      RodEnds s (s.setCapture { s.capture with rodCounter := nextNumber s.numberGiven, latch := some l })
  | overrun {s : State} : RodEnds s (s.setCapture { s.capture with rodCounter := nextNumber s.numberGiven })

/-! ## Every move keeps the laws -/

theorem State.atReset_lawful (s : State) (k : ResetKind) (now : Word32) (enabled : BitVec 20) :
    Lawful (s.atReset k now enabled) where
  phase := ⟨fun _ => rfl, fun _ => rfl⟩
  hold _ := ⟨rfl, rfl⟩
  armed := ⟨fun _ => rfl, fun _ => rfl⟩
  timed c := by cases c <;> simp [State.atReset, Sequencer.atReset, Sequencer.timed]
  waiting c h := by cases c <;> simp [State.atReset, Sequencer.atReset] at h
  landing := Nat.zero_le _
  buffer := Nat.zero_le _
  reports := Nat.zero_le _
  room _ := rfl
  placed :=
    { nodup := List.nodup_nil
      latch := fun _ h => nomatch h
      stands := fun _ h => nomatch h
      live := fun loc n h => by cases loc <;> exact nomatch h }
  chains _ h := nomatch h
  configured h := absurd rfl h
  rest _ := ⟨⟨rfl, rfl, rfl, rfl, rfl⟩, rfl, rfl, rfl⟩
  job _ h := nomatch h

theorem Lawful.mainChain_pos {s : State} (h : Lawful s) (hs : ¬ s.line.state.resting) :
    0 < s.mainChain.length ∧ 0 < s.preChain.length := by
  cases hl : s.store.layout with
  | none => exact absurd (h.not_resting hl) hs
  | some l =>
    obtain ⟨hf, hp, hm⟩ := h.chains l hl
    have := layoutFault_bounds hf
    omega

theorem Lawful.not_resting_of_main {s : State} (h : Lawful s) (hs : s.mainSeq.state ≠ .stopped) : ¬ s.line.state.resting :=
  fun hr => hs (h.rest hr).2.2.2

theorem Lawful.not_resting_of_open {s : State} (h : Lawful s) (hs : s.preSeq.isOpen) : ¬ s.line.state.resting := fun hr => by
  simp [Sequencer.isOpen, (h.rest hr).2.2.1] at hs

theorem Lawful.setSeq {s : State} (h : Lawful s) (c : Chain) (q : Sequencer) (timed : q.timed)
    (waiting : q.state = .idle ∨ q.state = .blocked → s.line.state.steps = true)
    (rest : s.line.state.resting → q.state = .stopped) (room : c = .pre → q.isOpen → s.takeCondition .pre = true) :
    Lawful (s.setSeq c q) := by
  cases c with
  | pre => exact { h with
      timed := fun d => by cases d <;> [exact timed; exact h.timed .main]
      waiting := fun d => by cases d <;> [exact waiting; exact h.waiting .main]
      room := room rfl
      placed := h.placed.congr rfl rfl rfl rfl rfl rfl
      rest := fun hr => by
        obtain ⟨hn, hl, -, hm⟩ := h.rest hr
        exact ⟨hn, hl, rest hr, hm⟩ }
  | main => exact { h with
      timed := fun d => by cases d <;> [exact h.timed .pre; exact timed]
      waiting := fun d => by cases d <;> [exact h.waiting .pre; exact waiting]
      placed := h.placed.congr rfl rfl rfl rfl rfl rfl
      rest := fun hr => by
        obtain ⟨hn, hl, hp, -⟩ := h.rest hr
        exact ⟨hn, hl, hp, rest hr⟩ }

/-- The rod at P−1 finds room in the buffer (R48, R53). -/
theorem State.movePre_buffer {s : State} (h : s.buffer.length ≤ 8) (ht : s.takeCondition .pre = true) :
    (s.buffer ++ (lastRod s.preChain).toList).length ≤ 8 := by
  simp only [State.takeCondition, Bool.or_eq_true, Option.isNone_iff_eq_none, decide_eq_true_eq] at ht
  cases hl : lastRod s.preChain with
  | none => simpa [hl] using h
  | some n =>
    have : s.buffer.length < bufferCapacity := by simpa [hl] using ht
    rw [Option.toList_some, List.length_append]
    exact this

theorem Lawful.shiftPre {s : State} (h : Lawful s) (q : Sequencer) (hs : s.preSeq.isOpen) (closed : ¬ q.isOpen) (timed : q.timed)
    (waiting : q.state = .idle ∨ q.state = .blocked → s.line.state.steps = true) : Lawful (s.movePre.setSeq .pre q) := by
  have moving := h.not_resting_of_open hs
  exact { h with
    timed := fun d => by cases d <;> [exact timed; exact h.timed .main]
    waiting := fun d => by cases d <;> [exact waiting; exact h.waiting .main]
    landing := by
      have := h.landing
      show s.landing.tail.length ≤ 4
      rw [List.length_tail]
      omega
    buffer := State.movePre_buffer h.buffer (h.room hs)
    room := fun ho => absurd ho closed
    placed := (h.placed.movePre (h.mainChain_pos moving).2).congr rfl rfl rfl rfl rfl rfl
    chains := fun l hl => by
      obtain ⟨hf, hp, hm⟩ := h.chains l hl
      exact ⟨hf, (shiftIn_length _ _).trans hp, hm⟩
    rest := fun hr => absurd hr moving }

/-- The main chain moves on, whatever became of the rod table and the lots on the way. -/
theorem Lawful.moveMain {s t : State} (h : Lawful s) (hs : s.mainSeq.state ≠ .stopped) (rods : List Rod) (lots : List (Option Lot))
    (ht : t = ({ s with rods := rods, lots := lots } : State).moveMain) (placed : Placed t) : Lawful t := by
  subst ht
  exact { h with
    buffer := by
      have := h.buffer
      show s.buffer.tail.length ≤ 8
      rw [List.length_tail]
      omega
    room := fun ho => by
      have := h.room ho
      simp only [State.takeCondition, Bool.or_eq_true, decide_eq_true_eq] at this ⊢
      refine this.imp id fun hb => ?_
      show s.buffer.tail.length < bufferCapacity
      rw [List.length_tail]
      omega
    placed := placed
    chains := fun l hl => by
      obtain ⟨hf, hp, hm⟩ := h.chains l hl
      exact ⟨hf, hp, (shiftIn_length _ _).trans hm⟩
    rest := fun hr => absurd hr (h.not_resting_of_main hs) }

theorem Lawful.not_resting_of_latch {s : State} (h : Lawful s) {l : Latch} (hl : s.capture.latch = some l) :
    ¬ s.line.state.resting := fun hr => by
  simp [(h.rest hr).2.1] at hl

/-- A layout that passes its checks is set up on an empty line. -/
theorem Lawful.setupLayout {s : State} (h : Lawful s) (l : Layout) (now : Word32) (hr : s.line.state.resting)
    (hf : layoutFault l = none) : Lawful (s.setupLayout l now) := by
  obtain ⟨⟨hrods, hland, hbuf, -, -⟩, hlatch, hp, hm⟩ := h.rest hr
  have gaps : ∀ n, allGaps (List.replicate n none) = true := fun n => by simp [allGaps]
  have join : ∀ n p : Nat, ((List.replicate n (none : Option Word32))[p]?).join = none := fun n p => by
    rw [List.getElem?_replicate]
    split <;> rfl
  exact { h with
    room := fun ho => absurd hr (h.not_resting_of_open ho)
    placed :=
      { nodup := h.placed.nodup
        latch := h.placed.latch
        stands := fun r hm => by simp [State.setupLayout, hrods] at hm
        live := fun loc n hn => by
          cases loc with
          | landing i => simp [State.rodAt, State.setupLayout, hland] at hn
          | buffer i => simp [State.rodAt, State.setupLayout, hbuf] at hn
          | pre p => exact absurd ((join _ _).symm.trans hn) (by simp)
          | main q => exact absurd ((join _ _).symm.trans hn) (by simp) }
    chains := fun l' hl' => by
      cases hl'
      exact ⟨hf, List.length_replicate, List.length_replicate⟩
    configured := fun _ _ => rfl
    rest := fun _ => ⟨⟨hrods, hland, hbuf, gaps _, gaps _⟩, hlatch, hp, hm⟩ }

/-- No lot has a part in these laws. -/
theorem Lawful.setLots {s : State} (h : Lawful s) (lots : List (Option Lot)) : Lawful (s.setLots lots) :=
  { h with placed := h.placed.congr rfl rfl rfl rfl rfl rfl }

/-- Every move keeps the laws of the modes, the capacities and the train. -/
theorem Move.lawful {s t : State} (m : Move s t) (h : Lawful s) : Lawful t := by
  cases m with
  | quiet q => exact q.lawful h
  | line new hi hl hr => exact h.changeLine new hi hl hr
  | hold mask origin hs => exact { h with hold := fun hn => absurd hs hn, placed := h.placed.congr rfl rfl rfl rfl rfl rfl }
  | seq c q timed waiting rest room => exact h.setSeq c q timed waiting rest room
  | shiftPre q hs closed timed waiting => exact h.shiftPre q hs closed timed waiting
  | shiftMain hs hlast =>
    exact h.moveMain hs s.rods s.lots rfl (h.placed.moveMain_gap (h.mainChain_pos (h.not_resting_of_main hs)).1 hlast)
  | gradeMain r d charge hs hr hlast =>
    exact h.moveMain hs _ _ rfl (h.placed.moveMain_rod (h.mainChain_pos (h.not_resting_of_main hs)).1 d charge hlast)
  | writeOut l r hl hn hloc room lot =>
    exact { h with
      landing := by
        show (s.landing ++ [r.number]).length ≤ 4
        simpa using room
      placed := (h.placed.landed hl hn hloc).congr rfl rfl rfl rfl rfl rfl
      rest := fun hr => absurd hr (h.not_resting_of_latch hl) }
  | unlatch => exact { h with
      placed := { h.placed.congr (t := { s with capture := s.capture }) rfl rfl rfl rfl rfl rfl with latch := fun _ hl => nomatch hl }
      rest := fun hr => by
        obtain ⟨hn, -, hp, hm⟩ := h.rest hr
        exact ⟨hn, rfl, hp, hm⟩ }
  | scrap slot n => exact h.setLots _
  | close slot => exact h.setLots _
  | lotOpen slot id profile gap =>
    obtain ⟨lots, q⟩ := s.closeOpenLot_lots
    exact (q.lawful (h.setLots lots)).setLots _
  | layout l now hr hf => exact h.setupLayout l now hr hf
  | reset k now enabled => exact s.atReset_lawful k now enabled

/-- The end of a rod keeps them too: the number given is no rod's. -/
theorem RodEnds.lawful {s t : State} (e : RodEnds s t) (h : Lawful s) : Lawful t := by
  cases e with
  | latched l hs free hn =>
    have armed : ¬ s.line.state.resting := fun hr => by
      have : s.line.state.arms = false := by rcases hr with hr | hr | hr <;> rw [hr] <;> rfl
      simp [h.armed.mpr this] at hs
    exact { h with
      placed :=
        { h.placed.congr (t := { s with capture := s.capture }) rfl rfl rfl rfl rfl rfl with
          latch := fun l' hl' r hr hr' => by
            cases hl'
            have := (s.numberHeld_iff _).mpr (List.mem_append_left _ (List.mem_map_of_mem (f := (·.number)) hr))
            rw [hr', hn, s.numberGiven_free h.rods] at this
            cases this }
      rest := fun hr => absurd hr armed }
  | overrun => exact { h with placed := h.placed.congr rfl rfl rfl rfl rfl rfl }

end Sys2Proof.Machine
end


section
/-! The operations of the model as rows of moves: lots, capture, chains. -/

namespace Sys2Proof.Machine

/-! ## Rows of moves -/

/-- From a lawful state, `t` is reached from `s` by moves. -/
def Leads (s t : State) : Prop := Lawful s → Relation.ReflTransGen Move s t

theorem lawful_of_moves {s t : State} (m : Relation.ReflTransGen Move s t) (h : Lawful s) : Lawful t := by
  induction m with
  | refl => exact h
  | tail _ m ih => exact m.lawful ih

theorem Leads.lawful {s t : State} (l : Leads s t) (h : Lawful s) : Lawful t := lawful_of_moves (l h) h

theorem Leads.refl (s : State) : Leads s s := fun _ => .refl

theorem Leads.trans {s t u : State} (l : Leads s t) (l' : Leads t u) : Leads s u := fun h => (l h).trans (l' (l.lawful h))

theorem Leads.move {s t : State} (m : Lawful s → Move s t) : Leads s t := fun h => .single (m h)

theorem Leads.quiet {s t : State} (q : Quiet s t) : Leads s t := .move fun _ => .quiet q

/-! ## Lots (R125) -/

theorem State.closeOpenLot_leads (s : State) : Leads s s.closeOpenLot := by
  cases h : s.openSlot with
  | none =>
    unfold State.closeOpenLot
    rw [h]
    exact .refl s
  | some slot => exact (Leads.move fun _ => .close slot).trans (.quiet (s.closeOpenLot_quiet slot h))

end Sys2Proof.Machine
end


section
/-! The events of the capture unit and of the chains as rows of moves. -/

namespace Sys2Proof.Machine

/-! ## Write-outs and the ends of a rod (R25 to R39) -/

/-- What a write-out attempt does: nothing, a NO_LOT scrap that frees the latch, or a write-out into the OPEN lot (R34). -/
theorem State.writeOutAttempt_cases (s : State) :
    Quiet s s.writeOutAttempt ∨ Quiet (s.setCapture { s.capture with latch := none }) s.writeOutAttempt ∨
    ∃ (l : Latch) (r : Rod), s.capture.latch = some l ∧ r.number = l.number ∧ r.location = .landing s.landing.length ∧
      s.landing.length < 4 ∧ (s.lot r.lotSlot).isSome = true ∧
      Quiet ((s.landed r).modLot r.lotSlot fun lot => lot.countBirth r.number) s.writeOutAttempt := by
  unfold State.writeOutAttempt
  cases hl : s.capture.latch with
  | none => exact .inl (.refl s)
  | some l =>
    cases s.openSlot with
    | none => exact .inr (.inl ((s.offerReport_quiet _ _ _).trans (State.raise_quiet _ _ _)).unlatch)
    | some slot =>
      dsimp only
      split
      · rename_i room
        cases hlot : s.lot slot with
        | none => exact .inl (.refl s)
        | some lot =>
          cases hp : s.profile lot.profile with
          | none =>
            rw [Option.bind_some, hp]
            exact .inl (.refl s)
          | some p =>
            rw [Option.bind_some, hp]
            refine .inr (.inr ⟨l, l.record s.massFactors slot p s.landing.length, rfl, rfl, rfl, room, ?_, ?_⟩)
            · exact (congrArg Option.isSome hlot).trans rfl
            · obtain ⟨n, hn⟩ := State.landingNotice_frame ((s.landed (l.record s.massFactors slot p s.landing.length)).modLot slot
                fun lot => lot.countBirth l.number)
              exact Quiet.trans (.of_frame ⟨_, _, n, hn⟩) (State.wakeZone_quiet _ 0)
      · exact .inl (.refl s)

theorem State.writeOutAttempt_leads (s : State) : Leads s s.writeOutAttempt := by
  rcases s.writeOutAttempt_cases with q | q | ⟨l, r, hl, hn, hloc, room, lot, q⟩
  · exact .quiet q
  · exact (Leads.move fun _ => .unlatch).trans (.quiet q)
  · exact (Leads.move fun _ => .writeOut l r hl hn hloc room lot).trans (.quiet q)

/-- A write-out attempt does the same whatever the pre chain's sequencer. -/
theorem State.writeOutAttempt_setSeq_leads (s : State) (p : Sequencer) : Leads (s.setSeq .pre p) (s.writeOutAttempt.setSeq .pre p) := by
  rcases s.writeOutAttempt_cases with q | q | ⟨l, r, hl, hn, hloc, room, lot, q⟩
  · exact .quiet (q.setSeq .pre p)
  · exact (Leads.move fun _ => .unlatch).trans (.quiet (q.setSeq .pre p))
  · have written : Move (s.setSeq .pre p) (((s.landed r).modLot r.lotSlot fun lot => lot.countBirth r.number).setSeq .pre p) :=
      .writeOut (s := s.setSeq .pre p) l r hl hn hloc room lot
    exact (Leads.move fun _ => written).trans (.quiet (q.setSeq .pre p))

theorem State.scrapOverrun_leads (s : State) (n cut : Word32) : Leads s (s.scrapOverrun n cut) := by
  unfold State.scrapOverrun
  split
  · exact .quiet ((s.offerReport_quiet _ _ _).trans (State.raise_quiet _ _ _))
  · exact (Leads.quiet (s.offerReport_quiet _ _ _)).trans <| (Leads.move fun _ => .scrap _ n).trans (.quiet (State.raise_quiet _ _ _))

/-- The state after the rod on the spreader has taken its number and COUNTER_OVERFLOW has been raised (R8, R30). -/
def State.numbered (s : State) : State :=
  let s1 := s.setCapture { s.capture with rodCounter := nextNumber s.numberGiven }
  if (s.capture.channels.map (·.overflow)).any id then s1.raise .counterOverflow s.numberGiven else s1

/-- The rod on the spreader as it enters the latch (R33). -/
def State.endedLatch (s : State) (noCut : Bool) : Latch :=
  { number := s.numberGiven, hangTime := s.capture.hangTime, cutTime := s.clock, counts := s.capture.channels.map (·.count)
    overflow := s.capture.channels.map (·.overflow), noCut := noCut }

theorem State.numbered_frame (s : State) : ∃ n, s.numbered =
    { s with capture := { s.capture with rodCounter := nextNumber s.numberGiven }, notices := n } := by
  unfold State.numbered
  dsimp only
  split
  · exact ⟨_, rfl⟩
  · exact ⟨s.notices, rfl⟩

theorem State.numbered_latch (s : State) : s.numbered.capture.latch = s.capture.latch := by
  obtain ⟨n, h⟩ := s.numbered_frame
  rw [h]

theorem State.numbered_quiet (s : State) :
    Quiet (s.setCapture { s.capture with rodCounter := nextNumber s.numberGiven }) s.numbered := by
  obtain ⟨n, h⟩ := s.numbered_frame
  rw [h]
  exact {}

/-- A rod that ends with the latch free enters it and is tried for a write-out (R26, R34). -/
theorem State.endRod_free (s : State) (noCut : Bool) (h : s.capture.latch = none) : s.endRod noCut =
    ((s.numbered.setCapture { s.numbered.capture with latch := some (s.endedLatch noCut) }).writeOutAttempt).clearChannels := by
  unfold State.endRod
  dsimp only
  split
  · rfl
  · rename_i l hl
    exact nomatch h.symm.trans (s.numbered_latch.symm.trans hl)

/-- A rod that ends with the latch occupied is scrapped OVERRUN (R38). -/
theorem State.endRod_occupied (s : State) (noCut : Bool) {l : Latch} (h : s.capture.latch = some l) :
    s.endRod noCut = (s.numbered.scrapOverrun s.numberGiven s.clock).clearChannels := by
  unfold State.endRod
  dsimp only
  split
  · rename_i hl
    exact nomatch h.symm.trans (s.numbered_latch.symm.trans hl)
  · rfl

/-- The end of a rod on the spreader (R26, R27): the rod takes its number and the free latch or none, and what follows is moves. -/
theorem State.endRod_ends (s : State) (noCut : Bool) (h : s.capture.state = .hanging) :
    ∃ u, RodEnds s u ∧ Leads u (s.endRod noCut) := by
  have q := s.numbered_quiet
  cases hl : s.capture.latch with
  | none =>
    rw [s.endRod_free noCut hl]
    refine ⟨_, .latched (s.endedLatch noCut) h hl rfl, Leads.trans (.quiet ?_) ((State.writeOutAttempt_leads _).trans (.quiet {}))⟩
    exact { q with latch := rfl }
  | some l =>
    rw [s.endRod_occupied noCut hl]
    exact ⟨_, .overrun, (Leads.quiet q).trans ((State.scrapOverrun_leads _ _ _).trans (.quiet {}))⟩

/-- A rod begins where the capture unit is armed (R25). -/
theorem State.beginRod_leads (s : State) (h : s.line.state.arms = true) : Leads s s.beginRod := by
  have q : Quiet s s.clearChannels.passTrim := (s.mapChannels_quiet _).trans (State.passTrim_quiet _)
  intro hs
  have armed : s.capture.state ≠ .disarmed := fun hd => by simp [hs.armed.mp hd] at h
  have begun : Quiet s s.beginRod := { q with armed := ⟨fun hd => CaptureState.noConfusion hd, fun hd => absurd hd armed⟩ }
  exact Leads.quiet begun hs

/-- The line state that a lawful capture unit is armed in. -/
theorem Lawful.arms {s : State} (h : Lawful s) (hc : s.capture.state ≠ .disarmed) : s.line.state.arms = true := by
  cases ha : s.line.state.arms with
  | true => rfl
  | false => exact absurd (h.armed.mpr ha) hc

theorem State.settle_leads (s : State) : Leads s s.settle := by
  rcases s.settle_cases with h | ⟨hl, hd, h⟩ <;> rw [h]
  · exact .refl s
  · refine .move fun hs => .line .cold LineState.noConfusion (fun _ => hs.configured ?_ ?_) fun _ => .inr hd <;> rw [hl] <;>
      exact LineState.noConfusion

/-- What a HANG or a CUT edge does (R25 to R28): in HANGING it ends a rod first. -/
def EdgeLeads (s t : State) : Prop :=
  Leads s t ∨ (s.capture.state = .hanging ∧ (Lawful s → ∃ u, RodEnds s u ∧ Leads u t))

theorem EdgeLeads.trans {s t u : State} (e : EdgeLeads s t) (l : Leads t u) : EdgeLeads s u :=
  e.imp (·.trans l) fun ⟨hs, he⟩ => ⟨hs, fun h => by
    obtain ⟨v, hv, lv⟩ := he h
    exact ⟨v, hv, lv.trans l⟩⟩

theorem State.hangEdge_leads (s : State) : EdgeLeads s s.hangEdge := by
  unfold State.hangEdge
  cases hc : s.capture.state with
  | disarmed => exact .inl (.quiet (s.raiseNat_quiet _ _))
  | idle => exact .inl fun h => s.beginRod_leads (h.arms (by simp [hc])) h
  | hanging =>
    refine .inr ⟨hc, fun h => ?_⟩
    obtain ⟨u, hu, l⟩ := s.endRod_ends true hc
    obtain ⟨c, rs, ls, lots, zs, a, q, n, hf⟩ := s.endRod_frame true
    have arms : (s.endRod true).line.state.arms = true := by
      rw [hf]
      exact h.arms (by simp [hc])
    exact ⟨u, hu, l.trans ((s.endRod true).beginRod_leads arms)⟩

theorem State.cutEdge_leads (s : State) : EdgeLeads s s.cutEdge := by
  unfold State.cutEdge
  cases hc : s.capture.state with
  | disarmed => exact .inl (.quiet (s.raiseNat_quiet _ _))
  | idle => exact .inl (.quiet (s.raiseNat_quiet _ _))
  | hanging =>
    refine .inr ⟨hc, fun h => ?_⟩
    obtain ⟨u, hu, l⟩ := s.endRod_ends false hc
    obtain ⟨c, rs, ls, lots, zs, a, q, n, hf⟩ := s.endRod_frame false
    refine ⟨u, hu, l.trans fun h' => .single (.quiet ?_)⟩
    have arms : (s.endRod false).line.state.arms = true := by
      rw [hf]
      exact h.arms (by simp [hc])
    exact { armed := ⟨fun hd => CaptureState.noConfusion hd, fun hd => by simp [h'.armed.mp hd] at arms⟩ }

/-! ## The sequencers' moves (R45 to R50) -/

theorem State.stopChain_leads (s : State) (c : Chain) : Leads s (s.stopChain c) :=
  .move fun _ => .seq c _ (by simp [Sequencer.timed, Sequencer.enter]) (by simp [Sequencer.enter]) (fun _ => rfl)
    fun _ ho => by simp [Sequencer.isOpen, Sequencer.enter] at ho

theorem LineState.steps_not_resting {l : LineState} (h : l.steps = true) : ¬ l.resting := by
  rintro (rfl | rfl | rfl) <;> exact absurd h Bool.false_ne_true

theorem State.blockChain_leads (s : State) (c : Chain) (h : s.line.state.steps = true) : Leads s (s.blockChain c) :=
  .move fun _ => .seq c _ (by simp [Sequencer.timed, Sequencer.enter]) (fun _ => h) (fun hr => absurd hr (LineState.steps_not_resting h))
    fun _ ho => by simp [Sequencer.isOpen, Sequencer.enter] at ho

/-- A step is issued under its take condition (R48, R49). -/
theorem State.issueStep_leads (s : State) (c : Chain) (h : s.line.state.steps = true) (ht : s.takeCondition c = true) :
    Leads s (s.issueStep c) :=
  .move fun _ => .seq c _ (by simp [Sequencer.timed, Sequencer.enter]) (fun _ => h) (fun hr => absurd hr (LineState.steps_not_resting h))
    fun hc _ => hc ▸ ht

theorem State.releaseBlocked_leads (s : State) (c : Chain) : Leads s (s.releaseBlocked c) := by
  unfold State.releaseBlocked
  split
  · rename_i hb
    exact fun h => s.issueStep_leads c (h.waiting c (.inr hb.1)) hb.2 h
  · exact .refl s

/-! ## The shifts (R51, R52, R55) -/

theorem State.preShift_setSeq_leads (s : State) (q : Sequencer) (hs : s.preSeq.isOpen) (closed : ¬ q.isOpen) (timed : q.timed)
    (waiting : q.state = .idle ∨ q.state = .blocked → s.line.state.steps = true) : Leads s (s.preShift.setSeq .pre q) := by
  have gap : Quiet s.movePre (if s.landing.isEmpty then s.movePre.countGap else s.movePre) := by
    split
    · exact s.movePre.countGap_quiet
    · exact .refl _
  exact (Leads.move fun _ => .shiftPre q hs closed timed waiting).trans <|
    (Leads.quiet (gap.setSeq .pre q)).trans (State.writeOutAttempt_setSeq_leads _ q)

theorem State.mainShift_gap {s : State} (h : lastRod s.mainChain = none) : s.mainShift = s.moveMain := by
  unfold State.mainShift
  rw [h]

theorem State.mainShift_rod {s : State} {n : Word32} (h : lastRod s.mainChain = some n) :
    s.mainShift = (s.gradeExit n s.clock).moveMain := by
  unfold State.mainShift
  rw [h]

theorem State.gradeExit_live {s : State} {n : Word32} {r : Rod} (h : s.rod n = some r) (now : Word32) :
    s.gradeExit n now = s.gradeRod (s.finalAccount now r) now := by
  unfold State.gradeExit
  rw [h]

/-- The final accounting of a rod leaves its number and its lot, so the rod freed is the same (R107). -/
theorem State.freed_finalAccount (s : State) (now : Word32) (r : Rod) (d : Disposition) (charge : Option Nat) :
    s.freed (s.finalAccount now r) d charge = s.freed r d charge := by
  have key := s.accounted_key s.lastZone (s.zoneLatch s.lastZone) now r
  simp only [Rod.key, Prod.mk.injEq] at key
  obtain ⟨number, slot, -⟩ := key
  unfold State.freed State.finalAccount
  rw [number, slot]

theorem State.mainShift_leads (s : State) (hs : s.mainSeq.state ≠ .stopped) : Leads s s.mainShift := by
  cases hlast : lastRod s.mainChain with
  | none =>
    rw [State.mainShift_gap hlast]
    exact .move fun _ => .shiftMain hs hlast
  | some n =>
    intro h
    obtain ⟨r, hr, hn, -⟩ := h.placed.live _ _ (s.rodAt_last.trans hlast)
    obtain ⟨r', hr'⟩ : ∃ r', s.rod n = some r' := Option.isSome_iff_exists.mp (by
      simp only [State.rod, List.find?_isSome]
      exact ⟨r, hr, by simp [hn]⟩)
    have hn' : r'.number = n := by simpa using List.find?_some hr'
    have graded := (s.gradeRod_quiet (s.finalAccount s.clock r') s.clock).moveMain
    rw [State.freed_finalAccount] at graded
    rw [State.mainShift_rod hlast, State.gradeExit_live hr']
    exact Leads.trans (.move fun _ => .gradeMain r' _ _ hs (List.mem_of_find?_eq_some hr') (hn' ▸ hlast)) (.quiet graded) h

theorem State.applyShift_pre (s : State) : s.applyShift .pre = (s.preShift.zonesHandOff .pre).countShift .pre :=
  congrArg (State.countShift · .pre) (State.handOff_pre _ _)

theorem State.applyShift_main (s : State) :
    s.applyShift .main = (s.mainShift.handOff .main (!s.buffer.isEmpty)).countShift .main := rfl

/-- The pre chain's sequencer along its shift, and the main chain's along its own, change in what no law reads (R51). -/
theorem State.applyShift_like (s : State) (c : Chain) :
    (s.seq c).Like ((s.applyShift c).seq c) ∧ (s.applyShift c).line = s.line := by
  cases c with
  | pre =>
    obtain ⟨_, _, _, _, _, _, _, _, _, _, h⟩ := s.preShift_frame
    have q := (s.preShift.zonesHandOff_quiet .pre).trans (State.countShift_quiet _ .pre)
    have seq : s.preShift.preSeq = s.preSeq := by rw [h]
    obtain ⟨zs, a, n, p, m, h'⟩ := s.preShift.handOff_frame .pre (!s.buffer.isEmpty)
    refine ⟨?_, ?_⟩
    · rw [State.applyShift_pre, State.seq_pre, ← seq]
      exact q.seq .pre
    · show ((s.preShift.handOff .pre (!s.buffer.isEmpty)).countShift .pre).line = s.line
      rw [h', h]
      rfl
  | main =>
    obtain ⟨_, _, _, _, _, _, _, h⟩ := s.mainShift_frame
    obtain ⟨zs, a, n, p, m, h'⟩ := s.mainShift.handOff_frame .main (!s.buffer.isEmpty)
    have seq : s.mainShift.mainSeq = s.mainSeq := by rw [h]
    refine ⟨?_, ?_⟩
    · have released : (s.mainShift.handOff .main (!s.buffer.isEmpty)).mainSeq = (s.mainShift.zonesHandOff .main).mainSeq := by
        rw [State.handOff_main]
        split
        · unfold State.releaseBlocked
          split <;> rfl
        · rfl
      have q := s.mainShift.zonesHandOff_quiet .main
      have like : s.mainSeq.Like (s.mainShift.handOff .main (!s.buffer.isEmpty)).mainSeq := by
        rw [released, ← seq]
        exact q.seq .main
      exact like.trans ⟨rfl, rfl, id⟩
    · show ((s.mainShift.handOff .main (!s.buffer.isEmpty)).countShift .main).line = s.line
      rw [h', h]
      rfl

theorem Sequencer.isOpen.moving {q : Sequencer} (h : q.isOpen) : q.state ≠ .stopped := by
  rintro hs
  simp [Sequencer.isOpen, hs] at h

theorem State.countShift_setSeq (s : State) (c : Chain) (q : Sequencer) : (s.countShift c).setSeq c q = s.setSeq c q := by
  cases c <;> rfl

theorem State.handOff_main_leads (s : State) (b : Bool) : Leads s (s.handOff .main b) := by
  have zones := Leads.quiet (s.zonesHandOff_quiet .main)
  rw [State.handOff_main]
  split
  · exact zones.trans (State.releaseBlocked_leads _ _)
  · exact zones

/-- A shift of a chain whose step is open, after which the sequencer closes it (R51, R59, R60). -/
theorem State.applyShift_leads (s : State) (c : Chain) (q : Sequencer) (hs : (s.seq c).isOpen) (closed : ¬ q.isOpen)
    (timed : q.timed) (waiting : q.state = .idle ∨ q.state = .blocked → s.line.state.steps = true) :
    Leads s ((s.applyShift c).setSeq c q) := by
  cases c with
  | pre =>
    refine (s.preShift_setSeq_leads q hs closed timed waiting).trans (.quiet ?_)
    rw [State.applyShift_pre, State.countShift_setSeq]
    exact (s.preShift.zonesHandOff_quiet .pre).setSeq .pre q
  | main =>
    have shifted : Leads s (s.applyShift .main) := by
      rw [State.applyShift_main]
      exact (s.mainShift_leads hs.moving).trans ((State.handOff_main_leads _ _).trans (.quiet (State.countShift_quiet _ _)))
    obtain ⟨like, line⟩ := s.applyShift_like .main
    refine shifted.trans fun h => .single (.seq .main q timed ?_ ?_ fun hc => Chain.noConfusion hc)
    · rw [line]
      exact waiting
    · exact fun hr => absurd hr (h.not_resting_of_main (like.isOpen.mpr hs).moving)

theorem State.afterStep_eq (s : State) (c : Chain) : ∃ q : Sequencer, s.afterStep c = s.setSeq c q ∧ ¬ q.isOpen ∧ q.timed ∧
    (q.state = .idle ∨ q.state = .blocked → s.line.state.steps = true) := by
  unfold State.afterStep
  split
  · exact ⟨_, rfl, by simp [Sequencer.isOpen, Sequencer.enter], by simp [Sequencer.timed, Sequencer.enter], by simp [Sequencer.enter]⟩
  · rename_i hn
    refine ⟨_, rfl, by simp [Sequencer.isOpen, Sequencer.enter], by simp [Sequencer.timed, Sequencer.enter], fun _ => ?_⟩
    cases hst : s.line.state.steps with
    | true => rfl
    | false => exact absurd (.inl hst) hn

theorem State.stepDone_leads (s : State) (c : Chain) : Leads s (s.stepDone c) := by
  obtain ⟨like, line⟩ := s.applyShift_like c
  unfold State.stepDone
  cases hst : (s.seq c).state with
  | stepping =>
    obtain ⟨q, hq, closed, timed, waiting⟩ := (s.applyShift c).afterStep_eq c
    rw [line] at waiting
    show Leads s ((s.applyShift c).afterStep c)
    rw [hq]
    exact s.applyShift_leads c q (.inl hst) closed timed waiting
  | jammed =>
    dsimp only
    split
    · exact .quiet (s.raiseNat_quiet _ _)
    · rename_i late
      have jam : ((s.applyShift c).seq c).state = .jammed := like.state.trans hst
      refine fun h => Leads.trans (s.applyShift_leads c _ (.inr ⟨hst, by simpa using late⟩) ?_ ?_ ?_) (.quiet (State.raiseNat_quiet _ _ _)) h
      · simp [Sequencer.isOpen, jam]
      · exact like.timed (h.timed c)
      · simp [jam]
  | stopped => exact .quiet (s.raiseNat_quiet _ _)
  | idle => exact .quiet (s.raiseNat_quiet _ _)
  | blocked => exact .quiet (s.raiseNat_quiet _ _)

end Sys2Proof.Machine
end


section
/-! The line requests, the chains' timers and CHAIN CLEAR, the lot requests, the zones' events as rows of moves. -/

namespace Sys2Proof.Machine

/-! ## Changes of the line state (R132 to R148) -/

/-- The line goes on from a state other than INIT and UNCONFIGURED to one in which the train moves or may stand. -/
theorem State.changeLine_leads (s : State) (new : LineState) (hs : s.line.state ≠ .init ∧ s.line.state ≠ .unconfigured)
    (hn : ¬ new.resting) : Leads s (s.changeLine new) :=
  .move fun h => .line new (fun he => hn (.inl he)) (fun _ => h.configured hs.1 hs.2) fun hr => absurd hr hn

theorem State.tryRunning_leads (s : State) : Leads s s.tryRunning := by
  rcases s.tryRunning_cases with h | ⟨hl, -, h⟩ <;> rw [h]
  · exact .refl s
  · exact s.changeLine_leads .running (by simp [hl]) (by simp [LineState.resting])

theorem State.eachZone_leads {s t : State} (l : Leads s t) (f : State → Nat → State)
    (hf : ∀ s z, ∃ zs a, f s z = { s with zones := zs, arbiter := a }) : Leads s (t.eachZone f) :=
  l.trans (.quiet (.of_zones (t.eachZone_frame f hf)))

theorem State.holdLine_leads (s : State) (mask : BitVec 10) (o : HoldOrigin) (h : s.line.state.holdable = true) :
    Leads s (s.holdLine mask o) := by
  obtain ⟨c, p, m, zs, n, heq⟩ := s.changeLine_frame .hold
  have held : (s.changeLine .hold).line.state = .hold := by
    rw [heq]
    rfl
  have old : s.line.state ≠ .init ∧ s.line.state ≠ .unconfigured := by
    constructor <;> rintro hl <;> rw [hl] at h <;> cases h
  exact (s.changeLine_leads .hold old (by simp [LineState.resting])).trans <|
    (Leads.move fun _ => .hold mask o held).trans (.quiet (.of_zones (State.holdZones_frame _ mask)))

theorem State.broadcastHold_leads (s : State) : Leads s s.broadcastHold := by
  unfold State.broadcastHold
  split
  · exact s.holdLine_leads _ _ ‹_›
  · exact .refl s

theorem State.startLine_leads (s : State) (p : Nat) (h : s.line.state = .cold ∨ s.line.state = .shutdown) :
    Leads s (s.startLine p) := by
  have old : s.line.state ≠ .init ∧ s.line.state ≠ .unconfigured := by rcases h with h | h <;> simp [h]
  exact (State.eachZone_leads ((s.changeLine_leads .starting old (by simp [LineState.resting])).trans
    (.quiet (.of_zones ⟨_, _, rfl⟩))) _ State.startZone_frame).trans (State.tryRunning_leads _)

theorem State.releaseLine_leads (s : State) (h : s.line.state = .hold) : Leads s s.releaseLine :=
  (State.eachZone_leads (s.changeLine_leads .starting (by simp [h]) (by simp [LineState.resting])) _ State.releaseZone_frame).trans
    (State.tryRunning_leads _)

theorem State.runOutLine_leads (s : State) (h : s.line.state = .running) : Leads s s.runOutLine := by
  obtain ⟨ls, q, n, heq⟩ := s.closeOpenLot_frame
  have old : s.closeOpenLot.line.state = .running := by
    rw [heq]
    exact h
  exact (State.eachZone_leads (s.closeOpenLot_leads.trans (State.changeLine_leads _ .runOut (by simp [old])
    (by simp [LineState.resting]))) _ State.runOutZone_frame).trans (State.settle_leads _)

theorem State.shutLine_leads (s : State) (h : s.line.state.shuttable = true) : Leads s s.shutLine := by
  have old : s.line.state ≠ .init ∧ s.line.state ≠ .unconfigured := by
    constructor <;> rintro hl <;> rw [hl] at h <;> cases h
  exact (s.changeLine_leads .shutdown old (by simp [LineState.resting])).trans (.quiet (.of_zones (State.shutZones_frame _)))

theorem lineStartOp_leads (s : State) : Leads s (lineStartOp s).1 := by
  unfold lineStartOp
  split
  · exact .refl s
  · exact .refl s
  · rename_i hr _
    refine s.startLine_leads _ ?_
    by_contra hn
    simp only [State.lineStartRefusal, if_pos (not_or.mp hn), reduceCtorEq] at hr

theorem lineHoldOp_leads (mask : BitVec 16) (s : State) : Leads s (lineHoldOp mask s).1 := by
  unfold lineHoldOp
  split
  · exact s.holdLine_leads _ _ ‹_›
  · exact .refl s

theorem lineReleaseOp_leads (s : State) : Leads s (lineReleaseOp s).1 := by
  unfold lineReleaseOp
  split
  · exact s.releaseLine_leads ‹_›
  · exact .refl s

theorem lineRunOutOp_leads (s : State) : Leads s (lineRunOutOp s).1 := by
  unfold lineRunOutOp
  split
  · exact .refl s
  · rename_i h
    split
    · exact .refl s
    · exact s.runOutLine_leads (not_ne_iff.mp h)

theorem lineShutdownOp_leads (s : State) : Leads s (lineShutdownOp s).1 := by
  unfold lineShutdownOp
  split
  · exact s.shutLine_leads ‹_›
  · exact .refl s

theorem zoneRestartOp_leads (zone : Byte) (s : State) : Leads s (zoneRestartOp zone s).1 := by
  unfold zoneRestartOp
  split
  · exact .refl s
  · split
    · exact .refl s
    · split
      · exact (Leads.quiet (.of_zones (s.restartZone_frame _))).trans (State.settle_leads _)
      · exact .refl s

/-! ## The chains' timers and CHAIN CLEAR (R47 to R60) -/

theorem Lawful.not_resting_of_moving {s : State} (h : Lawful s) {c : Chain} (hs : (s.seq c).state ≠ .stopped) :
    ¬ s.line.state.resting := fun hr => by
  obtain ⟨-, -, hp, hm⟩ := h.rest hr
  cases c <;> [exact hs hp; exact hs hm]

theorem State.intervalExpiry_leads (s : State) (c : Chain) : Leads s (s.intervalExpiry c) := by
  unfold State.intervalExpiry
  split
  · rename_i hi
    have steps : Lawful s → s.line.state.steps = true := fun h => h.waiting c (.inl hi)
    split
    · exact s.stopChain_leads c
    · split
      · exact fun h => s.issueStep_leads c (steps h) ‹_› h
      · exact fun h => s.blockChain_leads c (steps h) h
  · exact .refl s

theorem LineState.holdable_of_steps {l : LineState} (h : l.steps = true) : l.holdable = true := by
  cases l <;> simp [LineState.steps, LineState.holdable] at h ⊢

theorem State.stepTimeout_leads (s : State) (c : Chain) : Leads s (s.stepTimeout c) := by
  unfold State.stepTimeout
  split
  · rename_i hs
    have jam : Leads s (s.setSeq c { (s.seq c).enter s.clock .jammed with lateApplied := false }) :=
      .move fun h => .seq c _ (by simp [Sequencer.timed, Sequencer.enter]) (by simp [Sequencer.enter])
        (fun hr => absurd hr (h.not_resting_of_moving (c := c) (by simp [hs])))
        fun hc _ => by
          subst hc
          exact h.room (.inl hs)
    have raised := jam.trans (.quiet (State.raiseNat_quiet _ .chainJam (chainCode c)))
    dsimp only
    split
    · rename_i hl
      refine raised.trans (State.holdLine_leads _ _ _ ?_)
      have line : ((s.setSeq c { (s.seq c).enter s.clock .jammed with lateApplied := false }).raiseNat .chainJam (chainCode c)).line
          = s.line := State.setSeq_line _ _ _
      rw [line]
      exact LineState.holdable_of_steps hl
    · exact raised
  · exact .refl s

theorem State.blockLimit_leads (s : State) (c : Chain) : Leads s (s.blockLimit c) := by
  unfold State.blockLimit
  split
  · rename_i hb
    refine .quiet (Quiet.trans (s.setSeq_quiet c _ ?_) (State.raiseNat_quiet _ _ _))
    exact ⟨rfl, rfl, fun ⟨hi, hst, _⟩ => ⟨hi, hst, fun _ => hb.1⟩⟩
  · exact .refl s

theorem State.stripReadyChange_leads (s : State) (level : Bool) : Leads s (s.stripReadyChange level) := by
  have level : Quiet s (s.setPins { s.pins with stripReady := level }) := {}
  unfold State.stripReadyChange
  dsimp only
  split
  · exact (Leads.quiet level).trans (State.releaseBlocked_leads _ _)
  · exact .quiet level

/-- The end of a jam sets the chain's sequencer IDLE or STOPPED (R60). -/
theorem State.clearJam_eq (s : State) (c : Chain) (moved : Byte) :
    ∃ q : Sequencer, s.clearJam c moved = (if (s.seq c).clearShifts moved then s.applyShift c else s).setSeq c q ∧ ¬ q.isOpen ∧
      q.timed ∧ (q.state = .idle ∨ q.state = .blocked → s.line.state.steps = true) := by
  have line : (if (s.seq c).clearShifts moved then s.applyShift c else s).line = s.line := by
    split
    · exact (s.applyShift_like c).2
    · rfl
  unfold State.clearJam
  generalize (if (s.seq c).clearShifts moved then s.applyShift c else s) = u at line ⊢
  have twice : ∀ a b, (u.setSeq c a).setSeq c b = u.setSeq c b := by intro a b; cases c <;> rfl
  dsimp only
  split
  · rename_i hst
    refine ⟨_, twice _ _, by simp [Sequencer.isOpen, Sequencer.enter], by simp [Sequencer.timed, Sequencer.enter], fun _ => ?_⟩
    have kept : (u.setLate c false).line = u.line := State.setSeq_line _ _ _
    rw [← line, ← kept]
    exact hst
  · exact ⟨_, twice _ _, by simp [Sequencer.isOpen, Sequencer.enter], by simp [Sequencer.timed, Sequencer.enter],
      by simp [Sequencer.enter]⟩

theorem State.clearJam_leads (s : State) (c : Chain) (moved : Byte) (hj : (s.seq c).state = .jammed) :
    Leads s (s.clearJam c moved) := by
  obtain ⟨q, heq, closed, timed, waiting⟩ := s.clearJam_eq c moved
  rw [heq]
  split
  · rename_i hc
    refine s.applyShift_leads c q (.inr ⟨hj, ?_⟩) closed timed waiting
    simp only [Sequencer.clearShifts, Bool.and_eq_true, Bool.not_eq_eq_eq_not, Bool.not_true] at hc
    exact hc.1
  · exact .move fun h => .seq c q timed waiting (fun hr => absurd hr (h.not_resting_of_moving (c := c) (by simp [hj])))
      fun _ ho => absurd ho closed

theorem chainClearOp_leads (chain moved : Byte) (s : State) : Leads s (chainClearOp chain moved s).1 := by
  unfold chainClearOp
  split
  · exact .refl s
  · split
    · exact .refl s
    · split
      · exact .refl s
      · exact (s.clearJam_leads _ moved (not_ne_iff.mp ‹_›)).trans (State.settle_leads _)

end Sys2Proof.Machine
end


section
/-! The lot requests, the probe bus, the store and the link as rows of moves, and every command of the part. -/

namespace Sys2Proof.Machine

/-! ## Lot requests (R123, R126) -/

theorem State.lot_of_freeSlot {s : State} {slot : Nat} (h : s.freeSlot = some slot) : s.lot slot = none := by
  obtain ⟨hlt, hn, -⟩ := List.findIdx?_eq_some_iff_getElem.mp h
  simpa [State.lot, List.getElem?_eq_getElem hlt] using hn

theorem State.mem_lots_of_lot {s : State} {i : Nat} {l : Lot} (h : s.lot i = some l) : some l ∈ s.lots := by
  rw [State.lot, List.getD_eq_getElem?_getD] at h
  cases hi : s.lots[i]? with
  | none => simp [hi] at h
  | some o =>
    rw [hi, Option.getD_some] at h
    exact List.mem_of_getElem? (h ▸ hi)

/-- No lot carries an id that the table does not find. -/
theorem State.id_ne_of_lotSlotOf {s : State} {id : Word32} (h : s.lotSlotOf id = none) {i : Nat} {l : Lot}
    (hl : s.lot i = some l) : l.id ≠ id := fun he => by
  have := List.findIdx?_eq_none_iff.mp h _ (State.mem_lots_of_lot hl)
  simp [he] at this

/-- A LOT OPEN that is taken brings an id that no lot carries (R122). -/
theorem State.lotSlotOf_of_not_refused {s : State} {id : Word32} {profile : Byte} (h : s.lotOpenRefusal id profile = none) :
    s.lotSlotOf id = none := by
  unfold State.lotOpenRefusal at h
  split_ifs at h with _ _ _ _ known
  exact Option.not_isSome_iff_eq_none.mp known

theorem lotOpenOp_leads (id : Word32) (profile gap : Byte) (s : State) : Leads s (lotOpenOp id profile gap s).1 := by
  unfold lotOpenOp
  split
  · exact .refl s
  · rename_i hr
    dsimp only
    unfold State.putLot
    split
    · exact s.closeOpenLot_leads
    · rename_i slot hf
      exact .move fun _ => .lotOpen slot id _ _ (State.lot_of_freeSlot hf) fun i a => State.id_ne_of_lotSlotOf (State.lotSlotOf_of_not_refused hr)

theorem lotCloseOp_leads (s : State) : Leads s (lotCloseOp s).1 := by
  unfold lotCloseOp
  split
  · exact .refl s
  · exact s.closeOpenLot_leads

/-! ## The probe bus (R134, R152 to R162) -/

theorem State.setProbeBus_quiet (s : State) (b : ProbeBus) : Quiet s (s.setProbeBus b) := {}

theorem State.startRound_quiet (s : State) : Quiet s s.startRound := by
  rw [State.startRound_eq]
  exact {}

theorem State.finishInit_leads (s : State) (h : s.line.state = .init) : Leads s s.finishInit := by
  unfold State.finishInit
  have raised := Leads.quiet (s.raiseNat_quiet .initDone s.initResult)
  have init : (s.raiseNat .initDone s.initResult).line.state.resting := .inl h
  refine Leads.trans ?_ (.quiet (State.startRound_quiet _))
  split
  · rename_i l hl
    refine raised.trans (.move fun _ => .line .cold LineState.noConfusion (fun _ => ?_) fun _ => .inl init)
    exact (congrArg Option.isSome hl).trans rfl
  · exact raised.trans (.move fun _ => .line .unconfigured LineState.noConfusion (fun hn => absurd rfl hn) fun _ => .inl init)

theorem State.scanning_init {s : State} (h : s.scanning = true) : s.line.state = .init := by
  simp only [State.scanning, Bool.and_eq_true, beq_iff_eq] at h
  exact h.1

theorem State.takeReading_leads (s : State) (i : Nat) (r : Reading) : Leads s (s.takeReading i r) := by
  have read : Quiet s (s.modProbe i fun p => p.read r) := {}
  unfold State.takeReading
  dsimp only
  split
  · exact .quiet read
  · exact (Leads.quiet (read.trans ((Quiet.of_frame (State.zoneReading_frame _ i r)).trans (State.followEconomy_quiet _)))).trans
      (State.tryRunning_leads _)

theorem State.takeMiss_quiet (s : State) (i : Nat) (m : Miss) : Quiet s (s.takeMiss i m) := by
  have missed : Quiet s (s.modProbe i fun p => p.miss m) := {}
  unfold State.takeMiss
  dsimp only
  split
  · exact missed.trans (State.raiseNat_quiet _ _ _)
  · exact missed

theorem State.takeVerdict_leads (s : State) (i : Nat) (v : Verdict) : Leads s (s.takeVerdict i v) := by
  unfold State.takeVerdict
  split
  · cases v with
    | miss reason => exact .quiet (s.takeMiss_quiet i _)
    | valid t h c => exact s.takeReading_leads i _
  · exact .refl s

theorem State.endPoll_leads (s : State) (i : Nat) (v : Verdict) : Leads s (s.endPoll i v) := by
  have taken := (Leads.quiet (s.setProbeBus_quiet { s.probeBus with inFlight := none })).trans (State.takeVerdict_leads _ i v)
  unfold State.endPoll
  dsimp only
  split
  · rename_i hs
    refine taken.trans ?_
    unfold State.scanNext
    dsimp only
    split
    · exact .quiet (State.setProbeBus_quiet _ _)
    · exact State.finishInit_leads _ (State.scanning_init hs)
  · split
    · exact taken.trans (.quiet (State.startRound_quiet _))
    · exact taken

theorem State.beginPoll_leads (s : State) (i : Nat) (high : Bool) : Leads s (s.beginPoll i high) := by
  unfold State.beginPoll
  split
  · exact .quiet (s.setProbeBus_quiet _)
  · exact s.endPoll_leads i _

theorem State.nextPoll_quiet (s : State) (l : Layout) : Quiet s (s.nextPoll l) := by
  unfold State.nextPoll
  dsimp only
  split <;> exact s.setProbeBus_quiet _

theorem State.pollDue_leads (s : State) (high : Bool) : Leads s (s.pollDue high) := by
  have pins : Quiet s (s.setPins { s.pins with probeData := high }) := {}
  unfold State.pollDue
  split
  · exact .refl s
  · dsimp only
    split
    · exact (Leads.quiet (pins.trans (State.setProbeBus_quiet _ _))).trans (State.beginPoll_leads _ _ _)
    · split
      · exact .quiet (pins.trans (State.setProbeBus_quiet _ _))
      · have next := Leads.quiet (pins.trans (State.nextPoll_quiet _ ‹_›))
        split
        · exact next.trans (State.beginPoll_leads _ _ _)
        · exact next

theorem State.pollStop_leads (s : State) (reply : Option ProbeReply) : Leads s (s.pollStop reply) := by
  unfold State.pollStop
  split
  · exact .refl s
  · exact s.endPoll_leads _ _

theorem State.busFault_leads (s : State) : Leads s s.busFault := by
  unfold State.busFault
  split
  · dsimp only
    have faulted : ∀ b, Quiet s (((s.setPins { s.pins with probeClk := false }).setProbeBus b).raise .probeBusFault 0) :=
      fun _ => {}
    split
    · rename_i hs
      exact (Leads.quiet (faulted _)).trans (State.finishInit_leads _ (State.scanning_init hs))
    · split
      · exact .quiet ((faulted _).trans (State.startRound_quiet _))
      · exact .quiet (faulted _)
  · exact .refl s

theorem State.recoveryAttempt_quiet (s : State) (high : Bool) : Quiet s (s.recoveryAttempt high) := by
  unfold State.recoveryAttempt
  split
  · split
    · exact s.setProbeBus_quiet _
    · have pins : ∀ b, Quiet s ((s.setPins { s.pins with probeClk := high }).setProbeBus b) := fun _ => {}
      dsimp only
      split
      · exact (pins _).trans (State.startRound_quiet _)
      · exact pins _
  · exact .refl s

theorem State.endCheck_quiet (s : State) (code : CheckCode) (distance : Nat) : Quiet s (s.endCheck code distance) := {}

theorem State.checkBegin_quiet (s : State) (high : Bool) : Quiet s (s.checkBegin high) := by
  have pins : Quiet s (s.setPins { s.pins with probeClk := high }) := {}
  unfold State.checkBegin
  split
  · dsimp only
    split
    · exact pins.trans (State.setProbeBus_quiet _ _)
    · exact pins.trans (State.endCheck_quiet _ _ _)
  · exact .refl s

theorem State.quietEdge_quiet (s : State) : Quiet s s.quietEdge := by
  unfold State.quietEdge
  split
  · exact s.endCheck_quiet _ _
  · exact .refl s

theorem State.quietFailed_quiet (s : State) : Quiet s s.quietFailed := s.quietEdge_quiet

theorem State.quietEnd_quiet (s : State) : Quiet s s.quietEnd := by
  unfold State.quietEnd
  split
  · exact s.setProbeBus_quiet _
  · exact .refl s

theorem State.checkEnd_quiet (s : State) (r : Reflection) : Quiet s (s.checkEnd r) := by
  unfold State.checkEnd
  split
  · exact s.endCheck_quiet _ _
  · exact .refl s

theorem lineCheckOp_quiet (s : State) : Quiet s (lineCheckOp s).1 := by
  unfold lineCheckOp
  split
  · exact .refl s
  · exact s.setProbeBus_quiet _

/-! ## The store (R133, R167 to R175) -/

/-- A store change that keeps the working layout and adds no layout job. -/
theorem State.setStore_quiet (s : State) (v : Store) (hl : v.layout = s.store.layout)
    (hj : s.jobSound → (s.setStore v).jobSound) : Quiet s (s.setStore v) := { layout := hl, job := hj }

theorem State.setSlot_quiet (s : State) (i : Nat) (sl : ProfileSlot) : Quiet s (s.setSlot i sl) := s.setStore_quiet _ rfl id

theorem State.setStatus_quiet (s : State) (b : Nat) (st : StoreStatus) : Quiet s (s.setStatus b st) := s.setStore_quiet _ rfl id

theorem State.noJob_quiet (s : State) : Quiet s (s.setStore { s.store with job := none }) :=
  s.setStore_quiet _ rfl fun _ _ h => nomatch h

theorem layoutFault_of_judged {bytes : Option (List Byte)} {l : Layout} (h : judgeRead layoutContent bytes = .valid l) :
    layoutFault l = none := by
  cases bytes with
  | none => cases h
  | some bytes =>
    simp only [judgeRead, judgeBlock, layoutContent] at h
    split_ifs at h with _ _ hf
    simp only [Judged.valid.injEq] at h
    exact h ▸ Option.isNone_iff_eq_none.mp hf

theorem State.loadBlock_leads (s : State) (b : Nat) (bytes : Option (List Byte)) (h : s.line.state = .init) :
    Leads s (s.loadBlock b bytes) := by
  unfold State.loadBlock
  split
  · unfold State.loadLayout
    split
    · rename_i hj
      exact .move fun _ => .layout _ _ (.inl h) (layoutFault_of_judged hj)
    · exact .refl s
    · exact .refl s
  · split
    · unfold State.loadProfile
      split <;> exact .quiet (s.setSlot_quiet _ _)
    · unfold State.loadTable
      split <;> exact .quiet {}

theorem State.loadBlock_line (s : State) (b : Nat) (bytes : Option (List Byte)) : (s.loadBlock b bytes).line = s.line := by
  unfold State.loadBlock
  split
  · unfold State.loadLayout
    split <;> rfl
  · split
    · unfold State.loadProfile
      split <;> rfl
    · unfold State.loadTable
      split <;> rfl

/-- Start-up goes on to another phase of INIT (R133). -/
theorem State.setPhase_quiet (s : State) (p : StartPhase) (h : s.line.phase.isSome = true) :
    Quiet s (s.setLine { s.line with phase := some p }) := { phase := h.symm }

theorem State.loadNext_leads (s : State) (b : Nat) (h : s.line.state = .init) : Leads s (s.loadNext b) := by
  have next : Quiet s (s.setStore { s.store with loadBlock := b + 1 }) := s.setStore_quiet _ rfl id
  have phase : ∀ p, Leads s ((s.setStore { s.store with loadBlock := b + 1 }).setLine { s.line with phase := some p }) :=
    fun p => (Leads.quiet next).trans fun hs => .single (.quiet (State.setPhase_quiet _ p (hs.phase.mpr h)))
  unfold State.loadNext
  dsimp only
  split
  · exact phase _
  · split
    · exact phase _
    · split
      · exact (phase _).trans (.quiet (State.setProbeBus_quiet _ _))
      · exact .quiet next

theorem State.loadEnds_leads (s : State) (bytes : Option (List Byte)) : Leads s (s.loadEnds bytes) := by
  unfold State.loadEnds
  split
  · rename_i hl
    have init : s.line.state = .init := by
      simp only [State.loading, Bool.and_eq_true, beq_iff_eq] at hl
      exact hl.1
    have ends : ∀ u : State, Quiet s u → u.line = s.line →
        Leads s (((u.loadBlock s.store.loadBlock bytes).setStatus s.store.loadBlock .current).loadNext s.store.loadBlock) :=
      fun u q hu => (Leads.quiet q).trans <| (u.loadBlock_leads _ _ (hu ▸ init)).trans <|
        (Leads.quiet (State.setStatus_quiet _ _ _)).trans (State.loadNext_leads _ _ (by
          show (u.loadBlock _ _).line.state = .init
          rw [State.loadBlock_line, hu, init]))
    cases bytes with
    | none => exact ends _ (s.raiseNat_quiet _ _) rfl
    | some b => exact ends s (.refl s) rfl
  · exact .refl s

theorem State.regovern_quiet (p : Nat) (s : State) (z : Nat) : Quiet s (State.regovern p s z) := by
  unfold State.regovern
  split
  · exact .refl s
  · split
    · split
      · obtain ⟨zs, n, h⟩ := s.retarget_frame z _
        exact .of_frame ⟨zs, s.arbiter, n, h⟩
      · exact .refl s
    · exact .refl s

theorem State.completeProfile_quiet (s : State) (b : Nat) (new : ProfileSlot) : Quiet s (s.completeProfile b new) := by
  unfold State.completeProfile
  split
  · exact s.setStatus_quiet _ _
  · exact (s.setSlot_quiet _ _).trans ((State.setStatus_quiet _ _ _).trans (State.eachZone_quiet _ _ (State.regovern_quiet _)))

theorem State.setupPolls_quiet (s : State) (l : Layout) : Quiet s (s.setupPolls l) := by
  unfold State.setupPolls
  dsimp only
  split
  · exact s.setProbeBus_quiet _
  · exact (s.setProbeBus_quiet _).trans (State.startRound_quiet _)

theorem State.installLayout_leads (s : State) (l : Layout) (h : s.line.state = .cold ∨ s.line.state = .unconfigured)
    (hf : layoutFault l = none) : Leads s (s.installLayout l) := by
  have rests : s.line.state.resting := h.elim (.inr ∘ .inr) (.inr ∘ .inl)
  have polls := (s.setupLayout l s.clock).setupPolls_quiet l
  have installed : Leads s ((s.setupLayout l s.clock).setupPolls l) :=
    (Leads.move fun _ => .layout l s.clock rests hf).trans (.quiet polls)
  unfold State.installLayout
  dsimp only
  split
  · refine installed.trans (.move fun _ => .line .cold LineState.noConfusion (fun _ => ?_) fun _ => .inl ?_)
    · rw [polls.layout]
      rfl
    · rw [polls.lineState]
      exact rests
  · exact installed

theorem State.completeJob_leads (s : State) (j : Job) (hj : s.store.job = some j) : Leads s (s.completeJob j) := by
  have done : Quiet s ((s.setStore { s.store with job := none }).raiseNat .storeDone j.block) :=
    s.noJob_quiet.trans (State.raiseNat_quiet _ _ _)
  unfold State.completeJob
  dsimp only
  cases hk : j.kind with
  | profileWrite => exact .quiet (done.trans (State.completeProfile_quiet _ _ _))
  | profileErase => exact .quiet (done.trans (State.completeProfile_quiet _ _ _))
  | tableWrite => exact .quiet (done.trans ((State.setStatus_quiet _ _ _).trans {}))
  | layoutWrite =>
    dsimp only
    unfold State.completeLayout
    split
    · exact fun h => ((Leads.quiet (done.trans (State.setStatus_quiet _ _ _))).trans
        (State.installLayout_leads _ _ ‹_› (h.job j hj hk))) h
    · exact .quiet (done.trans (State.setStatus_quiet _ _ _))

theorem State.pageAck_leads (s : State) : Leads s s.pageAck := by
  unfold State.pageAck
  split
  · exact .refl s
  · rename_i j hj
    split
    · exact .quiet (s.setStore_quiet _ rfl fun hs j' hj' hk => by
        cases hj'
        exact hs j hj hk)
    · exact s.completeJob_leads j hj

theorem State.failJob_quiet (s : State) (j : Job) (written : Bool) : Quiet s (s.failJob j written) := by
  have failed : Quiet s ((s.setStore { s.store with job := none }).raiseNat .storeFault j.block) :=
    s.noJob_quiet.trans (State.raiseNat_quiet _ _ _)
  unfold State.failJob
  dsimp only
  split
  · exact failed.trans (State.setStatus_quiet _ _ _)
  · exact failed

theorem State.pageTimeout_quiet (s : State) : Quiet s s.pageTimeout := by
  unfold State.pageTimeout
  split
  · exact .refl s
  · exact s.failJob_quiet _ _

theorem State.pageNack_quiet (s : State) : Quiet s s.pageNack := by
  unfold State.pageNack
  split
  · exact .refl s
  · exact s.failJob_quiet _ _

/-- A job starts; a layout job with an image that passes its checks (R170, R172). -/
theorem State.startJob_quiet (s : State) (b : Nat) (k : JobKind) (image : List Byte)
    (h : k = .layoutWrite → layoutFault (readLayout image) = none) : Quiet s (s.startJob b k image) :=
  s.setStore_quiet _ rfl fun _ j hj hk => by
    cases hj
    exact h hk

theorem profileWriteOp_quiet (slot : Byte) (image : List Byte) (s : State) : Quiet s (profileWriteOp slot image s).1 := by
  unfold profileWriteOp
  split
  · exact .refl s
  · split
    · exact .refl s
    · split
      · exact .refl s
      · split
        · exact .refl s
        · exact s.startJob_quiet _ _ _ fun h => JobKind.noConfusion h

theorem profileEraseOp_quiet (slot : Byte) (s : State) : Quiet s (profileEraseOp slot s).1 := by
  unfold profileEraseOp
  split
  · exact .refl s
  · split
    · exact .refl s
    · split
      · exact .refl s
      · exact s.startJob_quiet _ _ _ fun h => JobKind.noConfusion h

theorem tableWriteOp_quiet (row : Byte) (entries : List Nat) (s : State) : Quiet s (tableWriteOp row entries s).1 := by
  unfold tableWriteOp
  split
  · exact .refl s
  · split
    · exact .refl s
    · split
      · exact .refl s
      · exact s.startJob_quiet _ _ _ fun h => JobKind.noConfusion h

/-- A field that ends within an image is read the same from the image with more bytes behind it. -/
theorem fieldBytes_append {image rest : List Byte} {at_ width : Nat} (h : at_ + width ≤ image.length) :
    fieldBytes (image ++ rest) at_ width = fieldBytes image at_ width := by
  unfold fieldBytes
  rw [List.drop_append_of_le_length (by omega), List.take_append_of_le_length (by rw [List.length_drop]; omega)]

/-- A layout image is read the same from the store block that carries it (R171). -/
theorem readLayout_append {image rest : List Byte} (h : image.length = 63) : readLayout (image ++ rest) = readLayout image := by
  have nat : ∀ at_ width, at_ + width ≤ 63 → fieldNat (image ++ rest) at_ width = fieldNat image at_ width := fun at_ width hw => by
    unfold fieldNat
    rw [fieldBytes_append (by omega)]
  have signed : ∀ at_, at_ + 2 ≤ 63 → fieldSigned (image ++ rest) at_ = fieldSigned image at_ := fun at_ hw => by
    unfold fieldSigned
    rw [nat _ _ hw]
  have rows : ∀ (n : Nat) (f : Nat → Nat × Nat), (∀ i < n, (f i).1 + (f i).2 ≤ 63) →
      (List.range n).map (fun i => fieldNat (image ++ rest) (f i).1 (f i).2) =
        (List.range n).map fun i => fieldNat image (f i).1 (f i).2 := fun n f hf =>
    List.map_congr_left fun i hi => nat _ _ (hf i (List.mem_range.mp hi))
  unfold readLayout
  rw [rows 10 (fun i => (2 + 2 * i, 2)) (by intro i hi; dsimp only; omega),
    rows 6 (fun i => (41 + i, 1)) (by intro i hi; dsimp only; omega),
    rows 6 (fun i => (47 + 2 * i, 2)) (by intro i hi; dsimp only; omega)]
  simp only [nat, signed, Nat.reduceAdd, Nat.reduceLeDiff]

theorem layoutWriteOp_quiet (image : List Byte) (s : State) (h : image.length = 63) : Quiet s (layoutWriteOp image s).1 := by
  unfold layoutWriteOp
  split
  · exact .refl s
  · split
    · exact .refl s
    · rename_i hf
      split
      · exact .refl s
      · refine s.startJob_quiet _ _ _ fun _ => ?_
        rw [blockImage, padTo, List.append_assoc, readLayout_append h]
        exact hf

end Sys2Proof.Machine
end


section
/-! Requests, frames and every command of the part as rows of moves. -/

namespace Sys2Proof.Machine

/-! ## Requests (R192) -/

theorem State.answer_quiet (s : State) (code : Byte) (a : Answer) : Quiet s (s.answer code a) := {}

theorem State.serveAlways_leads {s : State} {op : State → State × Answer} (code : Byte) (h : Leads s (op s).1) :
    Leads s (s.serveAlways code op) := h.trans (.quiet (State.answer_quiet _ _ _))

theorem State.serve_leads {s : State} {op : State → State × Answer} (code : Byte) (h : Leads s (op s).1) :
    Leads s (s.serve code op) := by
  unfold State.serve
  split
  · exact .quiet (s.answer_quiet _ _)
  · exact s.serveAlways_leads code h

theorem State.serveSized_leads {s : State} {op : State → State × Answer} (code : Byte) {sized : Bool}
    (h : sized = true → Leads s (op s).1) : Leads s (s.serveSized code sized op) := by
  unfold State.serveSized
  split
  · exact s.serve_leads code (h ‹_›)
  · exact .quiet (s.answer_quiet _ _)

theorem rodMarkOp_quiet (n : Word32) (s : State) : Quiet s (rodMarkOp n s).1 := by
  unfold rodMarkOp
  split
  · exact .refl s
  · split
    · exact .refl s
    · exact s.markRod_quiet n

theorem noticeFetchOp_quiet (s : State) : Quiet s (noticeFetchOp s).1 := by
  unfold noticeFetchOp
  split
  · exact .refl s
  · exact {}

/-- Reports that are released make room (R188). -/
theorem reportReleaseOp_quiet (count : Byte) (s : State) : Quiet s (reportReleaseOp count s).1 where
  reports h := by
    show (s.reports.reports.drop _).length ≤ 256
    rw [List.length_drop]
    omega

theorem chainReadOp_same (chain : Byte) (s : State) : (chainReadOp chain s).1 = s := by
  unfold chainReadOp
  split <;> rfl

theorem profileReadOp_same (slot : Byte) (s : State) : (profileReadOp slot s).1 = s := by
  unfold profileReadOp
  split <;> rfl

theorem tableReadOp_same (row : Byte) (s : State) : (tableReadOp row s).1 = s := by
  unfold tableReadOp
  split <;> rfl

theorem probeReadOp_same (address : Byte) (s : State) : (probeReadOp address s).1 = s := by
  unfold probeReadOp
  split <;> rfl

/-- An operation that leaves the state as it is. -/
theorem Leads.same {s t : State} (h : t = s) : Leads s t := h ▸ .refl s

theorem setClock_quiet (s : State) (v : Word32) : Quiet s (s.setClock v) := {}

/-! ## Frames (R191 to R193) -/

/-- A request frame of the right length leads where its owning block's operation leads. -/
theorem State.ownerServe_leads (s : State) (code : Byte) (p : List Byte) (h : code.toNat = 0x56 → p.length = 63) :
    Leads s (s.ownerServe code p) := by
  unfold State.ownerServe
  split
  · exact s.serveAlways_leads _ (.refl s)
  · exact s.serveAlways_leads _ (.refl s)
  · exact s.serve_leads _ (.quiet (setClock_quiet s _))
  · exact s.serveAlways_leads _ (.refl s)
  · exact s.serve_leads _ (.quiet {})
  · exact s.serve_leads _ (lineStartOp_leads s)
  · exact s.serve_leads _ (lineHoldOp_leads _ s)
  · exact s.serve_leads _ (lineReleaseOp_leads s)
  · exact s.serve_leads _ (lineRunOutOp_leads s)
  · exact s.serve_leads _ (lineShutdownOp_leads s)
  · exact s.serve_leads _ (.refl s)
  · exact s.serve_leads _ (zoneRestartOp_leads _ s)
  · exact s.serve_leads _ (.same (chainReadOp_same _ s))
  · exact s.serve_leads _ (chainClearOp_leads _ _ s)
  · exact s.serve_leads _ (.refl s)
  · exact s.serve_leads _ (lotOpenOp_leads _ _ _ s)
  · exact s.serve_leads _ (lotCloseOp_leads s)
  · exact s.serve_leads _ (.refl s)
  · exact s.serve_leads _ (.refl s)
  · exact s.serve_leads _ (.quiet (rodMarkOp_quiet _ s))
  · exact s.serve_leads _ (.refl s)
  · exact s.serve_leads _ (.refl s)
  · exact s.serve_leads _ (.quiet (reportReleaseOp_quiet _ s))
  · exact s.serveAlways_leads _ (.quiet (noticeFetchOp_quiet s))
  · exact s.serve_leads _ (.quiet {})
  · exact s.serve_leads _ (.same (profileReadOp_same _ s))
  · exact s.serve_leads _ (.quiet (profileWriteOp_quiet _ _ s))
  · exact s.serve_leads _ (.quiet (profileEraseOp_quiet _ s))
  · exact s.serve_leads _ (.same (tableReadOp_same _ s))
  · exact s.serve_leads _ (.quiet (tableWriteOp_quiet _ _ s))
  · exact s.serve_leads _ (.refl s)
  · exact s.serve_leads _ (.quiet (layoutWriteOp_quiet _ s (h ‹_›)))
  · exact s.serve_leads _ (.same (probeReadOp_same _ s))
  · exact s.serve_leads _ (.quiet (lineCheckOp_quiet s))
  · exact s.serve_leads _ (.refl s)
  · exact .quiet (s.answer_quiet _ _)

theorem State.takeRequest_leads (s : State) (code : Byte) (p : List Byte) : Leads s (s.takeRequest code p) := by
  unfold State.takeRequest
  cases hn : requestLength code with
  | none => exact .quiet (s.answer_quiet _ _)
  | some n =>
    dsimp only
    split
    · rename_i hp
      refine s.ownerServe_leads code p fun hc => ?_
      have layout : requestLength code = some 63 := by
        unfold requestLength
        rw [hc]
        rfl
      rw [hp]
      exact Option.some.inj (hn.symm.trans layout)
    · exact .quiet (s.answer_quiet _ _)

theorem State.hunt_quiet (s : State) : Quiet s s.hunt := {}

theorem State.takeBroadcast_leads (s : State) (code : Byte) (p : List Byte) : Leads s (s.takeBroadcast code p) := by
  unfold State.takeBroadcast
  split
  · exact .refl s
  · split
    · exact .quiet (setClock_quiet s _)
    · split
      · exact s.broadcastHold_leads
      · exact .refl s

theorem State.takeFrame_leads (s : State) (f : Frame) : Leads s (s.takeFrame f) := by
  unfold State.takeFrame
  split
  · exact (Leads.quiet s.hunt_quiet).trans (State.takeBroadcast_leads _ _ _)
  · exact s.takeRequest_leads _ _

theorem State.frameIn_leads (s : State) (f : Frame) : Leads s (s.frameIn f) := by
  have hunts := Leads.quiet s.hunt_quiet
  unfold State.frameIn
  dsimp only
  split
  · exact hunts
  · split
    · exact hunts.trans (State.takeFrame_leads _ f)
    · split
      · exact .quiet {}
      · exact hunts
    · exact hunts

theorem State.linkByte_leads (s : State) (b : Byte) : Leads s (s.linkByte b) := by
  have collects : ∀ bytes, Leads s (s.collect bytes) := fun bytes => by
    unfold State.collect
    split
    · exact .quiet s.hunt_quiet
    · split
      · unfold State.closeFrame
        dsimp only
        split
        · exact s.frameIn_leads _
        · exact .quiet s.hunt_quiet
      · exact .quiet {}
  unfold State.linkByte
  split
  · exact .refl s
  · split
    · split
      · exact .quiet {}
      · exact .refl s
    · exact collects _

theorem State.replyEnd_leads (s : State) : Leads s s.replyEnd := by
  have idle : Quiet s (s.setLink { s.link with port := .idle, receiver := .hunting, held := none }) := {}
  unfold State.replyEnd
  split
  · exact .refl s
  · split
    · exact .move fun _ => .reset _ _ _
    · dsimp only
      split
      · exact .quiet idle
      · exact (Leads.quiet idle).trans (State.takeFrame_leads _ _)

/-! ## Commands -/

theorem EdgeLeads.of_next {s t u : State} (e : EdgeLeads s u)
    (h : (Host.Outcome.next u : Host.Outcome State Fault Refusal) = .next t) : EdgeLeads s t := by
  cases h
  exact e

/-- What a refused command would answer is no next state. -/
theorem EdgeLeads.of_guarded {p : Prop} [Decidable p] {s t u : State} {r : Refusal} (l : Leads s u)
    (h : (if p then Host.Outcome.next u else Host.Outcome.refused r : Host.Outcome State Fault Refusal) = .next t) :
    EdgeLeads s t := by
  split at h
  · cases h
    exact .inl l
  · cases h

theorem EdgeLeads.of_leads {s t u : State} (l : Leads s u)
    (h : (Host.Outcome.next u : Host.Outcome State Fault Refusal) = .next t) : EdgeLeads s t := .of_next (.inl l) h

/-- Every command that answers a next state leads there by moves, but for the HANG and CUT edges, which may end a rod first. -/
theorem exec_leads (c : Instr) (s t : State) (h : exec c s = .next t) : EdgeLeads s t := by
  cases c with
  | identify => exact .of_leads (s.serveAlways_leads _ (.refl s)) h
  | status => exact .of_leads (s.serveAlways_leads _ (.refl s)) h
  | timeSet value => exact .of_leads (s.serve_leads _ (.quiet (setClock_quiet s _))) h
  | broadcastTimeSet value =>
    refine .of_leads (u := if s.line.state = .init then s.hunt else s.hunt.setClock value) ?_ h
    split
    · exact .quiet s.hunt_quiet
    · exact .quiet (s.hunt_quiet.trans (setClock_quiet _ _))
  | timeRead => exact .of_leads (s.serveAlways_leads _ (.refl s)) h
  | reset => exact .of_leads (s.serve_leads _ (.quiet {})) h
  | softReset addr baud => exact .of_leads ((Leads.quiet (t := s.strap addr baud) {}).trans (.move fun _ => .reset _ _ _)) h
  | powerOnReset addr baud => exact .of_leads ((Leads.quiet (t := s.strap addr baud) {}).trans (.move fun _ => .reset _ _ _)) h
  | lineStart => exact .of_leads (s.serve_leads _ (lineStartOp_leads s)) h
  | lineHold mask => exact .of_leads (s.serve_leads _ (lineHoldOp_leads mask s)) h
  | broadcastLineHold mask => exact .of_leads ((Leads.quiet s.hunt_quiet).trans (State.broadcastHold_leads _)) h
  | lineRelease => exact .of_leads (s.serve_leads _ (lineReleaseOp_leads s)) h
  | lineRunOut => exact .of_leads (s.serve_leads _ (lineRunOutOp_leads s)) h
  | lineShutdown => exact .of_leads (s.serve_leads _ (lineShutdownOp_leads s)) h
  | zoneRead zone => exact .of_leads (s.serve_leads _ (.refl s)) h
  | zoneRestart zone => exact .of_leads (s.serve_leads _ (zoneRestartOp_leads zone s)) h
  | chainRead chain => exact .of_leads (s.serve_leads _ (.same (chainReadOp_same chain s))) h
  | chainClear chain moved => exact .of_leads (s.serve_leads _ (chainClearOp_leads chain moved s)) h
  | captureRead => exact .of_leads (s.serve_leads _ (.refl s)) h
  | lotOpen id profile gap => exact .of_leads (s.serve_leads _ (lotOpenOp_leads id profile gap s)) h
  | lotClose => exact .of_leads (s.serve_leads _ (lotCloseOp_leads s)) h
  | lotRead id => exact .of_leads (s.serve_leads _ (.refl s)) h
  | rodRead number => exact .of_leads (s.serve_leads _ (.refl s)) h
  | rodMark number => exact .of_leads (s.serve_leads _ (.quiet (rodMarkOp_quiet number s))) h
  | trainRead part first count => exact .of_leads (s.serve_leads _ (.refl s)) h
  | reportRead => exact .of_leads (s.serve_leads _ (.refl s)) h
  | reportRelease count => exact .of_leads (s.serve_leads _ (.quiet (reportReleaseOp_quiet count s))) h
  | noticeFetch => exact .of_leads (s.serveAlways_leads _ (.quiet (noticeFetchOp_quiet s))) h
  | noticeEnable kinds => exact .of_leads (s.serve_leads _ (.quiet {})) h
  | profileRead slot => exact .of_leads (s.serve_leads _ (.same (profileReadOp_same slot s))) h
  | profileWrite slot image => exact .of_leads (s.serveSized_leads _ fun _ => .quiet (profileWriteOp_quiet slot image s)) h
  | profileErase slot => exact .of_leads (s.serve_leads _ (.quiet (profileEraseOp_quiet slot s))) h
  | tableRead row => exact .of_leads (s.serve_leads _ (.same (tableReadOp_same row s))) h
  | tableWrite row entries => exact .of_leads (s.serveSized_leads _ fun _ => .quiet (tableWriteOp_quiet row _ s)) h
  | layoutRead => exact .of_leads (s.serve_leads _ (.refl s)) h
  | layoutWrite image =>
    exact .of_leads (s.serveSized_leads _ fun hl => .quiet (layoutWriteOp_quiet image s (by simpa using hl))) h
  | probeRead address => exact .of_leads (s.serve_leads _ (.same (probeReadOp_same address s))) h
  | lineCheck => exact .of_leads (s.serve_leads _ (.quiet (lineCheckOp_quiet s))) h
  | lineCheckResult => exact .of_leads (s.serve_leads _ (.refl s)) h
  | unknownRequest code => exact .of_guarded (.quiet (s.answer_quiet _ _)) h
  | frameDiscarded => exact .of_leads (.quiet s.hunt_quiet) h
  | byteGap => exact .of_leads (.quiet s.hunt_quiet) h
  | replyEnd => exact .of_leads s.replyEnd_leads h
  | hang => exact .of_next (s.hangEdge_leads.trans (State.settle_leads _)) h
  | cut => exact .of_next (s.cutEdge_leads.trans (State.settle_leads _)) h
  | curtainPulse channel => exact .of_guarded (.quiet (s.curtainPulse_quiet channel)) h
  | stepDone chain => exact .of_leads ((s.stepDone_leads chain).trans (State.settle_leads _)) h
  | stripReadyChange level => exact .of_leads (s.stripReadyChange_leads level) h
  | intervalExpiry chain => exact .of_leads ((s.intervalExpiry_leads chain).trans (State.settle_leads _)) h
  | stepTimeout chain => exact .of_leads (s.stepTimeout_leads chain) h
  | blockLimit chain => exact .of_leads (s.blockLimit_leads chain) h
  | zoneTick zone => exact .of_guarded (.quiet (s.zoneTick_quiet zone)) h
  | economyTimerExpiry zone =>
    obtain ⟨zs, hz⟩ := s.economyExpiry_frame zone
    exact .of_guarded (.quiet (.of_zones ⟨zs, s.arbiter, hz⟩)) h
  | rampLimitExpiry zone =>
    exact .of_guarded ((Leads.quiet (.of_frame (s.rampExpiry_frame zone))).trans (State.settle_leads _)) h
  | purgeTimerExpiry zone =>
    exact .of_guarded ((Leads.quiet (.of_zones (s.purgeExpiry_frame zone))).trans (State.settle_leads _)) h
  | spacingTimerExpiry => exact .of_leads (.quiet (.of_zones s.spacingExpiry_frame)) h
  | poll dataHigh => exact .of_leads (s.pollDue_leads dataHigh) h
  | pollStop reply => exact .of_leads (s.pollStop_leads reply) h
  | busFault => exact .of_leads s.busFault_leads h
  | recoveryAttempt clkHigh => exact .of_leads (.quiet (s.recoveryAttempt_quiet clkHigh)) h
  | lineCheckBegin clkHigh => exact .of_leads (.quiet (s.checkBegin_quiet clkHigh)) h
  | quietWindowEdge => exact .of_leads (.quiet s.quietEdge_quiet) h
  | quietWindowEnd => exact .of_leads (.quiet s.quietEnd_quiet) h
  | lineCheckEnd reflection => exact .of_guarded (.quiet (s.checkEnd_quiet reflection)) h
  | storePollAck => exact .of_leads s.pageAck_leads h
  | storePollTimeout => exact .of_leads (.quiet s.pageTimeout_quiet) h
  | storeTransferNack => exact .of_leads (.quiet s.pageNack_quiet) h
  | loadBlockRead bytes => exact .of_guarded (s.loadEnds_leads (some bytes)) h
  | loadPollTimeout => exact .of_leads (s.loadEnds_leads none) h
  | linkByte byte => exact .of_leads (s.linkByte_leads byte) h
  | frameHeldPending frame => exact .of_guarded (s.frameIn_leads frame) h
  | quietCommandFailed => exact .of_leads (.quiet s.quietFailed_quiet) h
  | loadTransferNack => exact .of_leads (s.loadEnds_leads none) h

/-! ## Steps -/

theorem timerTick_isSome (t : Option Nat) : (timerTick t).isSome = t.isSome := by cases t <;> rfl

theorem Sequencer.tick_like (q : Sequencer) : q.Like q.tick where
  state := rfl
  late := rfl
  timed := by
    simp only [Sequencer.timed, Sequencer.tick, timerTick_isSome]
    exact id

/-- A tick of the line clock moves timers alone (R197). -/
theorem State.tick_quiet (s : State) : Quiet s s.tick :=
  { seq := fun c => by cases c <;> exact Sequencer.tick_like _ }

theorem State.setPending_quiet (s : State) (rest : List Instr) : Quiet s { s with pending := rest } := {}

/-- Every step leads on by moves, but for a HANG or CUT edge, which may end a rod first. -/
theorem step_leads (s t : State) (h : step s = .next t) : ∃ u, Quiet s u ∧ u.capture = s.capture ∧ u.rods = s.rods ∧ EdgeLeads u t := by
  unfold step at h
  split at h
  · rename_i c rest _
    exact ⟨_, s.setPending_quiet rest, rfl, rfl, exec_leads c _ t h⟩
  · refine ⟨s, .refl s, rfl, rfl, ?_⟩
    unfold State.idleStep at h
    split at h
    · exact exec_leads _ s t h
    · cases h
      exact .inl (.quiet s.tick_quiet)

/-- Every step keeps the laws of the modes, the capacities and the train. -/
theorem step_lawful {s t : State} (hs : Lawful s) (h : step s = .next t) : Lawful t := by
  obtain ⟨u, q, -, -, l | ⟨-, e⟩⟩ := step_leads s t h
  · exact l.lawful (q.lawful hs)
  · obtain ⟨v, ends, l⟩ := e (q.lawful hs)
    exact l.lawful (ends.lawful (q.lawful hs))

/-- Settles O57: every move of a step keeps the modes and the capacities. -/
theorem stepKeepsModesAndCapacities : Obligations.StepKeepsModesAndCapacities := by
  intro s t modes capacities train h
  obtain ⟨modes', capacities', -⟩ := lawful_iff.mp (step_lawful (lawful_iff.mpr ⟨modes, capacities, train⟩) h)
  exact ⟨modes', capacities'⟩

end Sys2Proof.Machine
end


section
/-! The order of the train (R16) along every move. -/

namespace Sys2Proof.Machine

/-! ## Rod numbers in reading order -/

/-- A shift takes the number at the last position out at the front of the reading order and puts the new one in at its end. -/
theorem shiftIn_reading (x : Option Word32) {ps : List (Option Word32)} (h : 0 < ps.length) :
    (lastRod ps).toList ++ (shiftIn x ps).reverse.filterMap id = ps.reverse.filterMap id ++ x.toList := by
  obtain ⟨init, l, rfl⟩ := List.eq_nil_or_concat ps |>.resolve_left (List.ne_nil_of_length_pos h)
  have cons : ∀ (o : Option Word32) rest, (o :: rest).filterMap id = o.toList ++ rest.filterMap id := fun o rest => by
    cases o <;> rfl
  have last : lastRod (init.concat l) = l := by simp [lastRod]
  have shifted : shiftIn x (init.concat l) = x :: init := by
    rw [shiftIn, List.concat_eq_append, ← List.cons_append, List.dropLast_concat]
  rw [last, shifted, List.concat_eq_append, List.reverse_append, List.reverse_cons, List.filterMap_append, List.reverse_singleton,
    List.singleton_append, cons, cons, List.filterMap_nil, List.append_nil, List.append_assoc]

theorem head_append_tail (ns : List Word32) : ns.head?.toList ++ ns.tail = ns := by cases ns <;> rfl

theorem State.rodNumbers_movePre {s : State} (h : 0 < s.preChain.length) : s.movePre.rodNumbers = s.rodNumbers := by
  have pre := shiftIn_reading s.landing.head? h
  calc s.movePre.rodNumbers
      = s.mainChain.reverse.filterMap id ++ (s.buffer ++ (lastRod s.preChain).toList)
          ++ (shiftIn s.landing.head? s.preChain).reverse.filterMap id ++ s.landing.tail
          ++ (s.capture.latch.map Latch.number).toList := rfl
    _ = s.mainChain.reverse.filterMap id ++ s.buffer
          ++ ((lastRod s.preChain).toList ++ (shiftIn s.landing.head? s.preChain).reverse.filterMap id) ++ s.landing.tail
          ++ (s.capture.latch.map Latch.number).toList := by simp only [List.append_assoc]
    _ = s.mainChain.reverse.filterMap id ++ s.buffer ++ s.preChain.reverse.filterMap id
          ++ (s.landing.head?.toList ++ s.landing.tail) ++ (s.capture.latch.map Latch.number).toList := by
        rw [pre]
        simp only [List.append_assoc]
    _ = s.rodNumbers := by rw [head_append_tail]; rfl

theorem State.rodNumbers_moveMain {s : State} (h : 0 < s.mainChain.length) :
    s.rodNumbers = (lastRod s.mainChain).toList ++ s.moveMain.rodNumbers := by
  have main := shiftIn_reading s.buffer.head? h
  calc s.rodNumbers
      = s.mainChain.reverse.filterMap id ++ (s.buffer.head?.toList ++ s.buffer.tail) ++ s.preChain.reverse.filterMap id ++ s.landing
          ++ (s.capture.latch.map Latch.number).toList := by rw [head_append_tail]; rfl
    _ = ((lastRod s.mainChain).toList ++ (shiftIn s.buffer.head? s.mainChain).reverse.filterMap id) ++ s.buffer.tail
          ++ s.preChain.reverse.filterMap id ++ s.landing ++ (s.capture.latch.map Latch.number).toList := by
        rw [main]
        simp only [List.append_assoc]
    _ = (lastRod s.mainChain).toList ++ s.moveMain.rodNumbers := by
        simp only [State.rodNumbers, List.append_assoc]
        rfl

/-- Every number of the train and the latch is held. -/
theorem Placed.held_of_mem_rodNumbers {s : State} (h : Placed s) {n : Word32} (hn : n ∈ s.rodNumbers) : s.numberHeld n = true := by
  have live : ∀ loc, s.rodAt loc = some n → n ∈ s.rods.map (·.number) := fun loc hl => by
    obtain ⟨r, hr, rfl, -⟩ := h.live loc n hl
    exact List.mem_map_of_mem hr
  have position : ∀ {ps : List (Option Word32)}, n ∈ ps.reverse.filterMap id → ∃ p, (ps[p]?).join = some n := fun hm => by
    obtain ⟨o, ho, rfl⟩ := List.mem_filterMap.mp hm
    obtain ⟨p, hp⟩ := List.mem_iff_getElem?.mp (List.mem_reverse.mp ho)
    exact ⟨p, by rw [hp]; rfl⟩
  refine (s.numberHeld_iff n).mpr (List.mem_append.mpr ?_)
  simp only [State.rodNumbers, List.mem_append] at hn
  rcases hn with (((hn | hn) | hn) | hn) | hn
  · obtain ⟨q, hq⟩ := position hn
    exact .inl (live (.main q) hq)
  · obtain ⟨i, hi⟩ := List.mem_iff_getElem?.mp hn
    exact .inl (live (.buffer i) hi)
  · obtain ⟨p, hp⟩ := position hn
    exact .inl (live (.pre p) hp)
  · obtain ⟨i, hi⟩ := List.mem_iff_getElem?.mp hn
    exact .inl (live (.landing i) hi)
  · exact .inr hn

/-! ## The order is kept -/

/-- Numbers that leave the reading order do not break it. -/
theorem OrderLaw.sublist {s t : State} (h : OrderLaw s) (hc : t.capture.rodCounter = s.capture.rodCounter)
    (hn : t.rodNumbers.Sublist s.rodNumbers) : OrderLaw t := by
  obtain ⟨counter, nonzero, ordered⟩ := h
  refine ⟨hc ▸ counter, fun n hm => nonzero n (hn.mem hm), ?_⟩
  rw [hc]
  exact ordered.sublist hn

theorem OrderLaw.congr {s t : State} (h : OrderLaw s) (hc : t.capture.rodCounter = s.capture.rodCounter)
    (hn : t.rodNumbers = s.rodNumbers) : OrderLaw t := h.sublist hc (hn ▸ List.Sublist.refl _)

theorem Quiet.rodNumbers {s t : State} (q : Quiet s t) : t.rodNumbers = s.rodNumbers := by
  simp only [State.rodNumbers, q.mainChain, q.buffer, q.preChain, q.landing, q.latch]

/-- Every move keeps the order. -/
theorem Move.order {s t : State} (m : Move s t) (h : Lawful s) (ho : OrderLaw s) : OrderLaw t := by
  cases m with
  | quiet q => exact ho.congr q.rodCounter q.rodNumbers
  | line new hi hl hr =>
    obtain ⟨c, p, m, zs, n, heq, fc, -, -⟩ := s.changeLine_follows new
    rw [heq]
    refine ho.congr fc.rodCounter ?_
    simp only [State.rodNumbers, fc.latch]
  | hold mask origin hs => exact ho
  | seq c q => cases c <;> exact ho
  | shiftPre q hs => exact ho.congr rfl (State.rodNumbers_movePre (h.mainChain_pos (h.not_resting_of_open hs)).2)
  | shiftMain hs =>
    have numbers := State.rodNumbers_moveMain (h.mainChain_pos (h.not_resting_of_main hs)).1
    exact ho.sublist rfl (numbers ▸ List.sublist_append_right _ _)
  | gradeMain r d charge hs =>
    have numbers := State.rodNumbers_moveMain (h.mainChain_pos (h.not_resting_of_main hs)).1
    exact ho.sublist rfl (numbers ▸ List.sublist_append_right _ s.moveMain.rodNumbers)
  | writeOut l r hl hn =>
    refine ho.congr rfl ?_
    show _ ++ (s.landing ++ [r.number]) ++ [] = s.rodNumbers
    simp only [State.rodNumbers, hl, hn, Option.map_some, Option.toList_some, List.append_assoc, List.append_nil]
    rfl
  | unlatch => exact ho.sublist rfl (List.Sublist.append_left (List.nil_sublist _) _)
  | scrap slot n => exact ho
  | close slot => exact ho
  | lotOpen slot id profile gap =>
    obtain ⟨ls, q, n, heq⟩ := s.closeOpenLot_frame
    rw [heq]
    exact ho
  | layout l now hr =>
    obtain ⟨⟨-, hland, hbuf, -, -⟩, hlatch, -, -⟩ := h.rest hr
    refine ho.sublist rfl ?_
    have gaps : ∀ n, (List.replicate n (none : Option Word32)).reverse.filterMap id = [] := fun n => by simp
    simp only [State.rodNumbers, State.setupLayout, State.setStore, gaps, hland, hbuf, hlatch, Option.map_none, Option.toList_none,
      List.append_nil]
    exact List.nil_sublist _
  | reset k now enabled =>
    have empty : (s.atReset k now enabled).rodNumbers = [] := rfl
    refine ⟨show (1 : Word32) ≠ 0 by decide, ?_, ?_⟩ <;> rw [empty]
    · exact fun n hn => nomatch hn
    · exact List.Pairwise.nil

theorem order_of_moves {s t : State} (m : Relation.ReflTransGen Move s t) (h : Lawful s) (ho : OrderLaw s) : OrderLaw t := by
  induction m with
  | refl => exact ho
  | tail ms m ih => exact m.order (lawful_of_moves ms h) ih

/-- The counter moves past a number: what was given before stays so, and the number comes after all of it (R8). -/
theorem givenBefore_nextNumber {c a b : Word32} (ha : a ≠ c) (hb : b ≠ c) (ha0 : a ≠ 0) (hb0 : b ≠ 0) (h : GivenBefore c a b) :
    GivenBefore (nextNumber c) a b := by
  unfold GivenBefore at *
  rw [nextNumber_toNat]
  bv_omega

theorem givenBefore_counter {c a : Word32} (ha : a ≠ c) (ha0 : a ≠ 0) : GivenBefore (nextNumber c) a c := by
  unfold GivenBefore
  rw [nextNumber_toNat]
  bv_omega

theorem nextNumber_ne_zero (n : Word32) : nextNumber n ≠ 0 := fun h => by
  have := nextNumber_toNat n
  rw [h] at this
  exact absurd this.symm (Nat.succ_ne_zero _)

/-- The end of a rod keeps the order where no rod holds the number that the counter has come to (R8, R16). -/
theorem RodEnds.order {s t : State} (e : RodEnds s t) (h : Lawful s) (ho : OrderLaw s)
    (hfree : s.numberHeld s.capture.rodCounter = false) : OrderLaw t := by
  obtain ⟨counter, nonzero, ordered⟩ := ho
  have given : s.numberGiven = s.capture.rodCounter := freeNumber_of_free hfree
  have other : ∀ n ∈ s.rodNumbers, n ≠ s.capture.rodCounter := fun n hn he => by
    rw [← he, h.placed.held_of_mem_rodNumbers hn] at hfree
    cases hfree
  have moved : s.rodNumbers.Pairwise (GivenBefore (nextNumber s.numberGiven)) := by
    rw [given]
    exact ordered.imp_of_mem fun ha hb => givenBefore_nextNumber (other _ ha) (other _ hb) (nonzero _ ha) (nonzero _ hb)
  cases e with
  | latched l hs free hn =>
    have numbers : State.rodNumbers (s.setCapture { s.capture with rodCounter := nextNumber s.numberGiven, latch := some l }) =
        s.rodNumbers ++ [s.capture.rodCounter] := by
      simp only [State.rodNumbers, State.setCapture, free, hn, given, Option.map_some, Option.map_none, Option.toList_some,
        Option.toList_none, List.append_nil]
    refine ⟨nextNumber_ne_zero _, ?_, ?_⟩ <;> rw [numbers]
    · intro n hn'
      rcases List.mem_append.mp hn' with hn' | hn'
      · exact nonzero n hn'
      · exact List.mem_singleton.mp hn' ▸ counter
    · refine List.pairwise_append.mpr ⟨moved, List.pairwise_singleton _ _, fun a ha b hb => ?_⟩
      rw [List.mem_singleton.mp hb]
      rw [given]
      exact givenBefore_counter (other a ha) (nonzero a ha)
  | overrun => exact ⟨nextNumber_ne_zero _, nonzero, moved⟩

/-- Settles O59: every move of a step keeps the train, and its order. -/
theorem stepKeepsTheTrainLaw : Obligations.StepKeepsTheTrainLaw := by
  intro s t modes capacities train h
  have hs := lawful_iff.mpr ⟨modes, capacities, train⟩
  obtain ⟨-, -, train'⟩ := lawful_iff.mp (step_lawful hs h)
  refine ⟨train', fun ho hnum => ?_⟩
  obtain ⟨u, q, hcap, hrods, e⟩ := step_leads s t h
  have hu := q.lawful hs
  have hou := ho.congr q.rodCounter q.rodNumbers
  rcases e with l | ⟨hanging, e⟩
  · exact order_of_moves (l hu) hu hou
  · obtain ⟨v, ends, l⟩ := e hu
    have free : u.numberHeld u.capture.rodCounter = false := by
      have held : u.numberHeld = s.numberHeld := by
        funext n
        simp only [State.numberHeld, State.rod, hcap, hrods]
      rw [held, hcap]
      exact hnum.resolve_left (not_not.mpr (hcap ▸ hanging))
    exact order_of_moves (l (ends.lawful hu)) (ends.lawful hu) (ends.order hu hou free)

end Sys2Proof.Machine
end


section
/-! The balance of the lots (R119, R121, R127) along every move. -/

namespace Sys2Proof.Machine

/-! ## Live rods of a lot -/

theorem liveRods_congr {s t : State} (h : t.rods.map Rod.key = s.rods.map Rod.key) (slot : Nat) : t.liveRods slot = s.liveRods slot := by
  have keyed : ∀ rods : List Rod,
      (rods.countP fun r => r.lotSlot == slot) = (rods.map Rod.key).countP fun k => k.2.1 == slot := fun rods => by
    rw [List.countP_map]
    rfl
  simp only [State.liveRods]
  rw [keyed, keyed, h]

/-- Rods that only change their places stay rods of their lots. -/
theorem State.liveRods_relocate (s : State) (f : Location → Location) (slot : Nat) : (s.relocate f).liveRods slot = s.liveRods slot := by
  simp only [State.liveRods, State.relocate, State.setRods_rods, List.countP_map]
  rfl

theorem State.liveRods_landed (s : State) (r : Rod) (slot : Nat) :
    (s.landed r).liveRods slot = s.liveRods slot + if slot = r.lotSlot then 1 else 0 := by
  simp only [State.liveRods, State.landed, List.countP_append, List.countP_singleton, beq_iff_eq, eq_comm (a := r.lotSlot)]

/-- The rod that leaves the train is one less in its lot. -/
theorem Placed.liveRods_freed {s : State} (h : Placed s) {r : Rod} (hr : r ∈ s.rods) (d : Disposition) (charge : Option Nat) (slot : Nat) :
    s.liveRods slot = (s.freed r d charge).liveRods slot + if slot = r.lotSlot then 1 else 0 := by
  obtain ⟨before, after, heq⟩ := List.append_of_mem hr
  have distinct := h.nodup
  rw [heq, List.map_append, List.map_cons] at distinct
  obtain ⟨-, ⟨hafter, -⟩, hbefore⟩ := by simpa only [List.nodup_append, List.nodup_cons] using distinct
  have stay : ∀ rods : List Rod, (∀ x ∈ rods, x.number ≠ r.number) → (rods.filter fun x => x.number != r.number) = rods :=
    fun rods hx => List.filter_eq_self.mpr fun x hm => bne_iff_ne.mpr (hx x hm)
  have filtered : (s.rods.filter fun x => x.number != r.number) = before ++ after := by
    rw [heq, List.filter_append, List.filter_cons_of_neg (by simp), stay before fun x hx =>
      hbefore _ (List.mem_map_of_mem hx) _ (List.mem_cons_self ..), stay after fun x hx he => hafter (he ▸ List.mem_map_of_mem hx)]
  simp only [State.liveRods, State.freed, filtered]
  rw [heq]
  simp only [List.countP_append, List.countP_cons, beq_iff_eq, eq_comm (a := r.lotSlot)]
  omega

theorem LotLaw.liveRods_free {s : State} (h : LotLaw s) {slot : Nat} (free : s.lot slot = none) : s.liveRods slot = 0 := by
  obtain ⟨-, -, -, rods⟩ := h
  refine List.countP_eq_zero.mpr fun r hr hs => ?_
  have := rods r hr
  rw [beq_iff_eq.mp hs, free] at this
  cases this

/-! ## The law of one lot -/

/-- What the law of the lots says of one lot: it is balanced with the rods it has, and CLOSED only with rods in the train. -/
def Lot.Sound (l : Lot) (live : Nat) : Prop :=
  l.born = l.scrapped + BitVec.ofNat 32 l.inTrain + l.accepted + l.reviewed + l.reworked + l.rejected ∧ l.inTrain = live ∧
  (l.state = .closed → 0 < l.inTrain)

theorem LotLaw.sound {s : State} (h : LotLaw s) {i : Nat} {l : Lot} (hl : s.lot i = some l) : l.Sound (s.liveRods i) := by
  obtain ⟨-, balanced, closed, -⟩ := h
  obtain ⟨born, live⟩ := balanced i l hl
  exact ⟨born, live, closed i l hl⟩

/-- The law after a change of the lots in which each lot comes of the one in its slot. -/
theorem LotLaw.follows {s t : State} (h : LotLaw s)
    (comes : ∀ i l', t.lot i = some l' →
      (∃ l, s.lot i = some l ∧ l'.id = l.id ∧ (l'.state = .opened → l.state = .opened)) ∧ l'.Sound (t.liveRods i))
    (rods : ∀ r ∈ t.rods, (t.lot r.lotSlot).isSome = true) : LotLaw t := by
  obtain ⟨distinct, -⟩ := h
  refine ⟨fun i j a' b' hi hj same => ?_, fun i l' hl => ?_, fun i l' hl => ?_, rods⟩
  · obtain ⟨⟨a, ha, aid, aopen⟩, -⟩ := comes i a' hi
    obtain ⟨⟨b, hb, bid, bopen⟩, -⟩ := comes j b' hj
    exact distinct i j a b ha hb (same.imp (fun ⟨x, y⟩ => ⟨aopen x, bopen y⟩) fun he => aid ▸ bid ▸ he)
  · obtain ⟨-, born, live, -⟩ := comes i l' hl
    exact ⟨born, live⟩
  · obtain ⟨-, -, -, closed⟩ := comes i l' hl
    exact closed

/-- The law after a change of one lot and its rods. -/
theorem LotLaw.at_slot {s t : State} (h : LotLaw s) (slot : Nat) (g : Lot → Option Lot)
    (lots : ∀ i, t.lot i = if i = slot then (s.lot i).bind g else s.lot i)
    (one : ∀ l l', s.lot slot = some l → g l = some l' →
      l'.id = l.id ∧ (l'.state = .opened → l.state = .opened) ∧ l'.Sound (t.liveRods slot))
    (others : ∀ i, i ≠ slot → t.liveRods i = s.liveRods i) (rods : ∀ r ∈ t.rods, (t.lot r.lotSlot).isSome = true) : LotLaw t := by
  refine h.follows (fun i l' hl => ?_) rods
  rw [lots] at hl
  by_cases hi : i = slot
  · subst hi
    rw [if_pos rfl] at hl
    obtain ⟨l, hs, hg⟩ := Option.bind_eq_some_iff.mp hl
    obtain ⟨id, opened, sound⟩ := one l l' hs hg
    exact ⟨⟨l, hs, id, opened⟩, sound⟩
  · rw [if_neg hi] at hl
    rw [others i hi]
    exact ⟨⟨l', hl, rfl, id⟩, h.sound hl⟩

/-- The law is of the lots' accounts and the rods' lots alone. -/
theorem LotLaw.congr {s t : State} (h : LotLaw s) (lots : ∀ i, (t.lot i).map Lot.account = (s.lot i).map Lot.account)
    (live : ∀ i, t.liveRods i = s.liveRods i) (rods : ∀ r ∈ t.rods, ∃ r' ∈ s.rods, r'.lotSlot = r.lotSlot) : LotLaw t := by
  have held := h
  obtain ⟨-, -, -, hrods⟩ := held
  refine h.follows (fun i l' hl => ?_) fun r hr => ?_
  · have hi := lots i
    rw [hl, Option.map_some] at hi
    obtain ⟨l, hs, ha⟩ := Option.map_eq_some_iff.mp hi.symm
    rw [live]
    have sound := h.sound hs
    cases l
    cases l'
    simp only [Lot.account, Lot.mk.injEq] at ha
    obtain ⟨rfl, -, rfl, -, rfl, rfl, rfl, rfl, rfl, rfl, rfl, -⟩ := ha
    exact ⟨⟨_, hs, rfl, id⟩, sound⟩
  · obtain ⟨r', hr', hslot⟩ := rods r hr
    have := hrods r' hr'
    rw [← Option.isSome_map (f := Lot.account)] at this ⊢
    rw [lots, ← hslot]
    exact this

theorem Quiet.lotLaw {s t : State} (q : Quiet s t) (h : LotLaw s) : LotLaw t :=
  h.congr q.lots (liveRods_congr q.rods) fun _ hr => by
    obtain ⟨r', hr', -, hslot, -⟩ := mem_of_keys_eq q.rods hr
    exact ⟨r', hr', hslot⟩

/-- The law is of the lots and the rods alone. -/
theorem LotLaw.of_eq {s t : State} (h : LotLaw s) (lots : t.lots = s.lots) (rods : t.rods = s.rods) : LotLaw t :=
  h.congr (fun i => by simp only [State.lot, lots]) (fun i => by simp only [State.liveRods, rods]) fun r hr => ⟨r, rods ▸ hr, rfl⟩

theorem LotLaw.relocate {s t : State} (h : LotLaw s) (f : Location → Location) (lots : t.lots = s.lots)
    (rods : t.rods = (s.relocate f).rods) : LotLaw t := by
  refine h.congr (fun i => by simp only [State.lot, lots]) (fun i => ?_) fun r hr => ?_
  · rw [← s.liveRods_relocate f i]
    simp only [State.liveRods, rods]
  · rw [rods] at hr
    obtain ⟨r', hr', rfl⟩ := List.mem_map.mp hr
    exact ⟨r', hr', rfl⟩

/-! ## The moves of the lots -/

/-- The drain check takes no lot that has rods. -/
theorem Lot.drained_eq_some {l l' : Lot} (h : l.drained = some l') : l' = l ∧ (l.state = .closed → 0 < l.inTrain) := by
  unfold Lot.drained at h
  split at h
  · cases h
  · rename_i stays
    exact ⟨(Option.some.inj h).symm, fun hc => Nat.pos_of_ne_zero fun hz => stays ⟨hc, hz⟩⟩

theorem Lot.drained_isSome {l : Lot} (h : 0 < l.inTrain) : l.drained.isSome = true := by
  unfold Lot.drained
  rw [if_neg fun hd => Nat.ne_of_gt h hd.2]
  rfl

/-- A lot that is changed in place without a rod more or less. -/
theorem LotLaw.modLot {s : State} (h : LotLaw s) (slot : Nat) (f : Lot → Lot)
    (one : ∀ l, l.Sound (s.liveRods slot) → (f l).id = l.id ∧ (f l).state = l.state ∧ (f l).Sound (s.liveRods slot)) :
    LotLaw (s.modLot slot f) := by
  have held := h
  obtain ⟨-, -, -, hrods⟩ := held
  refine h.at_slot slot (fun l => some (f l)) (fun i => ?_) (fun l l' hl hf => ?_) (fun _ _ => rfl) fun r hr => ?_
  · rw [State.lot_modLot, Option.map_eq_bind]
    rfl
  · cases hf
    obtain ⟨id, state, sound⟩ := one l (h.sound hl)
    exact ⟨id, fun ho => state ▸ ho, sound⟩
  · rw [State.lot_modLot]
    split
    · rw [Option.isSome_map]
      exact hrods r hr
    · exact hrods r hr

theorem Lot.Sound.countScrap {l : Lot} {live : Nat} (h : l.Sound live) (n : Word32) : (l.countScrap n).Sound live := by
  obtain ⟨born, inTrain, closed⟩ := h
  refine ⟨?_, inTrain, closed⟩
  show l.born + 1 = l.scrapped + 1 + BitVec.ofNat 32 l.inTrain + l.accepted + l.reviewed + l.reworked + l.rejected
  rw [born]
  ac_rfl

theorem Lot.Sound.countBirth {l : Lot} {live : Nat} (h : l.Sound live) (n : Word32) : (l.countBirth n).Sound (live + 1) := by
  obtain ⟨born, inTrain, -⟩ := h
  refine ⟨?_, congrArg (· + 1) inTrain, fun _ => Nat.succ_pos _⟩
  show l.born + 1 = l.scrapped + BitVec.ofNat 32 (l.inTrain + 1) + l.accepted + l.reviewed + l.reworked + l.rejected
  rw [born, BitVec.ofNat_add]
  ac_rfl

/-- A lot whose rod has left is balanced again, where it stays in the table. -/
theorem Lot.Sound.left {l l' : Lot} {live : Nat} (h : l.Sound (live + 1)) {d : Disposition} {charge : Option Nat}
    (hl : l.left d charge = some l') : l'.id = l.id ∧ l'.state = l.state ∧ l'.Sound live := by
  obtain ⟨born, inTrain, -⟩ := h
  obtain ⟨rfl, closed⟩ := Lot.drained_eq_some hl
  have less : l.inTrain - 1 = live := by rw [inTrain, Nat.add_sub_cancel]
  refine ⟨by cases d <;> rfl, by cases d <;> rfl, ?_, less, closed⟩
  rw [inTrain, BitVec.ofNat_add] at born
  cases d <;> simp only [Lot.countExit, less, born] <;> ac_rfl

theorem LotLaw.close {s : State} (h : LotLaw s) (slot : Nat) :
    LotLaw (s.setLots (s.lots.modify slot fun l => l.bind fun lot => Lot.drained { lot with state := .closed })) := by
  have held := h
  obtain ⟨-, -, -, hrods⟩ := held
  have lots := fun i => s.lot_setLots_modify slot i (fun l => l.bind fun lot => Lot.drained { lot with state := .closed }) rfl
  refine h.at_slot slot (fun lot => Lot.drained { lot with state := .closed }) lots (fun l l' hl hd => ?_) (fun _ _ => rfl) fun r hr => ?_
  · obtain ⟨rfl, closed⟩ := Lot.drained_eq_some hd
    obtain ⟨born, live, -⟩ := h.sound hl
    exact ⟨rfl, fun ho => LotState.noConfusion ho, born, live, closed⟩
  · have lot := hrods r hr
    rw [lots]
    split
    · obtain ⟨l, hl⟩ := Option.isSome_iff_exists.mp lot
      obtain ⟨-, live, -⟩ := h.sound hl
      rw [hl]
      refine Lot.drained_isSome (live ▸ ?_ : 0 < l.inTrain)
      exact List.countP_pos_iff.mpr ⟨r, hr, beq_self_eq_true _⟩
    · exact lot

/-- The rod at the last main-chain position leaves its lot and the train. -/
theorem LotLaw.freed {s : State} (h : LotLaw s) (p : Placed s) {r : Rod} (hr : r ∈ s.rods) (d : Disposition) (charge : Option Nat) :
    LotLaw (s.freed r d charge) := by
  have held := h
  obtain ⟨-, -, -, hrods⟩ := held
  have live := p.liveRods_freed hr d charge
  have lots : ∀ i, (s.freed r d charge).lot i = if i = r.lotSlot then (s.lot i).bind (Lot.left d charge) else s.lot i :=
    fun i => s.lot_setLots_modify r.lotSlot i (fun l => l.bind (Lot.left d charge)) rfl
  refine h.at_slot r.lotSlot (Lot.left d charge) lots (fun l l' hl hd => ?_) (fun i hi => ?_) fun x hx => ?_
  · have sound := h.sound hl
    rw [live, if_pos rfl] at sound
    obtain ⟨id, state, sound'⟩ := sound.left hd
    exact ⟨id, fun ho => state ▸ ho, sound'⟩
  · have := live i
    rw [if_neg hi] at this
    exact this.symm
  · have lot := hrods x (List.mem_filter.mp hx).1
    rw [lots]
    split
    · rename_i hslot
      obtain ⟨l, hl⟩ := Option.isSome_iff_exists.mp lot
      obtain ⟨-, inTrain, -⟩ := h.sound hl
      have more := live x.lotSlot
      rw [if_pos hslot] at more
      have one : 0 < (s.freed r d charge).liveRods x.lotSlot := List.countP_pos_iff.mpr ⟨x, hx, beq_self_eq_true _⟩
      rw [hl]
      exact Lot.drained_isSome (show 0 < l.inTrain - 1 by omega)
    · exact lot

/-- The latched rod joins the landing queue as a rod of its lot. -/
theorem LotLaw.writeOut {s : State} (h : LotLaw s) (r : Rod) (lot : (s.lot r.lotSlot).isSome = true) :
    LotLaw ((s.landed r).modLot r.lotSlot fun l => l.countBirth r.number) := by
  have held := h
  obtain ⟨-, -, -, hrods⟩ := held
  have live := s.liveRods_landed r
  have lots : ∀ i, ((s.landed r).modLot r.lotSlot fun l => l.countBirth r.number).lot i =
      if i = r.lotSlot then (s.lot i).bind fun l => some (l.countBirth r.number) else s.lot i := fun i => by
    rw [State.lot_modLot, Option.map_eq_bind]
    rfl
  refine h.at_slot r.lotSlot (fun l => some (l.countBirth r.number)) lots (fun l l' hl hf => ?_) (fun i hi => ?_) fun x hx => ?_
  · cases hf
    have sound := (h.sound hl).countBirth r.number
    refine ⟨rfl, id, ?_⟩
    show (l.countBirth r.number).Sound ((s.landed r).liveRods r.lotSlot)
    rw [live, if_pos rfl]
    exact sound
  · exact (live i).trans (by rw [if_neg hi, Nat.add_zero])
  · have old : (s.lot x.lotSlot).isSome = true := by
      rcases List.mem_append.mp hx with hx | hx
      · exact hrods x hx
      · exact List.mem_singleton.mp hx ▸ lot
    rw [lots]
    split
    · rw [Option.isSome_bind]
      simpa using old
    · exact old

/-! ## LOT OPEN (R123) -/

theorem LotLaw.closeOpenLot {s : State} (h : LotLaw s) : LotLaw s.closeOpenLot := by
  cases ho : s.openSlot with
  | none =>
    unfold State.closeOpenLot
    rw [ho]
    exact h
  | some slot => exact (s.closeOpenLot_quiet slot ho).lotLaw (h.close slot)

/-- Without an OPEN slot each lot is CLOSED. -/
theorem State.closed_of_openSlot {s : State} (h : s.openSlot = none) {i : Nat} {l : Lot} (hl : s.lot i = some l) : l.state = .closed := by
  have closed := List.findIdx?_eq_none_iff.mp h _ (State.mem_lots_of_lot hl)
  cases hs : l.state with
  | closed => rfl
  | opened => simp [hs] at closed

theorem State.lot_of_openSlot {s : State} {slot : Nat} (h : s.openSlot = some slot) : ∃ l, s.lot slot = some l ∧ l.state = .opened := by
  obtain ⟨hlt, ho, -⟩ := List.findIdx?_eq_some_iff_getElem.mp h
  have at_slot : s.lot slot = s.lots[slot] := by simp [State.lot, List.getElem?_eq_getElem hlt]
  rw [at_slot]
  cases hl : s.lots[slot] with
  | none => simp [hl] at ho
  | some l => exact ⟨l, rfl, by simpa [hl] using ho⟩

/-- Each lot after the closing of the OPEN lot was there before, and none is OPEN. -/
theorem LotLaw.lot_closeOpenLot {s : State} (h : LotLaw s) {i : Nat} {l : Lot} (hl : s.closeOpenLot.lot i = some l) :
    l.state = .closed ∧ ∃ l', s.lot i = some l' ∧ l.id = l'.id := by
  cases ho : s.openSlot with
  | none =>
    unfold State.closeOpenLot at hl
    rw [ho] at hl
    exact ⟨State.closed_of_openSlot ho hl, l, hl, rfl⟩
  | some slot =>
    have account := (s.closeOpenLot_quiet slot ho).lots i
    rw [hl, State.lot_setLots_modify _ _ _ _ rfl, Option.map_some] at account
    obtain ⟨m, hm, ha⟩ := Option.map_eq_some_iff.mp account.symm
    have state : m.state = l.state := show m.account.state = l.account.state from congrArg Lot.state ha
    have id : m.id = l.id := show m.account.id = l.account.id from congrArg Lot.id ha
    rw [← state, ← id]
    by_cases hi : i = slot
    · rw [if_pos hi] at hm
      obtain ⟨l', hs, hd⟩ := Option.bind_eq_some_iff.mp hm
      obtain ⟨rfl, -⟩ := Lot.drained_eq_some hd
      exact ⟨rfl, l', hs, rfl⟩
    · rw [if_neg hi] at hm
      refine ⟨?_, m, hm, rfl⟩
      obtain ⟨a, hs, opened⟩ := State.lot_of_openSlot ho
      obtain ⟨distinct, -⟩ := h
      cases hstate : m.state with
      | closed => rfl
      | opened => exact absurd (distinct i slot m a hm hs (.inl ⟨hstate, opened⟩)) hi

theorem Lot.Sound.new (id : Word32) (profile gap : Nat) : (Lot.new id profile gap).Sound 0 :=
  ⟨rfl, rfl, fun h => LotState.noConfusion h⟩

/-- A new lot in a free slot, while no lot is OPEN and none has its id. -/
theorem LotLaw.putLot {s : State} (h : LotLaw s) (slot : Nat) (id : Word32) (profile gap : Nat) (free : s.lot slot = none)
    (other : ∀ i a, s.lot i = some a → a.state = .closed ∧ a.id ≠ id) :
    LotLaw (s.setLots (s.lots.set slot (some (Lot.new id profile gap)))) := by
  have held := h
  obtain ⟨distinct, -, -, hrods⟩ := held
  have lots : ∀ i, (s.setLots (s.lots.set slot (some (Lot.new id profile gap)))).lot i =
      if i = slot ∧ slot < s.lots.length then some (Lot.new id profile gap) else s.lot i := fun i => by
    simp only [State.lot, State.setLots_lots, List.getD_eq_getElem?_getD, List.getElem?_set]
    by_cases hi : slot = i
    · subst hi
      by_cases hl : slot < s.lots.length <;> simp [hl]
    · simp [hi, Ne.symm hi]
  have comes : ∀ i l, (s.setLots (s.lots.set slot (some (Lot.new id profile gap)))).lot i = some l →
      (i = slot ∧ l = Lot.new id profile gap) ∨ s.lot i = some l := fun i l hl => by
    rw [lots] at hl
    split at hl
    · exact .inl ⟨‹_ ∧ _›.1, (Option.some.inj hl).symm⟩
    · exact .inr hl
  have sound : ∀ i l, (s.setLots (s.lots.set slot (some (Lot.new id profile gap)))).lot i = some l → l.Sound (s.liveRods i) :=
    fun i l hl => by
      rcases comes i l hl with ⟨rfl, rfl⟩ | hl
      · rw [h.liveRods_free free]
        exact .new id profile gap
      · exact h.sound hl
  refine ⟨fun i j a b hi hj same => ?_, fun i l hl => ?_, fun i l hl => ?_, fun r hr => ?_⟩
  · rcases comes i a hi with ⟨rfl, rfl⟩ | hi' <;> rcases comes j b hj with ⟨rfl, rfl⟩ | hj'
    · rfl
    · obtain ⟨closed, ne⟩ := other j b hj'
      rcases same with ⟨-, opened⟩ | same
      · exact nomatch closed.symm.trans opened
      · exact absurd same.symm ne
    · obtain ⟨closed, ne⟩ := other i a hi'
      rcases same with ⟨opened, -⟩ | same
      · exact nomatch closed.symm.trans opened
      · exact absurd same ne
    · exact distinct i j a b hi' hj' same
  · obtain ⟨born, live, -⟩ := sound i l hl
    exact ⟨born, live⟩
  · obtain ⟨-, -, closed⟩ := sound i l hl
    exact closed
  · rw [lots]
    split
    · rfl
    · exact hrods r hr

/-! ## Every move keeps the balance -/

theorem State.atReset_lotLaw (s : State) (k : ResetKind) (now : Word32) (enabled : BitVec 20) : LotLaw (s.atReset k now enabled) := by
  have empty : ∀ i, (s.atReset k now enabled).lot i = none := fun i => by
    show (List.replicate 16 (none : Option Lot)).getD i none = none
    rw [List.getD_eq_getElem?_getD, List.getElem?_replicate]
    split <;> rfl
  refine ⟨fun i j a b hi => ?_, fun i l hl => ?_, fun i l hl => ?_, fun r hr => nomatch hr⟩
  · rw [empty] at hi
    cases hi
  · rw [empty] at hl
    cases hl
  · rw [empty] at hl
    cases hl

theorem Move.lotLaw {s t : State} (m : Move s t) (h : Lawful s) (hl : LotLaw s) : LotLaw t := by
  cases m with
  | quiet q => exact q.lotLaw hl
  | line new hi hlay hr =>
    obtain ⟨c, p, m, zs, n, heq, -⟩ := s.changeLine_follows new
    rw [heq]
    exact hl.of_eq rfl rfl
  | hold mask origin hs => exact hl.of_eq rfl rfl
  | seq c q => cases c <;> exact hl.of_eq rfl rfl
  | shiftPre q hs => exact hl.relocate _ rfl rfl
  | shiftMain hs => exact hl.relocate _ rfl rfl
  | gradeMain r d charge hs hr => exact (hl.freed h.placed hr d charge).relocate _ rfl rfl
  | writeOut l r hlatch hn hloc room lot => exact hl.writeOut r lot
  | unlatch => exact hl.of_eq rfl rfl
  | scrap slot n => exact hl.modLot slot _ fun l sound => ⟨rfl, rfl, sound.countScrap n⟩
  | close slot => exact hl.close slot
  | lotOpen slot id profile gap free fresh =>
    refine hl.closeOpenLot.putLot slot id profile gap free fun i a ha => ?_
    obtain ⟨closed, a', ha', hid⟩ := hl.lot_closeOpenLot ha
    exact ⟨closed, hid ▸ fresh i a' ha'⟩
  | layout l now hr => exact hl.of_eq rfl rfl
  | reset k now enabled => exact s.atReset_lotLaw k now enabled

theorem lotLaw_of_moves {s t : State} (m : Relation.ReflTransGen Move s t) (h : Lawful s) (hl : LotLaw s) : LotLaw t := by
  induction m with
  | refl => exact hl
  | tail ms m ih => exact m.lotLaw (lawful_of_moves ms h) ih

/-- The end of a rod counts in no lot yet. -/
theorem RodEnds.lotLaw {s t : State} (e : RodEnds s t) (hl : LotLaw s) : LotLaw t := by
  cases e with
  | latched => exact hl.of_eq rfl rfl
  | overrun => exact hl.of_eq rfl rfl

/-- Settles O60: every move of a step keeps the balance of the lots. -/
theorem stepKeepsTheLotLaw : Obligations.StepKeepsTheLotLaw := by
  intro s t modes capacities train hl h
  have hs := lawful_iff.mpr ⟨modes, capacities, train⟩
  obtain ⟨u, q, -, -, e⟩ := step_leads s t h
  have hu := q.lawful hs
  have hlu := q.lotLaw hl
  rcases e with l | ⟨-, e⟩
  · exact lotLaw_of_moves (l hu) hu hlu
  · obtain ⟨v, ends, l⟩ := e hu
    exact lotLaw_of_moves (l (ends.lawful hu)) (ends.lawful hu) (ends.lotLaw hlu)

end Sys2Proof.Machine
end


section
/-! The zones tile the chains (R13). -/

namespace Sys2Proof.Machine

/-! ## Prefix sums of a row of sizes -/

theorem sum_take_succ (ns : List Nat) (z : Nat) : (ns.take (z + 1)).sum = (ns.take z).sum + ns.getD z 0 := by
  rw [List.take_add_one, List.sum_append, List.getD_eq_getElem?_getD]
  cases ns[z]? <;> rfl

theorem sum_take_mono (ns : List Nat) {y z : Nat} (h : y ≤ z) : (ns.take y).sum ≤ (ns.take z).sum := by
  induction h with
  | refl => exact Nat.le_refl _
  | step _ ih => exact Nat.le_trans ih (sum_take_succ ns _ ▸ Nat.le_add_right _ _)

/-- A number below a prefix sum lies in one of the sizes summed. -/
theorem exists_size_of_lt (ns : List Nat) {n p : Nat} (h : p < (ns.take n).sum) :
    ∃ z < n, (ns.take z).sum ≤ p ∧ p < (ns.take (z + 1)).sum := by
  induction n with
  | zero => simp at h
  | succ n ih =>
    by_cases hp : p < (ns.take n).sum
    · obtain ⟨z, hz, hin⟩ := ih hp
      exact ⟨z, Nat.lt_succ_of_lt hz, hin⟩
    · exact ⟨n, Nat.lt_succ_self n, Nat.le_of_not_lt hp, h⟩

theorem size_unique (ns : List Nat) {y z p : Nat} (hy : (ns.take y).sum ≤ p ∧ p < (ns.take (y + 1)).sum)
    (hz : (ns.take z).sum ≤ p ∧ p < (ns.take (z + 1)).sum) : y = z := by
  rcases Nat.lt_trichotomy y z with h | h | h
  · have := sum_take_mono ns (Nat.add_one_le_of_lt h)
    omega
  · exact h
  · have := sum_take_mono ns (Nat.add_one_le_of_lt h)
    omega

/-! ## The zones of a layout -/

theorem Layout.zoneFirst_add (l : Layout) (z : Nat) :
    l.zoneFirst z + (if z < l.preZones then 0 else l.preCount) = (l.positions.take z).sum := by
  unfold Layout.zoneFirst
  split
  · rfl
  · rename_i hz
    rw [Layout.preCount, Nat.add_comm]
    have split := List.sum_take_add_sum_drop (l.positions.take z) l.preZones
    rwa [List.take_take, Nat.min_eq_left (Nat.le_of_not_lt hz)] at split

theorem Layout.preCount_add_mainCount (l : Layout) (h : l.preZones ≤ l.zoneCount) :
    l.preCount + l.mainCount = (l.positions.take l.zoneCount).sum := by
  have split := List.sum_take_add_sum_drop (l.positions.take l.zoneCount) l.preZones
  rwa [List.take_take, Nat.min_eq_left h] at split

theorem Layout.zoneHas_pre (l : Layout) (z p : Nat) :
    l.zoneHas z (.pre p) = true ↔ z < l.preZones ∧ (l.positions.take z).sum ≤ p ∧ p < (l.positions.take (z + 1)).sum := by
  have first := l.zoneFirst_add z
  rw [Layout.zoneHas, decide_eq_true_eq, sum_take_succ, Layout.zoneSize]
  refine and_congr_right fun hz => ?_
  rw [if_pos hz, Nat.add_zero] at first
  rw [first]

theorem Layout.zoneHas_main (l : Layout) (z q : Nat) :
    l.zoneHas z (.main q) = true ↔
      l.preZones ≤ z ∧ (l.positions.take z).sum ≤ l.preCount + q ∧ l.preCount + q < (l.positions.take (z + 1)).sum := by
  have first := l.zoneFirst_add z
  rw [Layout.zoneHas, decide_eq_true_eq, sum_take_succ, Layout.zoneSize]
  refine and_congr_right fun hz => ?_
  rw [if_neg (Nat.not_lt.mpr hz)] at first
  omega

/-- Settles O21: a position lies in the zone whose prefix sums bracket it. -/
theorem zonesTileTheChains : Obligations.ZonesTileTheChains := by
  intro l hf _
  obtain ⟨-, -, hzones, -⟩ := layoutFault_bounds hf
  have total := l.preCount_add_mainCount (Nat.le_of_lt hzones)
  refine ⟨fun p hp => ?_, fun q hq => ?_, rfl, l.preCount_add_mainCount, fun z => ⟨rfl, rfl, l.zoneFirst_add z⟩, fun z p => ?_,
    fun i z => decide_eq_true_iff, fun _ _ => rfl⟩
  · obtain ⟨z, hz, hin⟩ := exists_size_of_lt l.positions hp
    refine ⟨z, ⟨hz, (l.zoneHas_pre z p).mpr ⟨hz, hin⟩⟩, fun y hy => ?_⟩
    obtain ⟨-, hy⟩ := (l.zoneHas_pre y p).mp hy
    exact size_unique _ hy hin
  · obtain ⟨z, hz, hin⟩ := exists_size_of_lt l.positions (p := l.preCount + q) (n := l.zoneCount) (by omega)
    have hmain : l.preZones ≤ z := by
      by_contra hpre
      have := sum_take_mono l.positions (Nat.add_one_le_of_lt (Nat.lt_of_not_le hpre))
      simp only [Layout.preCount] at hin
      omega
    refine ⟨z, ⟨hmain, hz, (l.zoneHas_main z q).mpr ⟨hmain, hin⟩⟩, fun y _ hy => ?_⟩
    obtain ⟨-, hy⟩ := (l.zoneHas_main y q).mp hy
    exact size_unique _ hy hin
  · exact ⟨decide_eq_true_iff, decide_eq_true_iff⟩

end Sys2Proof.Machine
end


section
/-! One accounting of a rod (R92 to R104). -/

namespace Sys2Proof.Machine

/-! ## The change of moisture (R100, R101) -/

/-- The truncated quotient has the sign of the distance. -/
theorem tdiv_change_sign (d : Int) (k e : Nat) :
    (0 ≤ d → 0 ≤ (d * k * e).tdiv changeDivisor) ∧ (d ≤ 0 → (d * k * e).tdiv changeDivisor ≤ 0) := by
  constructor
  · intro h
    exact Int.tdiv_nonneg (by positivity) (by decide)
  · intro h
    have : d * k * e ≤ 0 :=
      Int.mul_nonpos_of_nonpos_of_nonneg (Int.mul_nonpos_of_nonpos_of_nonneg h (Int.natCast_nonneg k)) (Int.natCast_nonneg e)
    have opposite : 0 ≤ (-(d * k * e)).tdiv changeDivisor := Int.tdiv_nonneg (Int.neg_nonneg_of_nonpos this) (by decide)
    rw [Int.neg_tdiv] at opposite
    exact Int.nonpos_of_neg_nonneg opposite

/-- The change never passes the equilibrium: it lies between 0 and the distance. -/
theorem moistureChange_between (d : Int) (k e : Nat) :
    (0 ≤ d → 0 ≤ moistureChange d k e ∧ moistureChange d k e ≤ d) ∧ (d ≤ 0 → d ≤ moistureChange d k e ∧ moistureChange d k e ≤ 0) := by
  have sign := tdiv_change_sign d k e
  unfold moistureChange
  dsimp only
  split <;> omega

theorem moistureChange_full {d : Int} {k e : Nat} (h : ((d * k * e).tdiv 14745600).natAbs ≤ d.natAbs) :
    moistureChange d k e = (d * k * e).tdiv 14745600 := if_neg (Nat.not_lt.mpr h)

theorem moistureChange_clamped {d : Int} {k e : Nat} (h : d.natAbs < ((d * k * e).tdiv 14745600).natAbs) :
    moistureChange d k e = d := if_pos h

/-! ## The accounting -/

theorem Marks.accounted_eq (m : Marks) (air : ZoneAir) (profile : Option Nat) :
    m.accounted air profile = { m with
      unconditioned := m.unconditioned || decide (air.state = .off ∨ air.state = .purging ∨ air.state = .failed)
      outOfBand := m.outOfBand || decide (air.state = .waiting ∨ air.state = .ramping ∨ air.state = .economy ∨
        ((air.state = .conditioned ∨ air.state = .holding) ∧ air.latch = false))
      crossProfile := m.crossProfile || decide (profile ≠ some air.profile)
      estimated := m.estimated || air.estimated } := by
  have unconditioned : air.state.unconditioned = decide (air.state = .off ∨ air.state = .purging ∨ air.state = .failed) := by
    cases air.state <;> rfl
  have outOfBand : air.state.outOfBand air.latch = decide (air.state = .waiting ∨ air.state = .ramping ∨ air.state = .economy ∨
      ((air.state = .conditioned ∨ air.state = .holding) ∧ air.latch = false)) := by
    cases air.state <;> cases air.latch <;> rfl
  rw [Marks.accounted, unconditioned, outOfBand]

/-- With no second elapsed only marks are added (R93). -/
theorem accountRod_idle {table : List Nat} {air : ZoneAir} {now : Word32} {profile : Option Nat} {threshold : Option Int} {r : Rod}
    (h : elapsedSeconds now r.lastAccounted = 0) :
    accountRod table air now profile threshold r = { r with marks := r.marks.accounted air profile } := if_pos h

/-- The change of a rod's moisture in an accounting. -/
def Rod.change (table : List Nat) (air : ZoneAir) (now : Word32) (r : Rod) : Int :=
  moistureChange ((r.moisture : Int) - equilibrium table air.temp air.hum) air.coefficient (elapsedSeconds now r.lastAccounted)

theorem accountRod_elapsed {table : List Nat} {air : ZoneAir} {now : Word32} {profile : Option Nat} {threshold : Option Int} {r : Rod}
    (h : 0 < elapsedSeconds now r.lastAccounted) :
    accountRod table air now profile threshold r = { r with
      moisture := ((r.moisture : Int) - r.change table air now).toNat
      stress := if stressed (r.change table air now) air.gradientLimit (elapsedSeconds now r.lastAccounted) then satAdd 255 r.stress 1
        else r.stress
      heat := if heatTest air.temp threshold then satAdd maxHeat r.heat (elapsedSeconds now r.lastAccounted) else r.heat
      lastAccounted := now
      marks := r.marks.accounted air profile } := if_neg (Nat.ne_of_gt h)

/-- The moisture and its change add up, and it stays between the moisture before and the equilibrium. -/
theorem Rod.moisture_change (table : List Nat) (air : ZoneAir) (now : Word32) (r : Rod) :
    ∃ m' : Nat, (m' : Int) = r.moisture - r.change table air now ∧ min r.moisture (equilibrium table air.temp air.hum) ≤ m' ∧
      m' ≤ max r.moisture (equilibrium table air.temp air.hum) := by
  obtain ⟨up, down⟩ := moistureChange_between ((r.moisture : Int) - equilibrium table air.temp air.hum) air.coefficient
    (elapsedSeconds now r.lastAccounted)
  refine ⟨((r.moisture : Int) - r.change table air now).toNat, ?_, ?_, ?_⟩ <;> simp only [Rod.change] <;> omega

/-- Settles O47: the two cases of an accounting, with the change of moisture bounded by the distance to the equilibrium. -/
theorem accountingMovesTowardEquilibrium : Obligations.AccountingMovesTowardEquilibrium := by
  intro table air now profile threshold r e m d step r'
  have hr' : r' = accountRod table air now profile threshold r := rfl
  have he : e = elapsedSeconds now r.lastAccounted := rfl
  rw [← Marks.accounted_eq]
  rcases Nat.eq_zero_or_pos e with h0 | hpos
  · rw [accountRod_idle h0] at hr'
    simp only [hr', h0, Nat.lt_irrefl, false_implies, implies_true, and_true, true_and]
    omega
  · rw [accountRod_elapsed hpos, ← he] at hr'
    obtain ⟨m', hm', hmin, hmax⟩ := r.moisture_change table air now
    have moisture : r'.moisture = m' := by
      rw [hr', ← hm']
      exact Int.toNat_natCast m'
    have stress : r'.stress = if stressed (r.change table air now) air.gradientLimit e then min (r.stress + 1) 255 else r.stress := by
      rw [hr']
      rfl
    have dropped : stressed (r.change table air now) air.gradientLimit e = true ↔
        (air.gradientLimit * e : Int) < ((r.moisture : Int) - r'.moisture) * 60 ∧ r'.moisture < r.moisture := by
      rw [stressed, decide_eq_true_eq, moisture, hm']
      omega
    refine ⟨by rw [hr'], fun h => absurd h (Nat.ne_of_gt hpos), moisture ▸ ⟨hmin, hmax⟩, fun _ hs => ?_, fun _ hs => ?_, fun _ hs => ?_,
      fun _ hs => ?_, fun _ => ⟨fun x hx hle => ?_, fun x hx hlt => ?_, by rw [hr']⟩, by rw [hr']⟩
    · rw [moisture, hm']
      exact congrArg _ (moistureChange_full hs)
    · have : r.change table air now = d := moistureChange_clamped hs
      rw [moisture]
      omega
    · rw [stress, if_pos (dropped.mpr hs)]
    · rw [stress, if_neg (mt dropped.mp hs)]
    · rw [hr', hx]
      exact if_pos (decide_eq_true hle)
    · rw [hr', hx]
      exact if_neg (by simpa [heatTest] using hlt)

end Sys2Proof.Machine
end


section
/-! The reading requests (R192, R194), and the fields of a reply's payload (R198). -/

namespace Sys2Proof.Machine

/-! ## Answers -/

/-- A request whose operation leaves the state as it is changes the link port alone. -/
theorem State.serveAlways_same {s : State} {code : Byte} {op : State → State × Answer} (h : (op s).1 = s) :
    s.serveAlways code op = { s with link := s.link.prepared code (op s).2.status (op s).2.payload } := by
  unfold State.serveAlways
  rw [h]
  rfl

theorem State.serve_same {s : State} {code : Byte} {op : State → State × Answer} (h : (op s).1 = s) :
    ∃ status payload, s.serve code op = { s with link := s.link.prepared code status payload } := by
  rcases s.serve_cases code op with ⟨-, heq⟩ | ⟨-, heq⟩ <;> rw [heq]
  · exact ⟨_, _, rfl⟩
  · exact ⟨_, _, State.serveAlways_same h⟩

/-- Settles O6: each reading request is served by an operation that leaves the state as it is. -/
theorem readingRequestsChangeNothing : Obligations.ReadingRequestsChangeNothing := by
  intro c s reads
  have served : ∀ {request : List Byte} {code : Byte} {op : State → State × Answer}, c.request = some (code, request) →
      exec c s = .next (s.serve code op) → (op s).1 = s → ∃ code request status payload, c.request = some (code, request) ∧
        exec c s = .next { s with link := s.link.prepared code status payload } := fun hr he hs => by
    obtain ⟨status, payload, heq⟩ := State.serve_same hs
    exact ⟨_, _, status, payload, hr, by rw [he, heq]⟩
  cases c with
  | identify => exact ⟨_, _, _, _, rfl, rfl⟩
  | status => exact ⟨_, _, _, _, rfl, rfl⟩
  | timeRead => exact ⟨_, _, _, _, rfl, rfl⟩
  | zoneRead zone => exact served rfl rfl rfl
  | chainRead chain => exact served rfl rfl (chainReadOp_same chain s)
  | captureRead => exact served rfl rfl rfl
  | lotRead id => exact served rfl rfl rfl
  | rodRead number => exact served rfl rfl rfl
  | trainRead part first count => exact served rfl rfl rfl
  | reportRead => exact served rfl rfl rfl
  | profileRead slot => exact served rfl rfl (profileReadOp_same slot s)
  | tableRead row => exact served rfl rfl (tableReadOp_same row s)
  | layoutRead => exact served rfl rfl rfl
  | probeRead address => exact served rfl rfl (probeReadOp_same address s)
  | lineCheckResult => exact served rfl rfl rfl
  | _ => cases reads

/-- Outside INIT a request that its block refuses is refused. -/
theorem refuses_of_serve {s : State} {c : Instr} {code : Byte} {op : State → State × Answer} {a : Answer} (hs : s.line.state ≠ .init)
    (he : exec c s = .next (s.serve code op)) (ho : op s = (s, a)) : Refuses s c code a.status a.payload := by
  rw [Refuses, he, s.serve_ready code op hs, ho]
  rfl

/-- Outside INIT a request that its block answers OK is a reading of the payload. -/
theorem reads_of_serve {s : State} {c : Instr} {code : Byte} {op : State → State × Answer} {payload : List Byte} {n : Nat}
    {holds : List Byte → Prop} (hs : s.line.state ≠ .init) (he : exec c s = .next (s.serve code op))
    (ho : op s = (s, .ok payload)) (hl : payload.length = n) (hp : holds payload) : Reads s c code n holds :=
  ⟨payload, refuses_of_serve hs he ho, hl, hp⟩

/-! ## Payloads as rows of fields (R198) -/

/-- A payload given field by field: the width and the value of each. -/
def spell (fields : List (Nat × Nat)) : List Byte := fields.flatMap fun f => beBytes f.1 f.2

/-- The length of a row of fields. -/
def width (fields : List (Nat × Nat)) : Nat := (fields.map Prod.fst).sum

/-- A payload holds a row of fields from a byte offset on. -/
def Holds (payload : List Byte) : Nat → List (Nat × Nat) → Prop
  | _, [] => True
  | at_, (w, n) :: rest => HasField payload at_ w n ∧ Holds payload (at_ + w) rest

theorem beNat_append_singleton (bytes : List Byte) (b : Byte) : beNat (bytes ++ [b]) = beNat bytes * 256 + b.toNat := by
  simp [beNat, List.foldl_append]

/-- The bytes of a number spell it modulo their range. -/
theorem beNat_beBytes (w v : Nat) : beNat (beBytes w v) = v % 256 ^ w := by
  induction w generalizing v with
  | zero => exact (Nat.mod_one v).symm
  | succ w ih =>
    have split : v % (256 * 256 ^ w) = v % 256 + 256 * (v / 256 % 256 ^ w) := Nat.mod_mul
    rw [beBytes, beNat_append_singleton, ih, BitVec.toNat_ofNat, (Nat.pow_succ' : 256 ^ (w + 1) = 256 * 256 ^ w), split,
      Nat.mul_comm, Nat.add_comm]

theorem spell_append (a b : List (Nat × Nat)) : spell (a ++ b) = spell a ++ spell b := List.flatMap_append

theorem spell_cons (f : Nat × Nat) (rest : List (Nat × Nat)) : spell (f :: rest) = beBytes f.1 f.2 ++ spell rest := List.flatMap_cons

theorem spell_length (fields : List (Nat × Nat)) : (spell fields).length = width fields := by
  induction fields with
  | nil => rfl
  | cons f rest ih => rw [spell_cons, List.length_append, Laws.RequestForm.beBytes_length, ih, width, width, List.map_cons, List.sum_cons]

/-- A field stands where the bytes before it end. -/
theorem hasField_append (before after : List Byte) (w n : Nat) : HasField (before ++ (beBytes w n ++ after)) before.length w n := by
  have len := Laws.RequestForm.beBytes_length w n
  rw [HasField, fieldNat, fieldBytes, List.drop_left, List.take_left' len, beNat_beBytes]

/-- A row of fields stands where the bytes before it end. -/
theorem holds_append (before after : List Byte) (fields : List (Nat × Nat)) :
    Holds (before ++ (spell fields ++ after)) before.length fields := by
  induction fields generalizing before with
  | nil => trivial
  | cons f rest ih =>
    obtain ⟨w, n⟩ := f
    rw [spell_cons, List.append_assoc]
    refine ⟨hasField_append before _ w n, ?_⟩
    have next := ih (before ++ beBytes w n)
    rwa [List.length_append, Laws.RequestForm.beBytes_length, List.append_assoc] at next

theorem holds_spell (fields : List (Nat × Nat)) : Holds (spell fields) 0 fields := by
  simpa using holds_append [] [] fields

theorem Holds.append {p : List Byte} {at_ : Nat} {a b : List (Nat × Nat)} (h : Holds p at_ (a ++ b)) :
    Holds p at_ a ∧ Holds p (at_ + width a) b := by
  induction a generalizing at_ with
  | nil => exact ⟨trivial, h⟩
  | cons f a ih =>
    obtain ⟨w, n⟩ := f
    obtain ⟨first, rest⟩ := h
    obtain ⟨ha, hb⟩ := ih rest
    rw [Nat.add_assoc] at hb
    exact ⟨⟨first, ha⟩, hb⟩

/-- A row of 32-bit fields. -/
def words (ns : List Nat) : List (Nat × Nat) := ns.map (Prod.mk 4)

theorem width_words (ns : List Nat) : width (words ns) = 4 * ns.length := by
  induction ns with
  | nil => rfl
  | cons n ns ih =>
    rw [words, List.map_cons, width, List.map_cons, List.sum_cons, ← width, ← words, ih, List.length_cons]
    omega

theorem Holds.word {p : List Byte} {at_ : Nat} {ns : List Nat} (h : Holds p at_ (words ns)) {i n : Nat} (hi : ns[i]? = some n) :
    HasField p (at_ + 4 * i) 4 n := by
  induction ns generalizing at_ i with
  | nil => simp at hi
  | cons m ns ih =>
    obtain ⟨first, rest⟩ := h
    cases i with
    | zero =>
      cases hi
      exact first
    | succ i =>
      have := ih rest hi
      rwa [show at_ + 4 + 4 * i = at_ + 4 * (i + 1) by omega] at this

theorem spell_words (ns : List Nat) : spell (words ns) = ns.flatMap (beBytes 4) := by
  rw [spell, words, List.flatMap_map]

/-- A signed field holds the two's complement of its value. -/
theorem HasField.signed {p : List Byte} {at_ : Nat} {v : Int} (h : HasField p at_ 2 (v % 65536).toNat) : HasSigned p at_ v := by
  have small : (v % 65536).toNat < 65536 := by omega
  exact Eq.trans h (Nat.mod_eq_of_lt small)

theorem flagByte_eq (b : Bool) : [flagByte b] = beBytes 1 (if b then 1 else 0) := by cases b <;> rfl

end Sys2Proof.Machine
end


section
/-! ROD READ, ROD MARK, LOT READ and TRAIN READ (R18 to R21, R129). -/

namespace Sys2Proof.Machine

/-! ## What the tables find -/

theorem State.number_of_rod {s : State} {n : Word32} {r : Rod} (h : s.rod n = some r) : r.number = n := by
  have := List.find?_some h
  exact beq_iff_eq.mp this

theorem State.rod_eq_none {s : State} {n : Word32} (h : ∀ r ∈ s.rods, r.number ≠ n) : s.rod n = none :=
  List.find?_eq_none.mpr fun r hr => by simpa using h r hr

theorem State.id_of_lotSlotOf {s : State} {id : Word32} {slot : Nat} {l : Lot} (h : s.lotSlotOf id = some slot)
    (hl : s.lot slot = some l) : l.id = id := by
  obtain ⟨hlt, found, -⟩ := List.findIdx?_eq_some_iff_getElem.mp h
  have at_slot : s.lots[slot] = some l := by simpa [State.lot, List.getElem?_eq_getElem hlt] using hl
  simpa [at_slot] using found

theorem State.lotIdOf_eq {s : State} {slot : Nat} {l : Lot} (h : s.lot slot = some l) : s.lotIdOf slot = l.id := by
  unfold State.lotIdOf
  rw [h]

/-! ## The images as rows of fields -/

theorem Marks.bits_eq (m : Marks) : m.bits = (if m.overflow then 1 else 0) + 2 * (if m.noCut then 1 else 0)
    + 4 * (if m.shortCurtain then 1 else 0) + 8 * (if m.estimated then 1 else 0) + 16 * (if m.unconditioned then 1 else 0)
    + 32 * (if m.outOfBand then 1 else 0) + 64 * (if m.crossProfile then 1 else 0) + 128 * (if m.operator then 1 else 0) := by
  simp only [Marks.bits, flagBits]
  ring

/-- The charge and its absent flag. -/
def chargeFields : Option Nat → List (Nat × Nat)
  | none => [(2, 0), (1, 1)]
  | some g => [(2, g), (1, 0)]

theorem chargeImage_eq (c : Option Nat) : chargeImage c = spell (chargeFields c) := by
  cases c <;> rfl

/-- The part code of a location and the place in the part. -/
def locationFields : Location → List (Nat × Nat)
  | .landing i => [(1, 0), (2, i)]
  | .pre i => [(1, 1), (2, i)]
  | .buffer i => [(1, 2), (2, i)]
  | .main i => [(1, 3), (2, i)]

theorem locationImage_eq (loc : Location) : locationImage loc = spell (locationFields loc) := by
  cases loc <;> rfl

theorem rodImage_eq (id : Word32) (r : Rod) : rodImage id r =
    spell ([(4, r.number.toNat), (1, r.lotSlot), (4, id.toNat), (4, r.hangTime.toNat), (4, r.cutTime.toNat)] ++ words r.counts
      ++ chargeFields r.charge
      ++ [(4, r.moisture), (1, r.stress), (4, r.heat), (4, r.lastAccounted.toNat), (1, r.marks.bits)]
      ++ locationFields r.location) := by
  simp only [spell_append, spell_words, ← chargeImage_eq, ← locationImage_eq, rodImage, be32]
  simp only [spell, List.flatMap_cons, List.flatMap_nil, List.append_assoc, List.nil_append]

theorem lotImage_eq (slot : Nat) (l : Lot) : lotImage slot l =
    spell [(1, slot), (4, l.id.toNat), (1, l.profile), (1, l.state.code), (1, l.gapPending), (4, l.born.toNat),
      (4, l.scrapped.toNat), (2, l.inTrain), (4, l.accepted.toNat), (4, l.reviewed.toNat), (4, l.reworked.toNat),
      (4, l.rejected.toNat), (4, l.acceptedCharge), (4, l.trimTotal), (4, l.firstRod.toNat), (4, l.lastRod.toNat),
      (2, l.reportsLost)] := by
  simp only [lotImage, be32, spell, List.flatMap_cons, List.flatMap_nil, List.append_assoc, List.append_nil]

/-! ## ROD READ and ROD MARK (R18, R19) -/

theorem chargeFields_width (c : Option Nat) : width (chargeFields c) = 3 := by cases c <;> rfl

theorem locationFields_width (loc : Location) : width (locationFields loc) = 3 := by cases loc <;> rfl

theorem width_append (a b : List (Nat × Nat)) : width (a ++ b) = width a + width b := by
  rw [width, List.map_append, List.sum_append, width, width]

theorem rodImage_length (id : Word32) (r : Rod) (h : r.counts.length = 6) : (rodImage id r).length = 61 := by
  rw [rodImage_eq, spell_length]
  simp only [width_append, width_words, chargeFields_width, locationFields_width, h]
  rfl

/-- The fields of a ROD READ reply. -/
theorem rodImage_holds (id : Word32) (r : Rod) (h : r.counts.length = 6) :
    Holds (rodImage id r) 0 [(4, r.number.toNat), (1, r.lotSlot), (4, id.toNat), (4, r.hangTime.toNat), (4, r.cutTime.toNat)] ∧
    Holds (rodImage id r) 17 (words r.counts) ∧ Holds (rodImage id r) 41 (chargeFields r.charge) ∧
    Holds (rodImage id r) 44 [(4, r.moisture), (1, r.stress), (4, r.heat), (4, r.lastAccounted.toNat), (1, r.marks.bits)] ∧
    Holds (rodImage id r) 58 (locationFields r.location) := by
  have all := holds_spell ([(4, r.number.toNat), (1, r.lotSlot), (4, id.toNat), (4, r.hangTime.toNat), (4, r.cutTime.toNat)]
    ++ words r.counts ++ chargeFields r.charge
    ++ [(4, r.moisture), (1, r.stress), (4, r.heat), (4, r.lastAccounted.toNat), (1, r.marks.bits)] ++ locationFields r.location)
  rw [← rodImage_eq] at all
  obtain ⟨all, location⟩ := all.append
  obtain ⟨all, moisture⟩ := all.append
  obtain ⟨all, charge⟩ := all.append
  obtain ⟨number, counts⟩ := all.append
  simp only [width_append, width_words, chargeFields_width, h] at location moisture charge
  exact ⟨number, counts, charge, moisture, location⟩

theorem rodRead_refused {s : State} (hs : s.line.state ≠ .init) {n : Word32} {a : Answer} (h : s.rodReadAnswer n = a) :
    Refuses s (.rodRead n) 0x33 a.status a.payload :=
  refuses_of_serve hs (op := rodReadOp n) rfl (congrArg (Prod.mk s) h)

theorem rodMark_refused {s : State} (hs : s.line.state ≠ .init) {n : Word32} {a : Answer} (h : rodMarkOp n s = (s, a)) :
    Refuses s (.rodMark n) 0x34 a.status a.payload :=
  refuses_of_serve hs (op := rodMarkOp n) rfl h

theorem rodReadAnswer_missing {s : State} {n : Word32} (h0 : n ≠ 0) (h : s.rod n = none) :
    s.rodReadAnswer n = .refuse .notFound := by
  rw [State.rodReadAnswer, if_neg h0, h]

theorem rodReadAnswer_live {s : State} {n : Word32} {r : Rod} {lot : Lot} (h0 : n ≠ 0) (h : s.rod n = some r)
    (hl : s.lot r.lotSlot = some lot) : s.rodReadAnswer n = .ok (rodImage lot.id r) := by
  rw [State.rodReadAnswer, if_neg h0, h, ← State.lotIdOf_eq hl]

theorem rodRead_reads {s : State} (hs : s.line.state ≠ .init) {n : Word32} {r : Rod} {lot : Lot} (h0 : n ≠ 0)
    (h : s.rod n = some r) (hl : s.lot r.lotSlot = some lot) (hc : r.counts.length = 6) {holds : List Byte → Prop}
    (hp : holds (rodImage lot.id r)) : Reads s (.rodRead n) 0x33 61 holds :=
  reads_of_serve hs (op := rodReadOp n) rfl (congrArg (Prod.mk s) (rodReadAnswer_live h0 h hl)) (rodImage_length _ r hc) hp

/-- ROD MARK of a live rod adds OPERATOR to its marks (R19). -/
theorem rodMark_live {s : State} (hs : s.line.state ≠ .init) {n : Word32} (h0 : n ≠ 0) (h : (s.rod n).isSome = true) :
    exec (.rodMark n) s = .next { s with
      rods := s.rods.map fun x => if x.number = n then { x with marks := { x.marks with operator := true } } else x
      link := s.link.prepared 0x34 .ok [] } := by
  have op : rodMarkOp n s = (s.markRod n, .ok []) := by
    rw [rodMarkOp, if_neg h0, if_neg (by simpa [Option.isNone_iff_eq_none, Option.isSome_iff_ne_none] using h)]
  show Host.Outcome.next (s.serve 0x34 (rodMarkOp n)) = _
  rw [s.serve_ready 0x34 _ hs, op]
  rfl

/-! ## LOT READ (R129) -/

theorem lotRead_refused {s : State} (hs : s.line.state ≠ .init) {id : Word32} {a : Answer} (h : s.lotReadAnswer id = a) :
    Refuses s (.lotRead id) 0x32 a.status a.payload :=
  refuses_of_serve hs (op := lotReadOp id) rfl (congrArg (Prod.mk s) h)

theorem lotRead_reads {s : State} (hs : s.line.state ≠ .init) {id : Word32} {slot : Nat} {l : Lot} (h0 : id ≠ 0)
    (h : s.lotSlotOf id = some slot) (hl : s.lot slot = some l) {holds : List Byte → Prop} (hp : holds (lotImage slot l)) :
    Reads s (.lotRead id) 0x32 52 holds := by
  have answer : s.lotReadAnswer id = .ok (lotImage slot l) := by
    rw [State.lotReadAnswer, if_neg h0, h]
    dsimp only
    rw [hl]
  refine reads_of_serve hs (op := lotReadOp id) rfl (congrArg (Prod.mk s) answer) ?_ hp
  simp only [lotImage_eq, spell_length, width, List.map_cons, List.map_nil, List.sum_cons, List.sum_nil, Nat.reduceAdd]

/-! ## TRAIN READ (R21) -/

/-- The places of a part, for the part codes 0 to 3 (R21). -/
theorem State.trainPart_eq (s : State) {part : Byte} (h : part.toNat ≤ 3) : s.trainPart part.toNat =
    if part = 0 then s.landing.map some else if part = 1 then s.preChain else if part = 2 then s.buffer.map some else s.mainChain := by
  obtain rfl | rfl | rfl | rfl : part = 0 ∨ part = 1 ∨ part = 2 ∨ part = 3 := by bv_omega
  all_goals rfl

/-- The TRAIN READ reply of a range of places. -/
def trainImage (part first : Nat) (places range : List (Option Word32)) : List Byte :=
  spell ([(1, part), (2, first), (1, range.length), (2, places.countP Option.isSome)] ++ words (range.map fun p => (p.getD 0).toNat))

theorem trainImage_length (part first : Nat) (places range : List (Option Word32)) :
    (trainImage part first places range).length = 6 + 4 * range.length := by
  rw [trainImage, spell_length, width_append, width_words, List.length_map]
  rfl

theorem not_bad_count {count : Byte} (h0 : count ≠ 0) (h48 : count.toNat ≤ 48) : ¬ (count.toNat = 0 ∨ 48 < count.toNat) := by
  rintro (h | h)
  · exact h0 (BitVec.eq_of_toNat_eq h)
  · exact Nat.not_lt.mpr h48 h

theorem trainReadAnswer_ok {s : State} {part : Byte} {first : BitVec 16} {count : Byte} (hp : part.toNat ≤ 3) (h0 : count ≠ 0)
    (h48 : count.toNat ≤ 48) (hs : s.line.state ≠ .unconfigured) :
    s.trainReadAnswer part first count = .ok (trainImage part.toNat first.toNat (s.trainPart part.toNat)
      (((s.trainPart part.toNat).drop first.toNat).take count.toNat)) := by
  rw [State.trainReadAnswer, if_neg (Nat.not_lt.mpr hp), if_neg (not_bad_count h0 h48), if_neg hs, trainImage, spell_append, spell_words,
    List.flatMap_map]
  simp only [spell, List.flatMap_cons, List.flatMap_nil, List.append_nil, List.append_assoc, trainRange, rodCount, be32]

theorem trainRead_refused {s : State} (hs : s.line.state ≠ .init) {part : Byte} {first : BitVec 16} {count : Byte} {a : Answer}
    (h : s.trainReadAnswer part first count = a) : Refuses s (.trainRead part first count) 0x35 a.status a.payload :=
  refuses_of_serve hs (op := trainReadOp part first count) rfl (congrArg (Prod.mk s) h)

/-- The i-th entry of a range is the place i after its first. -/
theorem getElem?_range (places : List (Option Word32)) {first count i : Nat} (h : i < min count (places.length - first)) :
    ((places.drop first).take count)[i]? = places[first + i]? := by
  rw [List.getElem?_take, if_pos (by omega), List.getElem?_drop]

/-! ## The obligation -/

theorem rodMarkOp_zero (s : State) : rodMarkOp 0 s = (s, .badValue 0) := rfl

/-- Settles O42: the images are rows of fields, read at the sums of the widths before. -/
theorem rodsLotsAndTheTrainAreRead : Obligations.RodsLotsAndTheTrainAreRead := by
  intro s hs
  refine ⟨⟨rodRead_refused hs rfl, rodMark_refused hs (rodMarkOp_zero s), lotRead_refused hs rfl⟩, fun n h0 hn => ?_,
    fun n r lot h0 hr hl hc => ?_, fun id h0 hid => ?_, fun id slot l h0 hid hl => ?_, fun part first count => ?_⟩
  · have none := State.rod_eq_none hn
    refine ⟨rodRead_refused hs (rodReadAnswer_missing h0 none), rodMark_refused (a := .refuse .notFound) hs ?_⟩
    rw [rodMarkOp, if_neg h0, none]
    rfl
  · refine ⟨rodRead_reads hs h0 hr hl hc ?_, rodMark_live hs h0 (by rw [hr]; rfl)⟩
    obtain ⟨⟨number, slot, lotId, hang, cut, -⟩, counts, charge, ⟨moisture, stress, heat, last, marks, -⟩, location⟩ :=
      rodImage_holds lot.id r hc
    rw [State.number_of_rod hr] at number
    rw [Marks.bits_eq] at marks
    refine ⟨number, slot, lotId, hang, cut, fun c v hv => counts.word hv, fun hn => ?_, fun g hg => ?_, moisture, stress, heat, last,
      marks, fun i => ⟨fun hi => ?_, fun hi => ?_, fun hi => ?_, fun hi => ?_⟩⟩
    · rw [hn] at charge
      exact ⟨charge.1, charge.2.1⟩
    · rw [hg] at charge
      exact ⟨charge.1, charge.2.1⟩
    all_goals
      rw [hi] at location
      exact ⟨location.1, location.2.1⟩
  · refine lotRead_refused (a := .refuse .notFound) hs ?_
    rw [State.lotReadAnswer, if_neg h0, hid]
  · refine lotRead_reads hs h0 hid hl ?_
    obtain ⟨slot, lotId, profile, state, gap, born, scrapped, inTrain, accepted, reviewed, reworked, rejected, charge, trim, firstRod,
      lastRod, lost, -⟩ := lotImage_eq slot l ▸ holds_spell _
    rw [State.id_of_lotSlotOf hid hl] at lotId
    exact ⟨slot, lotId, profile, state, gap, born, scrapped, inTrain, accepted, reviewed, reworked, rejected, charge, trim, firstRod,
      lastRod, lost⟩
  · intro places
    refine ⟨fun hp => ?_, fun hp hc => ?_, fun hp h0 h48 hu => ?_, fun hp h0 h48 hu => ?_⟩
    · refine trainRead_refused (a := .badValue 0) hs ?_
      rw [State.trainReadAnswer, if_pos hp]
    · refine trainRead_refused (a := .badValue 3) hs ?_
      rw [State.trainReadAnswer, if_neg (Nat.not_lt.mpr hp), if_pos (hc.imp_left fun h => h ▸ rfl)]
    · refine trainRead_refused (a := .refuse .notNow) hs ?_
      rw [State.trainReadAnswer, if_neg (Nat.not_lt.mpr hp), if_neg (not_bad_count h0 h48), if_pos hu]
    · intro returned
      have part_eq : s.trainPart part.toNat = places := s.trainPart_eq hp
      have answer := trainReadAnswer_ok (first := first) hp h0 h48 hu
      rw [part_eq] at answer
      have len : ((places.drop first.toNat).take count.toNat).length = returned := by rw [List.length_take, List.length_drop]
      refine reads_of_serve hs (op := trainReadOp part first count) rfl (congrArg (Prod.mk s) answer) (len ▸ trainImage_length ..) ?_
      obtain ⟨⟨code, at_, number, rods, -⟩, entries⟩ := (holds_spell _ : Holds (trainImage part.toNat first.toNat places
        ((places.drop first.toNat).take count.toNat)) 0 _).append
      refine ⟨code, at_, by rw [← len]; exact number, rods, fun i hi => entries.word ?_⟩
      have place : first.toNat + i < places.length := by omega
      rw [List.getElem?_map, getElem?_range places hi, List.getElem?_eq_getElem place]
      rfl

end Sys2Proof.Machine
end


section
/-! ZONE READ, CHAIN READ and CAPTURE READ (R43, R63, R90), the targets in force (R66) and SPREADER HOLD (R41). -/

namespace Sys2Proof.Machine

/-! ## ZONE READ (R90) -/

/-- The held bits, the temperature and the humidity of the targets in force. -/
def targetsFields : Option (Int × Option Nat) → List (Nat × Nat)
  | none => [(1, 0), (2, 0), (2, 0)]
  | some (t, none) => [(1, 1), (2, (t % 65536).toNat), (2, 0)]
  | some (t, some h) => [(1, 3), (2, (t % 65536).toNat), (2, h)]

theorem targetsImage_eq (t : Option (Int × Option Nat)) : targetsImage t = spell (targetsFields t) := by
  rcases t with _ | ⟨t, _ | h⟩ <;> rfl

theorem targetsFields_width (t : Option (Int × Option Nat)) : width (targetsFields t) = 5 := by
  rcases t with _ | ⟨t, _ | h⟩ <;> rfl

/-- Whether a reading is held, and the reading. -/
def readingFields : Option Reading → List (Nat × Nat)
  | none => [(1, 0), (2, 0), (2, 0), (4, 0)]
  | some r => [(1, 1), (2, (r.temp % 65536).toNat), (2, r.hum), (4, r.time.toNat)]

theorem readingImage_eq (r : Option Reading) : [flagByte r.isSome] ++ readingImage r = spell (readingFields r) := by
  cases r <;> rfl

theorem readingFields_width (r : Option Reading) : width (readingFields r) = 9 := by cases r <;> rfl

theorem Holds.targets {p : List Byte} {tg : Option (Int × Option Nat)} (h : Holds p 4 (targetsFields tg)) :
    (tg = none → HasField p 4 1 0 ∧ HasField p 5 2 0 ∧ HasField p 7 2 0) ∧
    (∀ t, tg = some (t, none) → HasField p 4 1 1 ∧ HasSigned p 5 t ∧ HasField p 7 2 0) ∧
    (∀ t h, tg = some (t, some h) → HasField p 4 1 3 ∧ HasSigned p 5 t ∧ HasField p 7 2 h) := by
  refine ⟨fun ht => ?_, fun t ht => ?_, fun t hum ht => ?_⟩ <;> rw [ht] at h
  · obtain ⟨held, temp, hum, -⟩ := h
    exact ⟨held, temp, hum⟩
  · obtain ⟨held, temp, hum, -⟩ := h
    exact ⟨held, temp.signed, hum⟩
  · obtain ⟨held, temp, hum, -⟩ := h
    exact ⟨held, temp.signed, hum⟩

theorem Holds.reading {p : List Byte} {rd : Option Reading} (h : Holds p 12 (readingFields rd)) :
    (rd = none → HasField p 12 1 0 ∧ HasField p 13 2 0 ∧ HasField p 15 2 0 ∧ HasField p 17 4 0) ∧
    (∀ r, rd = some r → HasField p 12 1 1 ∧ HasSigned p 13 r.temp ∧ HasField p 15 2 r.hum ∧ HasField p 17 4 r.time.toNat) := by
  refine ⟨fun hr => ?_, fun r hr => ?_⟩ <;> rw [hr] at h
  · obtain ⟨held, temp, hum, time, -⟩ := h
    exact ⟨held, temp, hum, time⟩
  · obtain ⟨held, temp, hum, time, -⟩ := h
    exact ⟨held, temp.signed, hum, time⟩

/-- The fields of a zone before its targets. -/
def Zone.headFields (z : Nat) (zn : Zone) : List (Nat × Nat) :=
  [(1, z), (1, zn.state.code), (1, if zn.startPending then 1 else 0), (1, (zn.governing.map Governing.profile).getD 0xFF)]

/-- The fields of a zone between its targets and its probe's reading. -/
def State.probeFields (s : State) (z : Nat) (zn : Zone) : List (Nat × Nat) :=
  [(1, if zn.latch then 1 else 0), (1, if s.blind z then 1 else 0), (1, (s.probe z).misses)]

/-- The fields of a zone after its probe's reading. -/
def State.tailFields (s : State) (z : Nat) (zn : Zone) : List (Nat × Nat) :=
  [(1, (if zn.heat then 1 else 0) + 2 * (if zn.vent then 1 else 0)), (2, s.zoneRods z), (1, s.queuePlace z zn),
    (2, zn.rampTimer.getD 0 / 100), (2, zn.purgeTimer.getD 0 / 100), (2, zn.economyTimer.getD 0 / 100), (4, zn.entered.toNat)]

theorem State.zoneImage_eq (s : State) (z : Nat) (zn : Zone) : s.zoneImage z zn =
    spell (zn.headFields z ++ targetsFields zn.targets ++ s.probeFields z zn ++ readingFields (s.probe z).reading ++ s.tailFields z zn) := by
  have outputs : flagBits [zn.heat, zn.vent] = (if zn.heat then 1 else 0) + 2 * (if zn.vent then 1 else 0) := rfl
  simp only [spell_append, ← targetsImage_eq, ← readingImage_eq, State.zoneImage, flagByte_eq, outputs, be32, timerSeconds]
  cases hg : zn.governing <;> simp only [spell, Zone.headFields, State.probeFields, State.tailFields, List.flatMap_cons,
    List.flatMap_nil, List.append_assoc, List.append_nil, hg, Option.map_none, Option.map_some, Option.getD_none, Option.getD_some]

theorem State.queuePlace_other (s : State) (z : Nat) {zn : Zone} (h : zn.state ≠ .waiting) : s.queuePlace z zn = 0xFF := if_neg h

theorem State.queuePlace_waiting (s : State) {z place : Nat} {zn : Zone} (h : zn.state = .waiting)
    (hp : s.arbiter.queue.findIdx? (· == z) = some place) : s.queuePlace z zn = place := by
  rw [State.queuePlace, if_pos h, hp]
  rfl

theorem State.zoneImage_length (s : State) (z : Nat) (zn : Zone) : (s.zoneImage z zn).length = 35 := by
  rw [s.zoneImage_eq, spell_length]
  simp only [width_append, targetsFields_width, readingFields_width]
  rfl

theorem State.zoneImage_holds (s : State) (z : Nat) (zn : Zone) :
    Holds (s.zoneImage z zn) 0 (zn.headFields z) ∧ Holds (s.zoneImage z zn) 4 (targetsFields zn.targets) ∧
    Holds (s.zoneImage z zn) 9 (s.probeFields z zn) ∧ Holds (s.zoneImage z zn) 12 (readingFields (s.probe z).reading) ∧
    Holds (s.zoneImage z zn) 21 (s.tailFields z zn) := by
  have all := holds_spell
    (zn.headFields z ++ targetsFields zn.targets ++ s.probeFields z zn ++ readingFields (s.probe z).reading ++ s.tailFields z zn)
  rw [← State.zoneImage_eq] at all
  obtain ⟨all, tail⟩ := all.append
  obtain ⟨all, reading⟩ := all.append
  obtain ⟨all, probe⟩ := all.append
  obtain ⟨head, targets⟩ := all.append
  simp only [width_append, targetsFields_width, readingFields_width] at tail reading probe
  exact ⟨head, targets, probe, reading, tail⟩

theorem zoneRead_refused {s : State} (hs : s.line.state ≠ .init) {zone : Byte} {a : Answer} (h : s.zoneReadAnswer zone = a) :
    Refuses s (.zoneRead zone) 0x20 a.status a.payload :=
  refuses_of_serve hs (op := zoneReadOp zone) rfl (congrArg (Prod.mk s) h)

theorem zoneRead_reads {s : State} (hs : s.line.state ≠ .init) {zone : Byte} {zn : Zone} (hu : s.line.state ≠ .unconfigured)
    (hz : s.zones[zone.toNat]? = some zn) {holds : List Byte → Prop} (hp : holds (s.zoneImage zone.toNat zn)) :
    Reads s (.zoneRead zone) 0x20 35 holds := by
  have answer : s.zoneReadAnswer zone = .ok (s.zoneImage zone.toNat zn) := by rw [State.zoneReadAnswer, if_neg hu, hz]
  exact reads_of_serve hs (op := zoneReadOp zone) rfl (congrArg (Prod.mk s) answer) (s.zoneImage_length _ _) hp

/-! ## CHAIN READ (R63) -/

theorem chainOfCode_eq_none {code : Byte} (h : 1 < code.toNat) : chainOfCode code = none := by
  unfold chainOfCode
  split
  · omega
  · omega
  · rfl

theorem chainOfCode_chainCode (c : Chain) : chainOfCode (BitVec.ofNat 8 (chainCode c)) = some c := by cases c <;> rfl

/-- The fields of a chain. -/
def State.chainFields (s : State) (c : Chain) : List (Nat × Nat) :=
  [(1, chainCode c), (1, (s.seq c).state.code),
    (1, (if (s.seq c).lateApplied then 1 else 0) + 2 * (if (s.seq c).state = .stepping then 1 else 0)
      + 4 * (if s.takeCondition c then 1 else 0) + 8 * (if c = .main ∧ s.pins.stripReady = true then 1 else 0)),
    (2, (s.positions c).length), (2, (s.positions c).countP Option.isSome), (4, (s.seq c).shiftCount.toNat),
    (4, (s.seq c).lastShift.toNat), (4, (s.seq c).entered.toNat)]

theorem State.chainImage_eq (s : State) (c : Chain) : s.chainImage c = spell (s.chainFields c) := by
  have strip : (s.stripLevel c = true) = (c = .main ∧ s.pins.stripReady = true) := by
    cases c <;> simp [State.stripLevel]
  have flags : flagBits [(s.seq c).lateApplied, s.stepOut c, s.takeCondition c, s.stripLevel c] =
      (if (s.seq c).lateApplied then 1 else 0) + 2 * (if (s.seq c).state = .stepping then 1 else 0)
        + 4 * (if s.takeCondition c then 1 else 0) + 8 * (if c = .main ∧ s.pins.stripReady = true then 1 else 0) := by
    simp only [flagBits, State.stepOut, beq_iff_eq, strip]
    ring
  simp only [State.chainImage, flags, spell, State.chainFields, List.flatMap_cons, List.flatMap_nil, List.append_assoc,
    List.append_nil, be32, rodCount]

theorem chainRead_reads {s : State} (hs : s.line.state ≠ .init) (c : Chain) {holds : List Byte → Prop}
    (hp : holds (s.chainImage c)) : Reads s (.chainRead (BitVec.ofNat 8 (chainCode c))) 0x22 19 holds := by
  refine reads_of_serve hs (op := chainReadOp (BitVec.ofNat 8 (chainCode c))) rfl ?_ ?_ hp
  · rw [chainReadOp, chainOfCode_chainCode]
  · rw [s.chainImage_eq, spell_length]
    rfl

theorem chainRead_refused {s : State} (hs : s.line.state ≠ .init) {code : Byte} (h : 1 < code.toNat) :
    Refuses s (.chainRead code) 0x22 .badValue [0] := by
  refine refuses_of_serve (a := .badValue 0) hs (op := chainReadOp code) rfl ?_
  rw [chainReadOp, chainOfCode_eq_none h]

/-! ## SPREADER HOLD and the OPEN lot (R41, R119) -/

theorem State.openLot_eq_none (s : State) : s.openLot = none ↔ s.openSlot = none := by
  unfold State.openLot
  cases h : s.openSlot with
  | none => exact ⟨fun _ => rfl, fun _ => rfl⟩
  | some slot =>
    obtain ⟨l, hl, -⟩ := State.lot_of_openSlot h
    simp [hl]

theorem State.openSlot_eq_none (s : State) : s.openSlot = none ↔ ∀ lot, some lot ∈ s.lots → lot.state ≠ .opened := by
  unfold State.openSlot
  rw [List.findIdx?_eq_none_iff]
  constructor
  · intro h lot hm
    simpa using h _ hm
  · intro h o ho
    cases o with
    | none => rfl
    | some lot => simpa using h lot ho

theorem State.openLot_eq_some {s : State} {lot : Lot} (h : s.openLot = some lot) : some lot ∈ s.lots ∧ lot.state = .opened := by
  obtain ⟨slot, hslot, hl⟩ := Option.bind_eq_some_iff.mp h
  obtain ⟨l, hl', opened⟩ := State.lot_of_openSlot hslot
  cases hl.symm.trans hl'
  exact ⟨State.mem_lots_of_lot hl, opened⟩

theorem State.gapPending_iff (s : State) : s.gapPending = true ↔ ∃ lot, s.openLot = some lot ∧ 0 < lot.gapPending := by
  unfold State.gapPending
  cases h : s.openLot with
  | none => simp
  | some l => simp

theorem State.spreaderHold_iff (s : State) :
    s.spreaderHold = true ↔ s.line.state ≠ .running ∨ 3 ≤ s.landing.length ∨ s.gapPending = true ∨ s.openLot = none := by
  simp only [State.spreaderHold, Bool.or_eq_true, bne_iff_ne, decide_eq_true_eq, Option.isNone_iff_eq_none, or_assoc]

/-! ## CAPTURE READ (R43) -/

/-- The latch's flags and rod. -/
def latchFields : Option Latch → List (Nat × Nat)
  | none => [(1, 0), (4, 0), (4, 0), (4, 0)]
  | some l => [(1, 1 + 2 * (if l.noCut then 1 else 0) + 4 * (if l.overflowed then 1 else 0)), (4, l.number.toNat),
      (4, l.hangTime.toNat), (4, l.cutTime.toNat)]

theorem latchImage_eq (l : Option Latch) : latchImage l = spell (latchFields l) := by
  cases l with
  | none => rfl
  | some l =>
    have flags : flagBits [true, l.noCut, l.overflowed] =
        1 + 2 * (if l.noCut then 1 else 0) + 4 * (if l.overflowed then 1 else 0) := by
      simp only [flagBits, if_true]
      ring
    simp only [latchImage, latchFields, flags, spell, List.flatMap_cons, List.flatMap_nil, List.append_assoc, List.append_nil, be32]

theorem Holds.latch {p : List Byte} {lt : Option Latch} (h : Holds p 54 (latchFields lt)) :
    (lt = none → HasField p 54 1 0 ∧ HasField p 55 4 0 ∧ HasField p 59 4 0 ∧ HasField p 63 4 0) ∧
    (∀ l, lt = some l → HasField p 54 1 (1 + 2 * (if l.noCut then 1 else 0) + 4 * (if l.overflowed then 1 else 0)) ∧
      HasField p 55 4 l.number.toNat ∧ HasField p 59 4 l.hangTime.toNat ∧ HasField p 63 4 l.cutTime.toNat) := by
  refine ⟨fun hl => ?_, fun l hl => ?_⟩ <;> rw [hl] at h
  · obtain ⟨occupied, number, hangTime, cutTime, -⟩ := h
    exact ⟨occupied, number, hangTime, cutTime⟩
  · obtain ⟨flags, number, hangTime, cutTime, -⟩ := h
    exact ⟨flags, number, hangTime, cutTime⟩

theorem latchFields_width (l : Option Latch) : width (latchFields l) = 13 := by cases l <;> rfl

/-- The fields of the capture unit before its counters. -/
def Capture.headFields (c : Capture) : List (Nat × Nat) :=
  [(1, c.state.code), (4, (if c.state = .hanging then c.hangTime else 0).toNat)]

/-- The fields of the capture unit after its latch. -/
def State.spreaderFields (s : State) : List (Nat × Nat) :=
  [(4, s.capture.rodCounter.toNat), (1, s.landing.length),
    (1, (if s.spreaderHold then 1 else 0) + 2 * (if s.line.state ≠ .running then 1 else 0)
      + 4 * (if 3 ≤ s.landing.length then 1 else 0) + 8 * (if s.gapPending then 1 else 0) + 16 * (if s.openLot = none then 1 else 0))]

theorem State.captureImage_eq (s : State) : s.captureImage =
    spell (s.capture.headFields ++ words (s.capture.channels.map (·.count))
      ++ [(1, flagBits (s.capture.channels.map (·.overflow)))] ++ words (s.capture.channels.map (·.trim))
      ++ latchFields s.capture.latch ++ s.spreaderFields) := by
  have flags : flagBits [s.spreaderHold, s.line.state != .running, decide (3 ≤ s.landing.length), s.gapPending, s.openLot.isNone] =
      (if s.spreaderHold then 1 else 0) + 2 * (if s.line.state ≠ .running then 1 else 0)
        + 4 * (if 3 ≤ s.landing.length then 1 else 0) + 8 * (if s.gapPending then 1 else 0) + 16 * (if s.openLot = none then 1 else 0) := by
    simp only [flagBits, bne_iff_ne, decide_eq_true_eq, Option.isNone_iff_eq_none]
    ring
  simp only [spell_append, spell_words, ← latchImage_eq, State.captureImage, flags, be32, List.flatMap_map]
  simp only [spell, Capture.headFields, State.spreaderFields, List.flatMap_cons, List.flatMap_nil, List.append_assoc, List.append_nil]

theorem State.captureImage_length (s : State) (h : s.capture.channels.length = 6) : s.captureImage.length = 73 := by
  rw [s.captureImage_eq, spell_length]
  simp only [width_append, width_words, latchFields_width, List.length_map, h]
  rfl

theorem State.captureImage_holds (s : State) (h : s.capture.channels.length = 6) :
    Holds s.captureImage 0 s.capture.headFields ∧ Holds s.captureImage 5 (words (s.capture.channels.map (·.count))) ∧
    HasField s.captureImage 29 1 (flagBits (s.capture.channels.map (·.overflow))) ∧
    Holds s.captureImage 30 (words (s.capture.channels.map (·.trim))) ∧ Holds s.captureImage 54 (latchFields s.capture.latch) ∧
    Holds s.captureImage 67 s.spreaderFields := by
  have all := holds_spell (s.capture.headFields ++ words (s.capture.channels.map (·.count))
      ++ [(1, flagBits (s.capture.channels.map (·.overflow)))] ++ words (s.capture.channels.map (·.trim))
      ++ latchFields s.capture.latch ++ s.spreaderFields)
  rw [← State.captureImage_eq] at all
  obtain ⟨all, spreader⟩ := all.append
  obtain ⟨all, latch⟩ := all.append
  obtain ⟨all, trims⟩ := all.append
  obtain ⟨all, overflow⟩ := all.append
  obtain ⟨head, counts⟩ := all.append
  simp only [width_append, width_words, latchFields_width, List.length_map, h] at spreader latch trims overflow
  exact ⟨head, counts, overflow.1, trims, latch, spreader⟩

theorem flagBits_testBit (bs : List Bool) (i : Nat) : (flagBits bs).testBit i = bs.getD i false := by
  induction bs generalizing i with
  | nil => simp [flagBits]
  | cons b rest ih =>
    have bit : (if b = true then 1 else 0) < 2 := by cases b <;> decide
    cases i with
    | zero =>
      rw [Nat.testBit_zero, flagBits]
      cases b <;> simp
    | succ i =>
      rw [Nat.testBit_succ, flagBits, Nat.add_mul_div_left _ _ (by decide), Nat.div_eq_of_lt bit, Nat.zero_add, ih]
      rfl

/-- A flag of a one-byte field of flags. -/
theorem HasField.flag {p : List Byte} {at_ : Nat} {bs : List Bool} (h : HasField p at_ 1 (flagBits bs)) {i : Nat} {b : Bool}
    (hi : bs[i]? = some b) (h8 : i < 8) : (BitVec.ofNat 8 (fieldNat p at_ 1)).getLsbD i = b := by
  have field : fieldNat p at_ 1 = flagBits bs % 2 ^ 8 := h
  rw [field, BitVec.getLsbD_ofNat, Nat.testBit_mod_two_pow, flagBits_testBit, List.getD_eq_getElem?_getD, hi]
  simp [h8]

/-! ## The obligation -/


/-- Settles O29: the images are rows of fields, read at the sums of the widths before. -/
theorem zoneChainAndCaptureReplies : Obligations.ZoneChainAndCaptureReplies := by
  refine ⟨fun s zone hs => ⟨fun hu => ?_, fun hu hz => ?_,
    fun zn hu hz => ⟨fun hg => ?_, fun g hg => ⟨?_, ?_, ?_, ?_⟩, fun l hl => ?_, ?_⟩⟩,
    fun s hs => ⟨fun code hc => chainRead_refused hs hc, fun c => ?_, s.spreaderHold_iff, s.gapPending_iff,
      s.openLot_eq_none.trans s.openSlot_eq_none, fun lot => State.openLot_eq_some, fun h6 => ?_⟩⟩
  · refine zoneRead_refused (a := .refuse .notNow) hs ?_
    rw [State.zoneReadAnswer, if_pos hu]
  · refine zoneRead_refused (a := .badValue 0) hs ?_
    rw [State.zoneReadAnswer, if_neg hu, List.getElem?_eq_none hz]
  · rw [Zone.targets, hg]
  · rintro (h | h | h) <;> rw [Zone.targets, hg, h]
  · intro h
    rw [Zone.targets, hg, h]
  · intro h
    rw [Zone.targets, hg, h]
  · rintro (h | h | h) <;> rw [Zone.targets, hg, h]
  · rw [State.zoneRods, hl]
    rfl
  · refine zoneRead_reads hs hu hz ?_
    obtain ⟨⟨index, state, pending, profile, -⟩, targets, ⟨latch, blind, misses, -⟩, reading, outputs, rods, place, ramp, purge, economy,
      entered, -⟩ := s.zoneImage_holds zone.toNat zn
    obtain ⟨nothing, temperature, both⟩ := targets.targets
    obtain ⟨unread, read⟩ := reading.reading
    exact ⟨index, state, pending, profile, nothing, temperature, both, latch, blind, misses, unread, read, outputs, rods,
      fun hw => s.queuePlace_other _ hw ▸ place, fun hw n hn => s.queuePlace_waiting hw hn ▸ place, ramp, purge, economy, entered⟩
  · refine chainRead_reads hs c ?_
    obtain ⟨code, state, flags, length, rods, shifts, last, entered, -⟩ := s.chainImage_eq c ▸ holds_spell (s.chainFields c)
    exact ⟨code, state, flags, length, rods, shifts, last, entered⟩
  · refine reads_of_serve hs (op := captureReadOp) rfl rfl (s.captureImage_length h6) ?_
    obtain ⟨⟨state, hang, -⟩, counts, overflow, trims, latch, counter, landing, flags, -⟩ := s.captureImage_holds h6
    obtain ⟨free, latched⟩ := latch.latch
    refine ⟨state, fun hh => ?_, fun hh => ?_, fun c ch hc => ?_, free, latched, counter, landing, flags⟩
    · rw [if_pos hh] at hang
      exact hang
    · rw [if_neg hh] at hang
      exact hang
    · have channel : ∀ {α : Type} (f : Channel → α), (s.capture.channels.map f)[c]? = some (f ch) := fun f => by
        rw [List.getElem?_map, hc]
        rfl
      have six : c < 6 := h6 ▸ (List.getElem?_eq_some_iff.mp hc).1
      exact ⟨counts.word (channel _), trims.word (channel _), overflow.flag (channel _) (by omega)⟩

end Sys2Proof.Machine
end


section
/-! The arbiter's grants (R75, R78) and the wake of zone 0 at a write-out (R82). -/

namespace Sys2Proof.Machine

/-! ## One controller replaced -/

theorem modify_of_getElem? {α : Type} {xs : List α} {i : Nat} {a : α} (h : xs[i]? = some a) (f : α → α) :
    xs.modify i f = xs.set i (f a) := by
  rw [List.modify_eq_set_getElem?, h]
  rfl

theorem State.modZone_eq {s : State} {z : Nat} {a : Zone} (h : s.zones[z]? = some a) (f : Zone → Zone) :
    s.modZone z f = s.setZones (s.zones.set z (f a)) := by
  rw [State.modZone, modify_of_getElem? h]

theorem getElem?_set_same {α : Type} {xs : List α} {i : Nat} {a b : α} (h : xs[i]? = some a) : (xs.set i b)[i]? = some b := by
  obtain ⟨hlt, -⟩ := List.getElem?_eq_some_iff.mp h
  rw [List.getElem?_set_self hlt]

/-- The other controllers are as they were, and the replaced one is the new. -/
theorem EachZone.of_set {zones : List Zone} {z : Nat} {b : Zone} {holds : Nat → Zone → Zone → Prop}
    (one : ∀ a, zones[z]? = some a → holds z a b) (others : ∀ y a, y ≠ z → holds y a a) : EachZone zones (zones.set z b) holds := by
  refine ⟨List.length_set, fun y a b' ha hb => ?_⟩
  by_cases hy : y = z
  · subst hy
    rw [getElem?_set_same ha] at hb
    exact Option.some.inj hb ▸ one a ha
  · rw [List.getElem?_set_ne (Ne.symm hy), ha] at hb
    exact Option.some.inj hb ▸ others y a hy

theorem EachZone.trans {as bs cs : List Zone} {f g h : Nat → Zone → Zone → Prop} (hf : EachZone as bs f) (hg : EachZone bs cs g)
    (hh : ∀ z a b c, as[z]? = some a → f z a b → g z b c → h z a c) : EachZone as cs h := by
  obtain ⟨lenf, hf⟩ := hf
  obtain ⟨leng, hg⟩ := hg
  refine ⟨leng.trans lenf, fun z a c ha hc => ?_⟩
  have hz : z < bs.length := lenf ▸ (List.getElem?_eq_some_iff.mp ha).1
  have hb := List.getElem?_eq_getElem hz
  exact hh z a _ c ha (hf z a _ ha hb) (hg z _ c hb hc)

/-! ## The outputs of a granted zone (R68, R69) -/

theorem heatLevel_follows (target temp : Int) (was : Bool) : HeatFollows target temp was (heatLevel target temp was) := by
  unfold HeatFollows heatLevel
  refine ⟨fun h => if_pos h, fun h => ?_, fun h h' => ?_⟩
  · rw [if_neg (by omega), if_pos h]
  · rw [if_neg (by omega), if_neg (by omega)]

theorem ventLevel_follows (target hum : Nat) (was : Bool) : VentFollows target hum was (ventLevel (some target) hum was) := by
  have level : ventLevel (some target) hum was = if target + 5 ≤ hum then true else if hum ≤ target then false else was := rfl
  unfold VentFollows
  rw [level]
  refine ⟨fun h => if_pos h, fun h => ?_, fun h h' => ?_⟩
  · rw [if_neg (by omega), if_pos h]
  · rw [if_neg (by omega), if_neg (by omega)]

/-- The reading that a zone's outputs follow: its probe's last one, while the zone is not blind (R70). -/
def State.seenReading (s : State) (z : Nat) : Option Reading := if s.blind z then none else (s.probe z).reading

theorem State.seenReading_eq_some {s : State} {z : Nat} {r : Reading} :
    s.seenReading z = some r ↔ s.blind z = false ∧ (s.probe z).reading = some r := by
  unfold State.seenReading
  cases s.blind z <;> simp

/-- A zone after the evaluation of its outputs, unless it is blind (R68). -/
def State.evaluated (s : State) (z : Nat) (a : Zone) : Zone := (s.seenReading z).elim a a.evaluate

/-- The outputs of a RAMPING zone follow the working targets of its copy (R66, R68, R69). -/
theorem Zone.evaluate_ramping {a : Zone} {g : Governing} (h : a.state = .ramping) (hg : a.governing = some g) (r : Reading) :
    a.evaluate r = { a with
      heat := heatLevel g.entry.workTemp r.temp a.heat, vent := ventLevel (some g.entry.workHum) r.hum a.vent } := by
  have targets : a.targets = some (g.entry.workTemp, some g.entry.workHum) := by rw [Zone.targets, hg, h]
  rw [Zone.evaluate, h, targets]
  rfl

theorem Zone.evaluate_ungoverned {a : Zone} (hg : a.governing = none) (r : Reading) : a.evaluate r = a := by
  have targets : a.targets = none := by rw [Zone.targets, hg]
  rw [Zone.evaluate, targets]
  exact ite_self _

/-- A WAITING zone that a grant moves to RAMPING, with its outputs evaluated, is granted. -/
theorem State.granted_ramped {s : State} {l : Layout} {z : Nat} {a : Zone} (h : a.state = .waiting) :
    s.Granted l z a (s.evaluated z (a.ramped s.clock (minuteTicks l.rampLimit))) := by
  unfold State.evaluated
  cases hr : s.seenReading z with
  | none =>
    exact ⟨h, rfl, fun _ => ⟨rfl, rfl⟩, fun g x _ hb hx => nomatch hr.symm.trans (State.seenReading_eq_some.mpr ⟨hb, hx⟩)⟩
  | some x =>
    obtain ⟨seen, reading⟩ := State.seenReading_eq_some.mp hr
    rw [Option.elim_some]
    cases hg : a.governing with
    | none =>
      rw [Zone.evaluate_ungoverned (a := a.ramped s.clock (minuteTicks l.rampLimit)) hg]
      exact ⟨h, rfl, fun _ => ⟨rfl, rfl⟩, fun g y hg' => nomatch hg.symm.trans hg'⟩
    | some g =>
      rw [Zone.evaluate_ramping (a := a.ramped s.clock (minuteTicks l.rampLimit)) rfl hg]
      refine ⟨h, rfl, fun hb => ?_, fun g' y hg' _ hy => ?_⟩
      · rcases hb with hb | hb
        · exact nomatch seen.symm.trans hb
        · exact nomatch hg.symm.trans hb
      · cases hg.symm.trans hg'
        cases reading.symm.trans hy
        exact ⟨heatLevel_follows .., ventLevel_follows ..⟩

/-! ## One grant (R75, R78) -/

theorem State.regulate_eq {s : State} {z : Nat} {a : Zone} (h : s.zones[z]? = some a) :
    s.regulate z = s.setZones (s.zones.set z (s.evaluated z a)) := by
  have same : s.zones.set z a = s.zones := by
    obtain ⟨hlt, rfl⟩ := List.getElem?_eq_some_iff.mp h
    exact List.set_getElem_self hlt
  unfold State.regulate State.evaluated State.seenReading State.blind
  cases s.probeFresh z with
  | false => simp [same]
  | true => cases (s.probe z).reading with
    | none => simp [same]
    | some r => simp [State.modZone_eq h]

/-- The zone at the head of the queue is granted, and the queue, the spacing timer and the time of the grant move on. -/
theorem State.grant_eq {s : State} {l : Layout} {z : Nat} {a : Zone} (h : s.zones[z]? = some a) :
    s.grant l z = { s with
      zones := s.zones.set z (s.evaluated z (a.ramped s.clock (minuteTicks l.rampLimit)))
      arbiter := { queue := s.arbiter.queue.tail, granted := true, lastGrant := s.clock, spacing := l.spacingStart } } := by
  unfold State.grant
  dsimp only
  have hz : (s.setArbiter { queue := s.arbiter.queue.tail, granted := true, lastGrant := s.clock, spacing := l.spacingStart }).zones[z]? =
      some a := h
  rw [State.modZone_eq hz, State.regulate_eq (a := a.ramped s.clock (minuteTicks l.rampLimit)) (getElem?_set_same h)]
  simp only [State.setZones_zones, State.setArbiter_zones, List.set_set]
  rfl

theorem State.Granted.state {s : State} {l : Layout} {z : Nat} {a b : Zone} (h : s.Granted l z a b) : b.state = .ramping := by
  obtain ⟨-, hb, -⟩ := h
  rw [hb]

/-- A grant takes one slot. -/
theorem slotsInUse_set {zones : List Zone} {z : Nat} {a b : Zone} (h : zones[z]? = some a) (ha : a.state ≠ .ramping)
    (hb : b.state = .ramping) :
    (zones.set z b).countP (fun zn => zn.state == .ramping) = zones.countP (fun zn => zn.state == .ramping) + 1 := by
  obtain ⟨hlt, rfl⟩ := List.getElem?_eq_some_iff.mp h
  rw [List.countP_set hlt, if_neg (by simpa using ha), if_pos (by simpa using hb)]
  rfl

/-! ## The grants of one event (R75) -/

theorem State.canGrant_iff {s : State} {l : Layout} (hl : s.store.layout = some l) :
    s.canGrant = true ↔ s.arbiter.queue ≠ [] ∧ s.slotsInUse < l.rampSlots ∧ s.arbiter.spacing.getD 0 = 0 := by
  unfold State.canGrant
  rw [hl]
  simp [Arbiter.spacingRuns, and_assoc]

/-- Without a grant the loop leaves the state as it is. -/
theorem State.grantLoop_still {s : State} (h : s.canGrant = false) (fuel : Nat) : State.grantLoop fuel s = s := by
  cases fuel with
  | zero => rfl
  | succ fuel =>
    unfold State.grantLoop
    rw [h]

theorem State.grantLoop_grants {s : State} {l : Layout} {z : Nat} {rest : List Nat} (h : s.canGrant = true)
    (hl : s.store.layout = some l) (hq : s.arbiter.queue = z :: rest) (fuel : Nat) :
    State.grantLoop (fuel + 1) s = State.grantLoop fuel (s.grant l z) := by
  rw [State.grantLoop, h, hl, hq]
  rfl

theorem Arbiter.grants_zero {a : Arbiter} {l : Layout} {free n : Nat} (h : n = 0 ∨ free = 0 ∨ a.spacing.getD 0 ≠ 0) :
    a.grants l free n = 0 := by
  unfold Arbiter.grants
  split
  · rfl
  · split <;> omega

/-- The grants of an event from a queue whose head is granted: one, and those of the rest after it. -/
theorem Arbiter.grants_succ {a : Arbiter} {l : Layout} {free n : Nat} (hf : 0 < free) (hs : a.spacing.getD 0 = 0) (b : Arbiter)
    (hb : b.spacing = l.spacingStart) : a.grants l free (n + 1) = b.grants l (free - 1) n + 1 := by
  unfold Arbiter.grants
  rw [hs, hb, if_neg (Nat.lt_irrefl 0), Layout.spacingStart]
  by_cases h0 : l.rampSpacing = 0
  · simp only [h0, if_true, Option.getD_none, Nat.lt_irrefl, if_false]
    omega
  · have runs : 0 < secondTicks l.rampSpacing := Nat.mul_pos (Nat.pos_of_ne_zero h0) (by decide)
    simp only [h0, if_false, Option.getD_some, runs, if_true]
    omega

theorem Arbiter.granting_succ (a : Arbiter) (l : Layout) (now : Word32) (z : Nat) (rest : List Nat) (k : Nat) :
    Arbiter.granting { queue := rest, granted := true, lastGrant := now, spacing := l.spacingStart } l now rest k =
      a.granting l now (z :: rest) (k + 1) := by
  cases k <;> rfl

/-- The zone at the head of the queue after the grants of the event: no later grant takes it. -/
theorem State.AfterGrants.head {s t : State} {l : Layout} {z k : Nat} {rest : List Nat} {a b c : Zone} (fresh : z ∉ rest)
    (granted : s.Granted l z a b) (h : t.AfterGrants l rest k z b c) : s.AfterGrants l (z :: rest) (k + 1) z a c := by
  obtain ⟨stays, -⟩ := h
  rw [stays fun hm => fresh (List.mem_of_mem_take hm)]
  exact ⟨fun hn => absurd (List.mem_cons_self ..) hn, fun _ => granted⟩

/-- Another zone after the grants of the event: those of the rest of the queue. -/
theorem State.AfterGrants.other {s : State} {l : Layout} {y z k : Nat} {rest : List Nat} {a c : Zone} {zones : List Zone}
    {arbiter : Arbiter} (hy : y ≠ z) (h : ({ s with zones := zones, arbiter := arbiter } : State).AfterGrants l rest k y a c) :
    s.AfterGrants l (z :: rest) (k + 1) y a c := by
  obtain ⟨stays, moves⟩ := h
  rw [State.AfterGrants, List.take_succ_cons, List.mem_cons, or_iff_right hy]
  exact ⟨stays, moves⟩

/-- The zones of the queue stand in WAITING, each once. -/
def State.QueueWaits (s : State) : Prop :=
  s.arbiter.queue.Nodup ∧ ∀ z ∈ s.arbiter.queue, ∃ a, s.zones[z]? = some a ∧ a.state = .waiting

/-- The grants of one event: `k` heads of the queue, each granted, and the arbiter moved on (R75). -/
theorem State.grantLoop_spec {l : Layout} {fuel : Nat} {s : State} (hl : s.store.layout = some l) (hq : s.QueueWaits)
    (hfuel : s.arbiter.queue.length ≤ fuel) {k : Nat}
    (hk : k = s.arbiter.grants l (l.rampSlots - s.slotsInUse) s.arbiter.queue.length) :
    ∃ zs, State.grantLoop fuel s = { s with zones := zs, arbiter := s.arbiter.granting l s.clock s.arbiter.queue k } ∧
      EachZone s.zones zs fun z a b => s.AfterGrants l s.arbiter.queue k z a b := by
  induction fuel generalizing s k with
  | zero =>
    have empty : s.arbiter.queue.length = 0 := Nat.le_zero.mp hfuel
    rw [Arbiter.grants_zero (.inl empty)] at hk
    subst hk
    refine ⟨s.zones, rfl, rfl, fun z a b ha hb => ?_⟩
    cases ha.symm.trans hb
    exact ⟨fun _ => rfl, fun h => absurd h (by simp)⟩
  | succ fuel ih =>
    cases hc : s.canGrant with
    | false =>
      have none : k = 0 := by
        rw [hk]
        refine Arbiter.grants_zero ?_
        have cannot := mt (State.canGrant_iff hl).mpr (by simp [hc])
        rw [ne_eq, ← List.length_eq_zero_iff] at cannot
        omega
      subst none
      refine ⟨s.zones, State.grantLoop_still hc _, rfl, fun z a b ha hb => ?_⟩
      cases ha.symm.trans hb
      exact ⟨fun _ => rfl, fun h => absurd h (by simp)⟩
    | true =>
      obtain ⟨nonempty, free, spacing⟩ := (State.canGrant_iff hl).mp hc
      obtain ⟨z, rest, hqueue⟩ := List.exists_cons_of_ne_nil nonempty
      obtain ⟨nodup, waits⟩ := hq
      rw [hqueue, List.nodup_cons] at nodup
      obtain ⟨fresh, nodup⟩ := nodup
      obtain ⟨a, ha, hwait⟩ := waits z (by rw [hqueue]; exact List.mem_cons_self ..)
      have hg := State.grant_eq (l := l) ha
      have granted : s.Granted l z a _ := State.granted_ramped hwait
      generalize s.evaluated z (a.ramped s.clock (minuteTicks l.rampLimit)) = b at hg granted
      have others : ∀ y ∈ rest, (s.zones.set z b)[y]? = s.zones[y]? := fun y hy =>
        List.getElem?_set_ne fun (h : z = y) => fresh (h ▸ hy)
      have slots : (s.grant l z).slotsInUse = s.slotsInUse + 1 := by
        rw [hg]
        exact slotsInUse_set ha (by rw [hwait]; exact ZoneState.noConfusion) granted.state
      have queue : (s.grant l z).arbiter.queue = rest := by
        rw [hg]
        exact congrArg List.tail hqueue
      have next : (s.grant l z).QueueWaits := by
        refine ⟨by rw [queue]; exact nodup, fun y hy => ?_⟩
        rw [queue] at hy
        obtain ⟨c, hc⟩ := waits y (by rw [hqueue]; exact List.mem_cons_of_mem _ hy)
        rw [hg]
        exact ⟨c, (others y hy).trans hc.1, hc.2⟩
      obtain ⟨k', hk', count⟩ : ∃ k', k' = (s.grant l z).arbiter.grants l (l.rampSlots - (s.grant l z).slotsInUse)
          (s.grant l z).arbiter.queue.length ∧ k = k' + 1 := by
        refine ⟨_, rfl, ?_⟩
        rw [hk, hqueue, List.length_cons, Arbiter.grants_succ (by omega) spacing (s.grant l z).arbiter (by rw [hg]), slots, queue,
          Nat.sub_add_eq]
      obtain ⟨zs, loop, zones⟩ := ih (s := s.grant l z) (by rw [hg]; exact hl) next
        (by rw [queue]; rw [hqueue, List.length_cons] at hfuel; omega) hk'
      rw [queue] at loop zones
      subst count
      refine ⟨zs, ?_, ?_⟩
      · rw [State.grantLoop_grants hc hl hqueue, loop, hg, hqueue, List.tail_cons]
        exact congrArg (fun a => { s with zones := zs, arbiter := a }) (s.arbiter.granting_succ l s.clock z rest _)
      · rw [hqueue]
        rw [hg] at zones
        have head : EachZone s.zones (s.zones.set z b) fun y x x' => (y = z → s.Granted l z x x') ∧ (y ≠ z → x' = x) := by
          refine EachZone.of_set (fun x hx => ⟨fun _ => ?_, fun h => absurd rfl h⟩) fun y x hy => ⟨fun h => absurd h hy, fun _ => rfl⟩
          cases ha.symm.trans hx
          exact granted
        refine head.trans zones fun y x x' x'' _ hx hx' => ?_
        obtain ⟨one, other⟩ := hx
        by_cases hy : y = z
        · subst hy
          exact State.AfterGrants.head fresh (one rfl) hx'
        · cases other hy
          exact State.AfterGrants.other hy hx'

/-! ## The wake of a zone (R82) -/

theorem State.wakeZone_asleep {s : State} {z : Nat} (h : s.zoneState z ≠ some .economy) : s.wakeZone z = s := by
  unfold State.wakeZone
  cases hz : s.zones[z]? with
  | none => rfl
  | some a => exact if_neg fun hw => h (by rw [State.zoneState, hz, Option.map_some, hw.1])

theorem State.runOutZone_still {s : State} {z : Nat} (h : s.line.state ≠ .runOut ∨ s.runOutCondition z = false) :
    s.runOutZone z = s := by
  unfold State.runOutZone
  cases hz : s.zones[z]? with
  | none => rfl
  | some a =>
    refine if_neg fun ⟨hr, _, hc⟩ => ?_
    rcases h with h | h
    · exact h hr
    · exact nomatch h.symm.trans hc

theorem State.zoneState_eq_some {s : State} {z : Nat} {st : ZoneState} (h : s.zoneState z = some st) :
    ∃ a, s.zones[z]? = some a ∧ a.state = st := Option.map_eq_some_iff.mp h

/-- The state after a zone has joined the ramp queue, before any grant (R74). -/
def State.joined (s : State) (z : Nat) (a : Zone) : State :=
  { s with
    zones := s.zones.set z (a.enterCold s.clock .waiting)
    arbiter := { s.arbiter with queue := s.arbiter.queue ++ [z] } }

theorem State.joined_queueWaits {s : State} (h : ArbiterLaw s) {z : Nat} {a : Zone} (hz : s.zones[z]? = some a)
    (ha : a.state = .economy) : (s.joined z a).QueueWaits := by
  obtain ⟨nodup, waits, -⟩ := h
  have waiting : ∀ y ∈ s.arbiter.queue, ∃ b, s.zones[y]? = some b ∧ b.state = .waiting := fun y hy =>
    State.zoneState_eq_some ((waits y).mp hy)
  have fresh : z ∉ s.arbiter.queue := fun hm => by
    obtain ⟨b, hb, hw⟩ := waiting z hm
    cases hz.symm.trans hb
    exact nomatch ha.symm.trans hw
  refine ⟨List.nodup_append.mpr ⟨nodup, List.nodup_singleton z, fun x hx y hy => ?_⟩, fun y hy => ?_⟩
  · rw [List.mem_singleton.mp hy]
    exact fun he => fresh (he ▸ hx)
  · rcases List.mem_append.mp hy with hy | hy
    · obtain ⟨b, hb, hw⟩ := waiting y hy
      exact ⟨b, (List.getElem?_set_ne fun (he : z = y) => fresh (he ▸ hy)).trans hb, hw⟩
    · rw [List.mem_singleton.mp hy]
      exact ⟨_, getElem?_set_same hz, rfl⟩

theorem State.joined_slotsInUse {s : State} {z : Nat} {a : Zone} (hz : s.zones[z]? = some a) (ha : a.state = .economy) :
    (s.joined z a).slotsInUse = s.slotsInUse := by
  obtain ⟨hlt, rfl⟩ := List.getElem?_eq_some_iff.mp hz
  show (s.zones.set z _).countP _ = _
  rw [List.countP_set hlt, ha]
  rfl

/-- What the wake of a zone does to a controller: the woken zone is WAITING or granted at once, another one may be granted (R75, R82). -/
def State.Woken (s : State) (l : Layout) (z y : Nat) (a b : Zone) : Prop :=
  b.governing = a.governing ∧ b.latch = a.latch ∧ (y = z → b.queued s.clock) ∧ (y ≠ z → b = a ∨ s.Granted l y a b)

theorem State.Granted.kept {s : State} {l : Layout} {z : Nat} {a b : Zone} (h : s.Granted l z a b) :
    b.governing = a.governing ∧ b.latch = a.latch ∧ b.queued s.clock := by
  obtain ⟨-, hb, -⟩ := h
  rw [hb]
  exact ⟨rfl, rfl, rfl, .inr ⟨rfl, rfl⟩⟩

/-- A zone in ECONOMY that wakes joins the ramp queue, and the grants of the event follow (R74, R75, R82). -/
theorem State.wakeZone_awake {s : State} {l : Layout} {z : Nat} (hl : s.store.layout = some l) (law : ArbiterLaw s)
    (he : s.zoneState z = some .economy) (hw : s.wakeCondition z = true)
    (hr : s.line.state ≠ .runOut ∨ s.runOutCondition z = false) :
    ∃ zs, s.wakeZone z = { s with
        zones := zs
        arbiter := s.arbiter.granting l s.clock (s.arbiter.queue ++ [z])
          (s.arbiter.grants l (l.rampSlots - s.slotsInUse) (s.arbiter.queue.length + 1)) } ∧
      EachZone s.zones zs (s.Woken l z) := by
  obtain ⟨a, hz, ha⟩ := State.zoneState_eq_some he
  obtain ⟨zs, loop, zones⟩ := State.grantLoop_spec (s := s.joined z a) hl (State.joined_queueWaits law hz ha) (Nat.le_refl _)
    (k := s.arbiter.grants l (l.rampSlots - s.slotsInUse) (s.arbiter.queue.length + 1)) (by
      rw [State.joined_slotsInUse hz ha, show (s.joined z a).arbiter.queue = s.arbiter.queue ++ [z] from rfl, List.length_append]
      rfl)
  refine ⟨zs, ?_, ?_⟩
  · have joins : (s.modZone z (Zone.enterCold s.clock .waiting)).joinQueue z = s.joined z a := by
      rw [State.modZone_eq hz]
      rfl
    have wakes : s.wakeZone z = s.waitZone z := by
      rw [State.wakeZone, hz]
      exact if_pos ⟨ha, hw⟩
    rw [wakes, State.waitZone, joins, State.grantTest, loop]
    exact State.runOutZone_still hr
  · have joined : EachZone s.zones (s.zones.set z (a.enterCold s.clock .waiting)) fun y x x' =>
        (y = z → x' = x.enterCold s.clock .waiting) ∧ (y ≠ z → x' = x) := by
      refine EachZone.of_set (fun x hx => ⟨fun _ => ?_, fun hy => absurd rfl hy⟩) fun y x hy => ⟨fun h => absurd h hy, fun _ => rfl⟩
      cases hz.symm.trans hx
      rfl
    refine joined.trans zones fun y x x' x'' _ hx hx' => ?_
    obtain ⟨one, other⟩ := hx
    obtain ⟨stays, moves⟩ := hx'
    by_cases hm : y ∈ (s.joined z a).arbiter.queue.take
        (s.arbiter.grants l (l.rampSlots - s.slotsInUse) (s.arbiter.queue.length + 1))
    · have granted : s.Granted l y x' x'' := moves hm
      obtain ⟨governing, latch, queued⟩ := granted.kept
      by_cases hy : y = z
      · rw [one hy] at governing latch
        exact ⟨governing, latch, fun _ => queued, fun h => absurd hy h⟩
      · cases other hy
        exact ⟨governing, latch, fun h => absurd h hy, fun _ => .inr granted⟩
    · rw [stays hm]
      by_cases hy : y = z
      · rw [one hy]
        exact ⟨rfl, rfl, fun _ => ⟨rfl, .inl ⟨rfl, rfl, rfl⟩⟩, fun h => absurd hy h⟩
      · rw [other hy]
        exact ⟨rfl, rfl, fun h => absurd h hy, fun _ => .inl rfl⟩

/-- A rod on the landing queue wakes zone 0, and is upstream of it (R82, R86). -/
theorem State.wakeCondition_landing {s : State} {l : Layout} (hl : s.store.layout = some l) (h : s.landing ≠ []) :
    s.wakeCondition 0 = true := by
  rw [State.wakeCondition, hl]
  simp [h]

theorem State.runOutCondition_landing {s : State} (h : s.landing ≠ []) (z : Nat) : s.runOutCondition z = false := by
  unfold State.runOutCondition
  cases s.store.layout with
  | none => rfl
  | some l => simp [State.upstreamEmpty, h]

end Sys2Proof.Machine
end


section
/-! HANG and CUT edges (R25 to R40) as equations. -/

namespace Sys2Proof.Machine

/-! ## The lot table -/

theorem State.getElem?_of_lot {s : State} {i : Nat} {l : Lot} (h : s.lot i = some l) : s.lots[i]? = some (some l) := by
  rw [State.lot, List.getD_eq_getElem?_getD] at h
  cases hi : s.lots[i]? with
  | none => simp [hi] at h
  | some o =>
    rw [hi, Option.getD_some] at h
    rw [h]

theorem State.modLot_eq {s : State} {i : Nat} {l : Lot} (h : s.lot i = some l) (f : Lot → Lot) :
    s.modLot i f = s.setLots (s.lots.set i (some (f l))) := by
  rw [State.modLot, modify_of_getElem? (State.getElem?_of_lot h)]
  rfl

theorem State.lot_set_same {s t : State} {i : Nat} {l l' : Lot} (h : s.lot i = some l) (ht : t.lots = s.lots.set i (some l')) :
    t.lot i = some l' := by
  rw [State.lot, ht, List.getD_eq_getElem?_getD, getElem?_set_same (State.getElem?_of_lot h)]
  rfl

/-- A lot that is changed but for its state leaves the OPEN slot where it is. -/
theorem State.openSlot_set {s t : State} {i : Nat} {l l' : Lot} (ho : s.openSlot = some i) (hl : s.lot i = some l)
    (hs : l'.state = l.state) (ht : t.lots = s.lots.set i (some l')) : t.openSlot = some i := by
  obtain ⟨hlt, found, before⟩ := List.findIdx?_eq_some_iff_getElem.mp ho
  have here : s.lots[i] = some l := by
    have := State.getElem?_of_lot hl
    rw [List.getElem?_eq_getElem hlt] at this
    exact Option.some.inj this
  unfold State.openSlot
  rw [ht, List.findIdx?_eq_some_iff_getElem]
  refine ⟨by rwa [List.length_set], ?_, fun j hj => ?_⟩
  · rw [List.getElem_set_self]
    rw [here] at found
    exact (congrArg (· == LotState.opened) hs).trans found
  · rw [List.getElem_set_ne (Nat.ne_of_gt hj)]
    exact before j hj

/-! ## Notices and reports -/

/-- A report queue with one more report (R184). -/
def ReportQueue.joined (q : ReportQueue) (body : ReportBody) : ReportQueue :=
  { reports := q.reports ++ [{ sequence := q.nextSequence, body := body }], nextSequence := q.nextSequence + 1 }

/-- A report that stays below the high mark joins the queue and raises nothing (R184, R185). -/
theorem State.offerReport_joins {s : State} (h : s.reports.reports.length < 191) (body : ReportBody) (slot : Option Nat) (id : Word32) :
    s.offerReport body slot id = s.setReports (s.reports.joined body) := by
  have mark : ¬ (s.reports.joined body).reports.length = reportHighMark := by
    rw [ReportQueue.joined, List.length_append]
    exact Nat.ne_of_lt (Nat.add_lt_add_right h 1)
  rw [State.offerReport, if_pos (Nat.lt_trans h (by decide)), State.joinReport]
  exact if_neg mark

/-! ## The channels (R25, R26, R32) -/

/-- A channel without pulses. -/
def Channel.emptied : Channel := { divider := 0, count := 0, overflow := false, trim := 0 }

theorem mapIdx_const {α β : Type} (f : α → β) (xs : List α) : xs.mapIdx (fun _ x => f x) = xs.map f := by
  refine List.ext_getElem? fun i => ?_
  rw [List.getElem?_mapIdx, List.getElem?_map]

theorem State.clearChannels_eq (s : State) :
    s.clearChannels = s.setCapture { s.capture with channels := s.capture.channels.map Channel.clear } := by
  rw [State.clearChannels, State.mapChannels, mapIdx_const]

theorem State.passTrim_closed {s : State} (h : s.openSlot = none) : s.passTrim = s := by
  unfold State.passTrim
  rw [h]

/-- A lot with the trim counters passed to it (R32). -/
def Lot.trimmed (l : Lot) (trim : Nat) : Lot := { l with trimTotal := min (l.trimTotal + trim) 4294967295 }

theorem State.passTrim_open {s : State} {slot : Nat} {lot : Lot} (h : s.openSlot = some slot) (hl : s.lot slot = some lot) :
    s.passTrim = { s with
      lots := s.lots.set slot (some (lot.trimmed s.capture.trimSum))
      capture := { s.capture with channels := s.capture.channels.map fun ch => { ch with trim := 0 } } } := by
  unfold State.passTrim
  rw [h]
  dsimp only
  rw [State.modLot_eq hl, State.mapChannels, mapIdx_const]
  rfl

theorem trimSum_clear (c : Capture) : Capture.trimSum { c with channels := c.channels.map Channel.clear } = c.trimSum := by
  show ((c.channels.map Channel.clear).map _).sum = _
  rw [List.map_map]
  rfl

theorem map_clear_clear (channels : List Channel) : (channels.map Channel.clear).map Channel.clear = channels.map Channel.clear := by
  rw [List.map_map]
  rfl

theorem map_clear_trim (channels : List Channel) :
    (channels.map Channel.clear).map (fun ch => { ch with trim := 0 }) = channels.map fun _ => Channel.emptied := by
  rw [List.map_map]
  rfl

/-! ## A rod begins (R25) -/

theorem State.beginRod_closed {s : State} (h : s.openSlot = none) : s.beginRod = { s with
    capture := { s.capture with state := .hanging, hangTime := s.clock, channels := s.capture.channels.map Channel.clear } } := by
  unfold State.beginRod
  rw [s.clearChannels_eq]
  dsimp only
  rw [State.passTrim_closed (s := s.setCapture { s.capture with channels := s.capture.channels.map Channel.clear }) h]
  rfl

theorem State.beginRod_open {s : State} {slot : Nat} {lot : Lot} (h : s.openSlot = some slot) (hl : s.lot slot = some lot) :
    s.beginRod = { s with
      lots := s.lots.set slot (some (lot.trimmed s.capture.trimSum))
      capture := { s.capture with
        state := .hanging, hangTime := s.clock, channels := s.capture.channels.map fun _ => Channel.emptied } } := by
  unfold State.beginRod
  rw [s.clearChannels_eq]
  dsimp only
  rw [State.passTrim_open (s := s.setCapture { s.capture with channels := s.capture.channels.map Channel.clear }) h hl]
  simp only [State.setCapture_capture, trimSum_clear, map_clear_trim]
  rfl

/-! ## An edge in HANGING ends the rod, and a HANG edge begins the next -/

/-- What follows the end of the rod on the spreader: after a HANG edge the next rod, after a CUT edge none (R26, R27). -/
def State.finishEdge (s : State) (hang : Bool) : State := if hang then s.beginRod else s.setCapture { s.capture with state := .idle }

/-- The capture unit after an edge in HANGING. -/
def Capture.ended (c : Capture) (now : Word32) (hang opened : Bool) : Capture :=
  if hang then { c with
    state := .hanging, hangTime := now
    channels := if opened then c.channels.map fun _ => Channel.emptied else c.channels.map Channel.clear }
  else { c with state := .idle, channels := c.channels.map Channel.clear }

theorem edge_eq {s : State} (h : s.capture.state = .hanging) (hang : Bool) :
    (if hang then exec .hang s else exec .cut s) = .next ((s.endRod hang).finishEdge hang).settle := by
  cases hang with
  | false =>
    show Host.Outcome.next s.cutEdge.settle = _
    rw [State.cutEdge, h]
    rfl
  | true =>
    show Host.Outcome.next s.hangEdge.settle = _
    rw [State.hangEdge, h]
    rfl

theorem State.finishEdge_closed {s : State} (h : s.openSlot = none) (hang : Bool) :
    s.clearChannels.finishEdge hang = { s with capture := s.capture.ended s.clock hang false } := by
  rw [s.clearChannels_eq]
  cases hang with
  | false => rfl
  | true =>
    show State.beginRod _ = _
    rw [State.beginRod_closed (s := s.setCapture { s.capture with channels := s.capture.channels.map Channel.clear }) h]
    simp only [State.setCapture_capture, map_clear_clear]
    rfl

theorem State.finishEdge_open {s : State} {slot : Nat} {lot : Lot} (h : s.openSlot = some slot) (hl : s.lot slot = some lot) (hang : Bool) :
    s.clearChannels.finishEdge hang = { s with
      lots := s.lots.set slot (some (if hang then lot.trimmed s.capture.trimSum else lot))
      capture := s.capture.ended s.clock hang true } := by
  rw [s.clearChannels_eq]
  cases hang with
  | false =>
    obtain ⟨hlt, here⟩ := List.getElem?_eq_some_iff.mp (State.getElem?_of_lot hl)
    have same : s.lots.set slot (some lot) = s.lots := here ▸ List.set_getElem_self hlt
    simp only [Bool.false_eq_true, if_false, same]
    rfl
  | true =>
    show State.beginRod _ = _
    rw [State.beginRod_open (s := s.setCapture { s.capture with channels := s.capture.channels.map Channel.clear }) h hl]
    simp only [State.setCapture_capture, trimSum_clear, List.map_map]
    rfl

/-! ## The end of a rod (R26, R27, R33) -/

/-- The notices after the test of the overflow flags (R30). -/
def State.counted (s : State) : NoticeUnit :=
  if s.capture.channels.any (·.overflow) then s.notices.occurred .counterOverflow s.clock s.capture.rodCounter else s.notices

/-- The state in which the ended rod is written out or scrapped: the counter moved on, `l` in the latch. -/
def State.ending (s : State) (l : Option Latch) : State :=
  { s with capture := { s.capture with rodCounter := nextNumber s.capture.rodCounter, latch := l }, notices := s.counted }

/-- The ended rod (R33). -/
def State.spreaderRod (s : State) (noCut : Bool) : Latch :=
  { number := s.capture.rodCounter, hangTime := s.capture.hangTime, cutTime := s.clock
    counts := s.capture.channels.map (·.count), overflow := s.capture.channels.map (·.overflow), noCut := noCut }

theorem any_map_id {α : Type} (f : α → Bool) (xs : List α) : (xs.map f).any id = xs.any f := by
  rw [List.any_map]
  rfl

theorem State.numbered_eq {s : State} (hn : s.numberHeld s.capture.rodCounter = false) : s.numbered = s.ending s.capture.latch := by
  have given : s.numberGiven = s.capture.rodCounter := freeNumber_of_free hn
  rw [State.numbered, given, any_map_id]
  unfold State.ending State.counted
  split <;> rfl

theorem State.endRod_free_eq {s : State} (hn : s.numberHeld s.capture.rodCounter = false) (h : s.capture.latch = none) (noCut : Bool) :
    s.endRod noCut = (s.ending (some (s.spreaderRod noCut))).writeOutAttempt.clearChannels := by
  have given : s.numberGiven = s.capture.rodCounter := freeNumber_of_free hn
  rw [s.endRod_free noCut h, State.numbered_eq hn, State.endedLatch, given]
  rfl

theorem State.endRod_occupied_eq {s : State} (hn : s.numberHeld s.capture.rodCounter = false) {old : Latch}
    (h : s.capture.latch = some old) (noCut : Bool) :
    s.endRod noCut = ((s.ending s.capture.latch).scrapOverrun s.capture.rodCounter s.clock).clearChannels := by
  have given : s.numberGiven = s.capture.rodCounter := freeNumber_of_free hn
  rw [s.endRod_occupied noCut h, State.numbered_eq hn, given]

/-! ## Scraps (R38, R39) -/

theorem State.scrapOverrun_closed {s : State} (h : s.openSlot = none) (room : s.reports.reports.length < 191) (number cut : Word32) :
    s.scrapOverrun number cut = { s with
      reports := s.reports.joined (.rodScrap number 0 .overrun cut)
      notices := s.notices.occurred .rodScrapped s.clock number } := by
  unfold State.scrapOverrun
  rw [h]
  dsimp only
  rw [State.offerReport_joins room]
  rfl

theorem State.scrapOverrun_open {s : State} {slot : Nat} {lot : Lot} (h : s.openSlot = some slot) (hl : s.lot slot = some lot)
    (room : s.reports.reports.length < 191) (number cut : Word32) :
    s.scrapOverrun number cut = { s with
      lots := s.lots.set slot (some (lot.countScrap number))
      reports := s.reports.joined (.rodScrap number lot.id .overrun cut)
      notices := s.notices.occurred .rodScrapped s.clock number } := by
  unfold State.scrapOverrun
  rw [h]
  dsimp only
  rw [State.offerReport_joins room, State.lotIdOf_eq hl,
    State.modLot_eq (s := s.setReports (s.reports.joined (.rodScrap number lot.id .overrun cut))) hl]
  rfl

theorem State.scrapNoLot_eq {s : State} (room : s.reports.reports.length < 191) (l : Latch) : s.scrapNoLot l = { s with
    capture := { s.capture with latch := none }
    reports := s.reports.joined (.rodScrap l.number 0 .noLot l.cutTime)
    notices := s.notices.occurred .rodScrapped s.clock l.number } := by
  unfold State.scrapNoLot
  rw [State.offerReport_joins room]
  rfl

/-! ## The write-out attempt (R34, R35) -/

theorem State.writeOutAttempt_closed {s : State} {l : Latch} (hc : s.capture.latch = some l) (h : s.openSlot = none) :
    s.writeOutAttempt = s.scrapNoLot l := by
  unfold State.writeOutAttempt
  rw [hc, h]

theorem State.writeOutAttempt_full {s : State} {l : Latch} {slot : Nat} (hc : s.capture.latch = some l) (h : s.openSlot = some slot)
    (full : s.landing.length = 4) : s.writeOutAttempt = s := by
  unfold State.writeOutAttempt
  rw [hc, h]
  exact if_neg (full ▸ Nat.lt_irrefl 4)

theorem State.writeOutAttempt_room {s : State} {l : Latch} {slot : Nat} {lot : Lot} {p : Profile} (hc : s.capture.latch = some l)
    (h : s.openSlot = some slot) (hl : s.lot slot = some lot) (hp : s.profile lot.profile = some p) (room : s.landing.length < 4) :
    s.writeOutAttempt = s.writeOut l slot p := by
  unfold State.writeOutAttempt
  rw [hc, h]
  dsimp only
  rw [if_pos (show s.landing.length < landingCapacity from room), hl, Option.bind_some, hp]

/-- The state after a write-out, before zone 0 tests its wake condition (R35, R40). -/
def State.written (s : State) (r : Rod) (slot : Nat) (lot : Lot) : State :=
  { s with
    rods := s.rods ++ [r]
    landing := s.landing ++ [r.number]
    lots := s.lots.set slot (some (lot.countBirth r.number))
    capture := { s.capture with latch := none }
    notices := if s.landing.length = 3 then s.notices.occurred .landingFull s.clock 0 else s.notices }

theorem State.writeOut_eq {s : State} {slot : Nat} {lot : Lot} (hl : s.lot slot = some lot) (l : Latch) (p : Profile) :
    s.writeOut l slot p = (s.written (l.record s.massFactors slot p s.landing.length) slot lot).wakeZone 0 := by
  have landed : s.writeOut l slot p = ((s.landed (l.record s.massFactors slot p s.landing.length)).modLot slot
      fun lot => lot.countBirth l.number).landingNotice.wakeZone 0 := rfl
  rw [landed, State.modLot_eq (s := s.landed (l.record s.massFactors slot p s.landing.length)) hl]
  refine congrArg (State.wakeZone · 0) ?_
  have full : (s.landing ++ [l.number]).length = landingCapacity ↔ s.landing.length = 3 := by
    rw [List.length_append]
    exact Nat.add_left_inj (n := 1) (m := s.landing.length) (k := 3)
  unfold State.landingNotice State.written
  split
  · rename_i h
    rw [if_pos (full.mp h)]
    rfl
  · rename_i h
    rw [if_neg (mt full.mpr h)]
    rfl

/-- A line with a rod on its landing queue has no run-out to complete (R147). -/
theorem State.settle_landing {s : State} (h : s.landing ≠ []) : s.settle = s := by
  refine if_neg fun hd => ?_
  have := hd.2
  simp [State.runOutDone, State.trainEmpty, State.emptyUpTo, h] at this

end Sys2Proof.Machine
end


section
/-! The edges of a rod: what a HANG or a CUT edge leaves (R25 to R40). -/

namespace Sys2Proof.Machine

/-! ## The ended rod's record (R1, R2, R36) -/

theorem chargeGrams_eq (counts factors : List Nat) :
    chargeGrams counts factors = min (((counts.zipWith (· * ·) factors).sum + 500) / 1000) 65535 := by
  rw [chargeGrams, List.zip, List.map_zipWith]

/-- The record of the rod on the spreader as the edge's line clock writes it (R1, R2, R35, R36). -/
theorem State.record_eq (s : State) (noCut : Bool) (factors : List Nat) (slot : Nat) (p : Profile) (index : Nat) :
    (s.spreaderRod noCut).record factors slot p index = {
      number := s.capture.rodCounter, lotSlot := slot, hangTime := s.capture.hangTime, cutTime := s.clock
      counts := s.capture.channels.map (·.count)
      charge := if s.capture.channels.any (·.overflow) = true ∨ noCut = true then none else some
        (min ((((s.capture.channels.map (·.count)).zipWith (· * ·) factors).sum + 500) / 1000) 65535)
      moisture := p.initialMoisture, stress := 0, heat := 0, lastAccounted := s.clock
      marks := { Marks.empty with
        overflow := s.capture.channels.any (·.overflow), noCut := noCut
        shortCurtain := s.capture.channels.any fun ch => decide (ch.count < p.minCurtain) }
      location := .landing index } := by
  have overflowed : (s.spreaderRod noCut).overflowed = s.capture.channels.any (·.overflow) := any_map_id _ _
  have short : ((s.spreaderRod noCut).counts.any fun c => decide (c < p.minCurtain)) =
      s.capture.channels.any fun ch => decide (ch.count < p.minCurtain) := List.any_map
  rw [Latch.record, overflowed, short, chargeGrams_eq]
  simp only [Bool.or_eq_true]
  rfl

/-! ## The edges in HANGING -/

/-- The edge's outcome from the state `t` in which the ended rod has been written out or scrapped, with a lot OPEN. -/
theorem edge_of_open {s t : State} {hang : Bool} {slot : Nat} {lot : Lot} (hs : s.capture.state = .hanging)
    (he : s.endRod hang = t.clearChannels) (ho : t.openSlot = some slot) (hl : t.lot slot = some lot) :
    (if hang then exec .hang s else exec .cut s) = .next ({ t with
      lots := t.lots.set slot (some (if hang then lot.trimmed t.capture.trimSum else lot))
      capture := t.capture.ended t.clock hang true } : State).settle := by
  rw [edge_eq hs, he, State.finishEdge_open ho hl]

theorem edge_of_closed {s t : State} {hang : Bool} (hs : s.capture.state = .hanging) (he : s.endRod hang = t.clearChannels)
    (ho : t.openSlot = none) :
    (if hang then exec .hang s else exec .cut s) = .next ({ t with capture := t.capture.ended t.clock hang false } : State).settle := by
  rw [edge_eq hs, he, State.finishEdge_closed ho]

section
variable {s : State} (hs : s.capture.state = .hanging) (hn : s.numberHeld s.capture.rodCounter = false)
include hs hn

/-- The latch keeps a rod that the landing queue has no room for (R34). -/
theorem edge_latches {slot : Nat} {lot : Lot} (hf : s.capture.latch = none) (ho : s.openSlot = some slot) (hl : s.lot slot = some lot)
    (full : s.landing.length = 4) (hang : Bool) :
    (if hang then exec .hang s else exec .cut s) = .next ({ s with
      lots := s.lots.set slot (some (if hang then lot.trimmed s.capture.trimSum else lot))
      capture := (s.ending (some (s.spreaderRod hang))).capture.ended s.clock hang true
      notices := s.counted } : State).settled := by
  have ends := State.endRod_free_eq hn hf hang
  rw [State.writeOutAttempt_full (s := s.ending (some (s.spreaderRod hang))) rfl ho full] at ends
  rw [edge_of_open hs ends ho hl, State.settle_eq]
  rfl

/-- A rod that ends with the latch occupied is scrapped OVERRUN into the OPEN lot's counts (R38). -/
theorem edge_overruns {slot : Nat} {lot : Lot} {old : Latch} (hf : s.capture.latch = some old) (ho : s.openSlot = some slot)
    (hl : s.lot slot = some lot) (room : s.reports.reports.length < 191) (hang : Bool) :
    (if hang then exec .hang s else exec .cut s) = .next ({ s with
      capture := (s.ending s.capture.latch).capture.ended s.clock hang true
      lots := s.lots.set slot (some (if hang then (lot.countScrap s.capture.rodCounter).trimmed s.capture.trimSum
        else lot.countScrap s.capture.rodCounter))
      reports := s.reports.joined (.rodScrap s.capture.rodCounter lot.id .overrun s.clock)
      notices := s.counted.occurred .rodScrapped s.clock s.capture.rodCounter } : State).settled := by
  have ends := State.endRod_occupied_eq hn hf hang
  rw [State.scrapOverrun_open (s := s.ending s.capture.latch) ho hl room] at ends
  rw [edge_of_open hs ends (State.openSlot_set (l' := lot.countScrap s.capture.rodCounter) ho hl rfl rfl)
    (State.lot_set_same (l' := lot.countScrap s.capture.rodCounter) hl rfl), State.settle_eq]
  simp only [List.set_set]
  rfl

/-- With no lot OPEN the ended rod is scrapped (R38, R39). -/
theorem edge_scraps (ho : s.openSlot = none) (room : s.reports.reports.length < 191) (hang : Bool) :
    (if hang then exec .hang s else exec .cut s) = .next ({ s with
      capture := (s.ending s.capture.latch).capture.ended s.clock hang false
      reports := s.reports.joined (.rodScrap s.capture.rodCounter 0 (if s.capture.latch.isSome then .overrun else .noLot) s.clock)
      notices := s.counted.occurred .rodScrapped s.clock s.capture.rodCounter } : State).settled := by
  cases hf : s.capture.latch with
  | none =>
    have ends := State.endRod_free_eq hn hf hang
    rw [State.writeOutAttempt_closed (s := s.ending (some (s.spreaderRod hang))) rfl ho,
      State.scrapNoLot_eq (s := s.ending (some (s.spreaderRod hang))) room] at ends
    rw [edge_of_closed hs ends ho, State.settle_eq]
    rfl
  | some old =>
    have ends := State.endRod_occupied_eq hn hf hang
    rw [State.scrapOverrun_closed (s := s.ending s.capture.latch) ho room, hf] at ends
    rw [edge_of_closed hs ends ho, State.settle_eq]
    rfl

end

/-- The state after the write-out of the rod on the spreader, before zone 0 tests its wake condition (R35, R40). -/
def State.landedEnd (s : State) (hang : Bool) (slot : Nat) (lot : Lot) (p : Profile) : State :=
  { s with
    rods := s.rods ++ [(s.spreaderRod hang).record s.massFactors slot p s.landing.length]
    landing := s.landing ++ [s.capture.rodCounter]
    lots := s.lots.set slot (some (lot.countBirth s.capture.rodCounter))
    capture := (s.ending s.capture.latch).capture
    notices := if s.landing.length = 3 then s.counted.occurred .landingFull s.clock 0 else s.counted }

theorem State.landedEnd_landing (s : State) (hang : Bool) (slot : Nat) (lot : Lot) (p : Profile) :
    (s.landedEnd hang slot lot p).landing ≠ [] := List.append_ne_nil_of_right_ne_nil _ (List.cons_ne_nil _ _)

/-- The ended rod is written out where the latch is free, a lot OPEN and the landing queue has room (R34, R35). -/
theorem State.endRod_writesOut {s : State} (hn : s.numberHeld s.capture.rodCounter = false) {slot : Nat} {lot : Lot} {p : Profile}
    (hf : s.capture.latch = none) (ho : s.openSlot = some slot) (hl : s.lot slot = some lot) (hp : s.profile lot.profile = some p)
    (room : s.landing.length < 4) (hang : Bool) : s.endRod hang = ((s.landedEnd hang slot lot p).wakeZone 0).clearChannels := by
  rw [State.endRod_free_eq hn hf, State.writeOutAttempt_room (s := s.ending (some (s.spreaderRod hang))) rfl ho hl hp room,
    State.writeOut_eq (s := s.ending (some (s.spreaderRod hang))) hl, State.landedEnd, hf]
  rfl

/-- The edge's outcome where the rod is written out and the wake of zone 0 leaves these controllers and this arbiter. -/
theorem edge_writesOut {s : State} (hs : s.capture.state = .hanging) (hn : s.numberHeld s.capture.rodCounter = false) {slot : Nat}
    {lot : Lot} {p : Profile} (hf : s.capture.latch = none) (ho : s.openSlot = some slot) (hl : s.lot slot = some lot)
    (hp : s.profile lot.profile = some p) (room : s.landing.length < 4) (hang : Bool) {zs : List Zone} {a : Arbiter}
    (wakes : (s.landedEnd hang slot lot p).wakeZone 0 = { s.landedEnd hang slot lot p with zones := zs, arbiter := a }) :
    (if hang then exec .hang s else exec .cut s) = .next { s.landedEnd hang slot lot p with
      lots := s.lots.set slot (some (if hang then (lot.countBirth s.capture.rodCounter).trimmed s.capture.trimSum
        else lot.countBirth s.capture.rodCounter))
      capture := (s.ending s.capture.latch).capture.ended s.clock hang true
      zones := zs
      arbiter := a } := by
  have ends := State.endRod_writesOut hn hf ho hl hp room hang
  rw [wakes] at ends
  refine (edge_of_open hs ends (State.openSlot_set (l' := lot.countBirth s.capture.rodCounter) ho hl rfl rfl)
    (State.lot_set_same (l' := lot.countBirth s.capture.rodCounter) hl rfl)).trans (congrArg Host.Outcome.next ?_)
  rw [State.settle_landing]
  · simp only [State.landedEnd, List.set_set]
    rfl
  · exact s.landedEnd_landing hang slot lot p

/-- What the wake of zone 0 does after a write-out (R82). -/
theorem State.landedEnd_wakes (s : State) (hang : Bool) (slot : Nat) (lot : Lot) (p : Profile) {l : Layout}
    (hlay : s.store.layout = some l) :
    ∃ zs a, (s.landedEnd hang slot lot p).wakeZone 0 = { s.landedEnd hang slot lot p with zones := zs, arbiter := a } ∧
      (s.zoneState 0 ≠ some .economy → zs = s.zones ∧ a = s.arbiter) ∧
      (ArbiterLaw s → s.zoneState 0 = some .economy →
        a = s.arbiter.granting l s.clock (s.arbiter.queue ++ [0])
          (s.arbiter.grants l (l.rampSlots - s.slotsInUse) (s.arbiter.queue.length + 1)) ∧
        EachZone s.zones zs (s.Woken l 0)) := by
  have landing := s.landedEnd_landing hang slot lot p
  by_cases he : s.zoneState 0 = some .economy
  · by_cases law : ArbiterLaw s
    · obtain ⟨zs, wakes, zones⟩ := State.wakeZone_awake (s := s.landedEnd hang slot lot p) (z := 0) hlay law he
        (State.wakeCondition_landing hlay landing) (.inr (State.runOutCondition_landing landing 0))
      exact ⟨zs, _, wakes, fun h => absurd he h, fun _ _ => ⟨rfl, zones⟩⟩
    · obtain ⟨zs, a, wakes⟩ := (s.landedEnd hang slot lot p).wakeZone_frame 0
      exact ⟨zs, a, wakes, fun h => absurd he h, fun h => absurd h law⟩
  · exact ⟨s.zones, s.arbiter, State.wakeZone_asleep he, fun _ => ⟨rfl, rfl⟩, fun _ h => absurd h he⟩

/-! ## The obligation -/

/-- Settles O38: the edge's case split is that of the latch, the OPEN lot and the room on the landing queue. -/
theorem hangAndCutEdges : Obligations.HangAndCutEdges := by
  intro s n next cleared emptied trimmed latch overflowed edge ended passed counted
  refine ⟨fun hi ho => ?_, fun slot lot hi ho hl => ?_, fun hang hs hn => ⟨fun slot lot p l hf ho hl hp hlay room => ?_,
    fun slot lot hf ho hl full => ?_, fun slot lot old hf ho hl room => ?_, fun ho room => ?_⟩⟩
  · show Host.Outcome.next s.hangEdge.settle = _
    rw [State.hangEdge, hi, ← State.settle_eq]
    exact congrArg (fun t => Host.Outcome.next (State.settle t)) (State.beginRod_closed ho)
  · show Host.Outcome.next s.hangEdge.settle = _
    rw [State.hangEdge, hi, ← State.settle_eq]
    exact congrArg (fun t => Host.Outcome.next (State.settle t)) (State.beginRod_open ho hl)
  · obtain ⟨zs, a, wakes, asleep, awake⟩ := s.landedEnd_wakes hang slot lot p hlay
    refine ⟨_, edge_writesOut hs hn hf ho hl hp room hang wakes, ?_, asleep, awake⟩
    have factors : s.massFactors = l.massFactors := by
      rw [State.massFactors, hlay]
    rw [State.landedEnd, State.record_eq, factors]
    cases hang <;> rfl
  · refine (edge_latches hs hn hf ho hl full hang).trans ?_
    cases hang <;> rfl
  · refine (edge_overruns hs hn hf ho hl room hang).trans ?_
    cases hang <;> rfl
  · refine (edge_scraps hs hn ho room hang).trans ?_
    cases hang <;> rfl

end Sys2Proof.Machine
end


section
/-! Edges that find nothing to do, and CURTAIN pulses (R28 to R31, R61). -/

namespace Sys2Proof.Machine

/-! ## Stray edges (R28, R61) -/

/-- A line that is not due to complete a run-out settles as it is (R147). -/
theorem State.settle_undue {s : State} (h : s.line.state ≠ .runOut ∨ s.runOutDone = false) : s.settle = s := by
  refine if_neg fun ⟨runOut, done⟩ => ?_
  rcases h with h | h
  · exact h runOut
  · exact nomatch h.symm.trans done

theorem State.settled_undue {s : State} (h : s.line.state ≠ .runOut ∨ s.runOutDone = false) : s.settled = s :=
  s.settle_eq.symm.trans (State.settle_undue h)

/-- A stray edge leaves its notice and nothing else. -/
theorem State.stray_settle {s : State} (h : s.line.state ≠ .runOut ∨ s.runOutDone = false) (code : Nat) :
    (s.raiseNat .strayEdge code).settle =
      { s with notices := s.notices.occurred .strayEdge s.clock (BitVec.ofNat 32 code) } :=
  State.settle_undue (s := s.raiseNat .strayEdge code) h

/-- The chain states in which no shift is outstanding (R61): a STEP DONE taken there is stray. -/
def Sequencer.AwaitsNoStep (q : Sequencer) : Prop :=
  q.state = .stopped ∨ q.state = .idle ∨ q.state = .blocked ∨ (q.state = .jammed ∧ q.lateApplied = true)

theorem State.stepDone_stray {s : State} {c : Chain} (h : (s.seq c).AwaitsNoStep) :
    s.stepDone c = s.raiseNat .strayEdge (stepDoneCode c) := by
  unfold State.stepDone
  rcases h with h | h | h | ⟨h, late⟩
  · rw [h]
  · rw [h]
  · rw [h]
  · rw [h]
    exact if_pos late

theorem exec_stepDone (s : State) (c : Chain) : exec (.stepDone c) s = .next (s.stepDone c).settle := rfl

/-- Settles O39: each of these edges only raises its notice, and the premise keeps the line from settling after it. -/
theorem strayEdgesAreIgnored : Obligations.StrayEdgesAreIgnored := by
  intro s undue stray
  have ignored (code : Nat) : Host.Outcome.next (s.raiseNat .strayEdge code).settle = stray (BitVec.ofNat 32 code) :=
    congrArg _ (State.stray_settle undue code)
  refine ⟨fun idle => ?_, fun disarmed => ⟨?_, ?_⟩, fun c quiet => ?_⟩
  · show Host.Outcome.next s.cutEdge.settle = _
    rw [State.cutEdge, idle]
    exact ignored 1
  · show Host.Outcome.next s.hangEdge.settle = _
    rw [State.hangEdge, disarmed]
    exact ignored 0
  · show Host.Outcome.next s.cutEdge.settle = _
    rw [State.cutEdge, disarmed]
    exact ignored 1
  · rw [exec_stepDone, State.stepDone_stray quiet, ignored]
    cases c <;> rfl

/-! ## CURTAIN pulses (R29 to R31) -/

/-- A pulse in HANGING, by whether it fills the prescale divider (R29, R30). -/
theorem Channel.hangPulse_eq (prescale : Nat) (ch : Channel) :
    ch.hangPulse prescale = { ch with
      divider := if ch.divider + 1 < prescale then ch.divider + 1 else 0
      count := if ch.divider + 1 < prescale then ch.count else min (ch.count + 1) 1048575
      overflow := ch.overflow || decide (1048575 ≤ ch.count) } := by
  unfold Channel.hangPulse
  by_cases room : ch.divider + 1 < prescale
  · simp only [Nat.not_le.mpr room, room, if_true, if_false]
    rfl
  · simp only [Nat.not_lt.mp room, room, if_true, if_false]
    rfl

/-- A pulse replaces its channel and no other. -/
theorem State.curtainPulse_eq {s : State} {c : Nat} {ch : Channel} (h : s.capture.channels[c]? = some ch) :
    s.curtainPulse c = s.setCapture { s.capture with
      channels := s.capture.channels.set c
        (if s.capture.state = .hanging then ch.hangPulse (s.prescale c) else ch.trimPulse) } := by
  rw [State.curtainPulse, modify_of_getElem? h]

theorem exec_curtainPulse (s : State) {c : Nat} (h : c < 6) : exec (.curtainPulse c) s = .next (s.curtainPulse c) := if_pos h

/-- Settles O40, by the capture state in which the pulse arrives. -/
theorem curtainPulsesCount : Obligations.CurtainPulsesCount := by
  intro s c ch hc hch
  rw [exec_curtainPulse s hc, State.curtainPulse_eq hch]
  refine ⟨fun hanging => ?_, fun free => ?_⟩
  · rw [if_pos hanging, Channel.hangPulse_eq]
    rfl
  · rw [if_neg free]
    rfl

end Sys2Proof.Machine
end


section
/-! A pre-chain step whose write-out grants a ramp slot before the hand-offs (R52, R56, R75, R82, R88). -/

namespace Sys2Proof.Machine

/-! ## The counterexample: zone 0 sleeps and zone 1 waits with a slot free -/

namespace EarlyGrant

/-- Two pre-chain zones of one position each, and one ramp slot. -/
def layout : Layout :=
  { zoneCount := 2, preZones := 2, positions := [1, 1], preInterval := 120, mainInterval := 80, stepTimeout := 10, blockLimit := 60,
    rampSlots := 1, rampSpacing := 120, rampLimit := 45, purgeTime := 5, economyDelay := 20, wakeLead := 15, tickPeriod := 60,
    pollPeriod := 12, defaultMask := 0, prescales := [1, 1, 1, 1, 1, 1], massFactors := [80, 80, 80, 80, 80, 80], hallTemp := 220,
    hallHum := 550 }

/-- A zone entry with a working temperature target. -/
def entry (temp : Int) : ZoneEntry :=
  { workTemp := temp, workHum := 780, tempBand := 20, humBand := 30, coefficient := 4096, gradientLimit := 600, holdTemp := 300,
    holdHum := 700, economyOffset := 150 }

/-- The profile of the OPEN lot, number 1, which works at 58.2 °C. -/
def profile : Profile :=
  { name := List.replicate 12 0x41, initialMoisture := 45000, exitMin := 11500, exitMax := 13000, stressLimit := 3,
    heatThreshold := 550, minHeat := 1800, minCurtain := 1000, zones := List.replicate 10 (entry 582) }

/-- A zone that still follows profile 0, at 60.0 °C, with its outputs off. -/
def zone (st : ZoneState) : Zone := { Zone.fresh 0 with state := st, governing := some { profile := 0, entry := entry 600 } }

/-- The copy of profile 1 that a zone adopts. -/
def adopted : Governing := { profile := 1, entry := entry 582 }

/-- A live rod of the OPEN lot. -/
def rod (loc : Location) : Rod :=
  { number := 7, lotSlot := 0, hangTime := 0, cutTime := 0, counts := [0, 0, 0, 0, 0, 0], charge := none, moisture := 45000,
    stress := 0, heat := 0, lastAccounted := 0, marks := Marks.empty, location := loc }

/-- The rod in the birth latch. -/
def latch : Latch :=
  { number := 9, hangTime := 0, cutTime := 0, counts := [0, 0, 0, 0, 0, 0], overflow := List.replicate 6 false, noCut := false }

/-- The OPEN lot. -/
def lot : Lot := { Lot.new 7101 1 0 with born := 1, inTrain := 1, firstRod := 7, lastRod := 7 }

/-- A fresh reading of 58.0 °C. -/
def reading : Reading := { temp := 580, hum := 780, clamped := false, time := 0 }

/-- The line before the step: RUNNING, zone 0 in ECONOMY, zone 1 at the head of the ramp queue, rod 7 at zone 0's position, rod 9 in
the latch. -/
def before : State :=
  { State.reset with
    line := LineState.entered .running 0
    capture := { Capture.atReset with state := .idle, latch := some latch }
    rods := [rod (.pre 0)]
    preChain := [some 7, none]
    preSeq := { Sequencer.atReset 0 with state := .stepping, stepTimer := some 1 }
    zones := [zone .economy, zone .waiting]
    arbiter := { Arbiter.atReset with queue := [1] }
    lots := [some lot]
    probeBus := { ProbeBus.atReset with records := List.replicate 11 { reading := some reading, misses := 0, lastMiss := none } }
    store := { Store.atReset with layout := some layout, slots := [.empty, .valid profile] } }

/-- Zone 1 after the step: granted, its HEAT on, following profile 1. -/
def heated : Zone :=
  { zone .ramping with governing := some adopted, rampTimer := some 270000, heat := true }

theorem arbiterLaw : ArbiterLaw before := by
  refine ⟨by decide, fun z => ?_, fun l h => ?_, nofun, fun l h => ?_, ?_, ?_, ?_⟩
  · match z with
    | 0 => decide
    | 1 => decide
    | z + 2 => simp [before, Arbiter.atReset, State.zoneState]
  · cases h
    decide
  · cases h
    rfl
  · intro resting
    rcases resting with h | h | h <;> cases h
  · decide
  · intro h
    rcases h with h | h <;> cases h

/-- The train after the shift, before the hand-offs: rod 7 at zone 1's position, rod 9 written out. -/
def shifted : State :=
  { before.preMoved with
    rods := before.preMoved.rods ++ [latch.written layout 0 profile 0]
    landing := [9]
    lots := before.preMoved.lots.modify 0 (Option.map fun x => { x with
      born := x.born + 1, inTrain := x.inTrain + 1, firstRod := if x.born = 0 then 9 else x.firstRod, lastRod := 9 })
    capture := { before.capture with latch := none } }

theorem preShifted : PreShifted before shifted layout :=
  .inr (.inr ⟨latch, 0, lot, profile, rfl, rfl, rfl, rfl, by decide, rfl⟩)

/-- Rod 7 of the OPEN lot makes zone 1 adopt profile 1. -/
theorem adopts : shifted.Adopts .pre layout 1 (zone .waiting) adopted :=
  ⟨rfl, by decide, 7, rod (.pre 1), _, profile, rfl, rfl, rfl, rfl, rfl, rfl⟩

/-- The model grants zone 1 at the write-out, while it still follows profile 0, and so switches its HEAT on (R68, R82). -/
theorem step_heats : (before.stepDone .pre).settle.zones[1]? = some heated := by decide +kernel

/-- The hand-offs as stated have zone 1 adopt profile 1 first: at 58.0 °C its HEAT, off before, then stays off (R68, R88). -/
theorem not_zoneAfterShift : ¬ shifted.ZoneAfterShift .pre layout 1 (zone .waiting) heated := by
  rintro ⟨m, takes, -, -, -, -, -, -, -, grants⟩
  obtain ⟨copy, -, follows⟩ := takes adopted adopts
  obtain ⟨⟨heat, -⟩, -⟩ := follows reading rfl rfl
  rcases grants (fun h => nomatch h.1) (fun h => nomatch h.1) with same | granted
  · rw [copy] at same
    exact nomatch congrArg Zone.state same
  · obtain ⟨-, -, -, outputs⟩ := granted
    obtain ⟨⟨-, -, keeps⟩, -⟩ := outputs adopted reading (by rw [copy]) rfl rfl
    exact nomatch (keeps (by decide) (by decide)).trans heat

end EarlyGrant

/-- Refutes O30. In the state `EarlyGrant.before`, which meets ArbiterLaw, a zone waits at the head of the ramp queue with a slot free.
The write-out within the shift wakes zone 0 (R35, R82), and that wake's grant test moves the waiting zone to RAMPING before the hand-offs:
its outputs follow the old profile's targets first, and from there the adopted ones, where the statement has them follow the adopted
ones from the levels before the shift. R34 and R37 leave no rod latched behind a landing queue with room while a lot is OPEN, so no run
comes to this state; ArbiterLaw alone, the statement's premise, does not shut it out. -/
theorem not_preStepShiftsTheTrain : ¬ Obligations.PreStepShiftsTheTrain := by
  intro holds
  obtain ⟨u, ⟨⟨-, zones⟩, -, -, frame⟩, run⟩ :=
    holds EarlyGrant.before EarlyGrant.shifted EarlyGrant.layout EarlyGrant.arbiterLaw rfl rfl EarlyGrant.preShifted
  have steps : u.line.state ≠ .runOut := by
    rw [frame]
    exact LineState.noConfusion
  rw [exec_stepDone, State.settled_undue (by exact .inl steps)] at run
  have after : (EarlyGrant.before.stepDone .pre).settle.zones = u.zones := (congrArg State.zones (Host.Outcome.next.inj run) :)
  exact EarlyGrant.not_zoneAfterShift (zones 1 _ _ rfl (after ▸ EarlyGrant.step_heats))

end Sys2Proof.Machine
end


section
/-! A jam whose shift grants a ramp slot before the hand-offs (R56, R59, R60, R75): the counterexample of the pre-chain step, with the chain
JAMMED. -/

namespace Sys2Proof.Machine

namespace EarlyGrant

/-- `EarlyGrant.before` with the pre chain JAMMED, its step not applied. -/
def jammed : State := { before with preSeq := { Sequencer.atReset 0 with state := .jammed } }

/-- The train of the jammed line after its shift, before the hand-offs. -/
def jamShifted : State := { shifted with preSeq := jammed.preSeq }

theorem jam_arbiterLaw : ArbiterLaw jammed := arbiterLaw

theorem jam_shifted : Shifted jammed jamShifted layout .pre :=
  .inr (.inr ⟨latch, 0, lot, profile, rfl, rfl, rfl, rfl, by decide, rfl⟩)

/-- Hand-offs as stated do not switch zone 1's HEAT on, and leave the line RUNNING. -/
theorem jam_handedOff {u : State} {took : Bool} (h : HandedOff jamShifted u .pre layout took) :
    u.line.state = .running ∧ u.zones[1]? ≠ some heated := by
  obtain ⟨⟨-, zones⟩, -, -, frame⟩ := h
  refine ⟨by rw [frame]; rfl, fun hot => ?_⟩
  exact not_zoneAfterShift (zones 1 _ _ rfl hot)

/-- The late STEP DONE switches zone 1's HEAT on (R59). -/
theorem late_heats : (jammed.stepDone .pre).zones[1]? = some heated := by decide +kernel

/-- The shift of a CHAIN CLEAR switches zone 1's HEAT on (R60). -/
theorem clear_heats : (jammed.clearJam .pre 1).zones[1]? = some heated := by decide +kernel

end EarlyGrant

/-- CHAIN CLEAR of a JAMMED chain outside INIT is taken and answered OK (R60). -/
theorem exec_chainClear {s : State} {c : Chain} {moved : Byte} (hs : s.line.state ≠ .init) (hm : moved.toNat ≤ 1)
    (hj : (s.seq c).state = .jammed) :
    exec (.chainClear (BitVec.ofNat 8 (chainCode c)) moved) s = .next { (s.clearJam c moved).settle with
      link := (s.clearJam c moved).settle.link.prepared 0x23 .ok
        [flagByte ((s.seq c).clearShifts moved), BitVec.ofNat 8 ((s.clearJam c moved).seq c).state.code] } := by
  have op : chainClearOp (BitVec.ofNat 8 (chainCode c)) moved s = ((s.clearJam c moved).settle, .ok
      [flagByte ((s.seq c).clearShifts moved), BitVec.ofNat 8 ((s.clearJam c moved).seq c).state.code]) := by
    rw [chainClearOp, chainOfCode_chainCode]
    dsimp only
    rw [if_neg (Nat.not_lt.mpr hm), if_neg (not_ne_iff.mpr hj)]
  show Host.Outcome.next (s.serve 0x23 (chainClearOp _ moved)) = _
  rw [s.serve_ready _ _ hs, op]
  rfl

/-- Refutes O33: the early grant of `EarlyGrant.before` (see `not_preStepShiftsTheTrain`) comes at the shift of a late STEP DONE too, where the
pre chain is JAMMED. The second clause, for the pre chain, is what fails. -/
theorem not_lateStepDoneShiftsOnce : ¬ Obligations.LateStepDoneShiftsOnce := by
  intro ⟨_, holds⟩
  obtain ⟨u, handed, run⟩ := holds EarlyGrant.jammed EarlyGrant.jamShifted .pre EarlyGrant.layout EarlyGrant.jam_arbiterLaw rfl rfl rfl
    EarlyGrant.jam_shifted
  obtain ⟨line, cold⟩ := EarlyGrant.jam_handedOff handed
  rw [exec_stepDone, State.settle_undue (.inl (by decide +kernel)), State.settled_undue (.inl (by simp [line]))] at run
  have zones : (EarlyGrant.jammed.stepDone .pre).zones = u.zones := (congrArg State.zones (Host.Outcome.next.inj run) :)
  exact cold (zones ▸ EarlyGrant.late_heats)

/-- Refutes O37: the early grant of `EarlyGrant.before` (see `not_preStepShiftsTheTrain`) comes at the shift of a CHAIN CLEAR too. What fails is
the clause of the applied shift, for the pre chain. -/
theorem not_chainClearEndsTheJam : ¬ Obligations.ChainClearEndsTheJam := by
  intro ⟨_, holds⟩
  obtain ⟨-, -, shifts, -⟩ := holds EarlyGrant.jammed .pre EarlyGrant.layout rfl (by decide)
  obtain ⟨u, handed, run⟩ := shifts EarlyGrant.jamShifted EarlyGrant.jam_arbiterLaw rfl rfl EarlyGrant.jam_shifted
  obtain ⟨line, cold⟩ := EarlyGrant.jam_handedOff handed
  rw [exec_chainClear (by decide) (by decide) rfl, State.settle_undue (.inl (by decide +kernel)),
    State.settled_undue (.inl (by simp [line]))] at run
  have zones : (EarlyGrant.jammed.clearJam .pre 1).zones = u.zones := (congrArg State.zones (Host.Outcome.next.inj run) :)
  exact cold (zones ▸ EarlyGrant.clear_heats)

end Sys2Proof.Machine
end


section
/-! The timers of the chains, the take condition and the release of a BLOCKED chain (R47 to R50, R53). -/

namespace Sys2Proof.Machine

/-! ## Conditions of the chains (R48, R50) -/

theorem lastRod_isNone {ps : List (Option Word32)} : (lastRod ps).isNone = true ↔ ∀ n, ps.getLast? ≠ some (some n) := by
  unfold lastRod
  rcases ps.getLast? with _ | _ | n <;> simp

theorem allGaps_iff {ps : List (Option Word32)} : allGaps ps = true ↔ ∀ x ∈ ps, x = none := by
  simp [allGaps]

theorem State.takeCondition_pre_iff (s : State) :
    s.takeCondition .pre = true ↔ (∀ n, s.preChain.getLast? ≠ some (some n)) ∨ s.buffer.length < 8 := by
  rw [← lastRod_isNone, State.takeCondition, Bool.or_eq_true, decide_eq_true_iff]
  rfl

theorem State.takeCondition_main_iff (s : State) :
    s.takeCondition .main = true ↔ (∀ n, s.mainChain.getLast? ≠ some (some n)) ∨ s.pins.stripReady = true := by
  rw [← lastRod_isNone]
  simp [State.takeCondition]

theorem State.emptyUpTo_pre_iff (s : State) :
    s.emptyUpTo .pre = true ↔ (∀ x ∈ s.preChain, x = none) ∧ s.landing = [] ∧ s.capture.latch = none := by
  rw [← allGaps_iff]
  simp [State.emptyUpTo, and_assoc]

theorem State.emptyUpTo_main_iff (s : State) :
    s.emptyUpTo .main = true ↔ s.emptyUpTo .pre = true ∧ s.buffer = [] ∧ ∀ x ∈ s.mainChain, x = none := by
  rw [← allGaps_iff]
  simp [State.emptyUpTo, and_assoc]

@[simp] theorem State.setSeq_trainEmpty (s : State) (c : Chain) (q : Sequencer) : (s.setSeq c q).trainEmpty = s.trainEmpty := by
  cases c <;> rfl

/-- A line with a rod in its train has no run-out to complete (R147). -/
theorem State.runOutDone_of_train {s : State} (h : s.trainEmpty = false) : s.runOutDone = false := by
  simp [State.runOutDone, h]

/-- A line whose pre chain is not STOPPED has no run-out to complete (R147). -/
theorem State.runOutDone_of_preSeq {s : State} (h : s.preSeq.state ≠ .stopped) : s.runOutDone = false := by
  simp [State.runOutDone, h]

/-! ## The interval timer (R47, R50) -/

theorem exec_intervalExpiry (s : State) (c : Chain) : exec (.intervalExpiry c) s = .next (s.intervalExpiry c).settled :=
  congrArg _ (State.settle_eq _)

theorem State.intervalExpiry_other {s : State} {c : Chain} (h : (s.seq c).state ≠ .idle) : s.intervalExpiry c = s := if_neg h

/-- The expiry that finds a rod on the chain or upstream of it, or the line not in RUN_OUT, steps or blocks by the take condition. -/
theorem State.intervalExpiry_going {s : State} {c : Chain} (h : (s.seq c).state = .idle)
    (going : s.line.state ≠ .runOut ∨ s.emptyUpTo c = false) :
    s.intervalExpiry c = if s.takeCondition c then s.issueStep c else s.blockChain c := by
  have goes : ¬ (s.line.state = .runOut ∧ s.emptyUpTo c = true) := by
    rintro ⟨runOut, empty⟩
    rcases going with h | h
    · exact h runOut
    · exact nomatch h.symm.trans empty
  rw [State.intervalExpiry, if_pos h, if_neg goes]

theorem State.intervalExpiry_runOut {s : State} {c : Chain} (h : (s.seq c).state = .idle) (runOut : s.line.state = .runOut)
    (empty : s.emptyUpTo c = true) : s.intervalExpiry c = s.stopChain c := by
  rw [State.intervalExpiry, if_pos h, if_pos ⟨runOut, empty⟩]

theorem State.stepTicks_eq {s : State} {l : Layout} (h : s.store.layout = some l) : s.stepTicks = l.stepTimeout * 100 := by
  rw [State.stepTicks, h]
  rfl

theorem State.blockTicks_eq {s : State} {l : Layout} (h : s.store.layout = some l) : s.blockTicks = l.blockLimit * 100 := by
  rw [State.blockTicks, h]
  rfl

theorem State.intervalTicks_eq {s : State} {l : Layout} (h : s.store.layout = some l) (c : Chain) :
    s.intervalTicks c = l.interval c := by
  unfold State.intervalTicks
  rw [h]
  cases c <;> rfl

theorem State.issueStep_eq {s : State} {l : Layout} (h : s.store.layout = some l) (c : Chain) :
    s.issueStep c = s.setSeq c { s.seq c with
      state := .stepping, entered := s.clock, intervalTimer := none, stepTimer := some (l.stepTimeout * 100)
      blockedTimer := none } := by
  rw [State.issueStep, State.stepTicks_eq h]
  rfl

theorem State.blockChain_eq {s : State} {l : Layout} (h : s.store.layout = some l) (c : Chain) :
    s.blockChain c = s.setSeq c { s.seq c with
      state := .blocked, entered := s.clock, intervalTimer := none, stepTimer := none
      blockedTimer := some (l.blockLimit * 100) } := by
  rw [State.blockChain, State.blockTicks_eq h]
  rfl

/-- Settles O34: the conditions as the rules word them, then the expiry by the chain state, the run-out rule and the take condition. -/
theorem intervalExpiryStepsOrBlocks : Obligations.IntervalExpiryStepsOrBlocks := by
  refine ⟨fun s => ⟨s.takeCondition_pre_iff, s.takeCondition_main_iff, s.emptyUpTo_pre_iff, s.emptyUpTo_main_iff, rfl⟩,
    fun s c l hl going => ?_, fun s c runOut idle empty => ?_, fun s c waits => ?_⟩
  · have undue (q : Sequencer) : (s.setSeq c q).settled = s.setSeq c q := by
      refine State.settled_undue ?_
      rw [State.setSeq_line]
      refine going.imp_right fun h => State.runOutDone_of_train ?_
      rw [State.setSeq_trainEmpty, h.2]
    have goes := going.imp_right And.left
    refine ⟨fun waits => ?_, fun idle take => ?_, fun idle full => ?_⟩
    · rw [exec_intervalExpiry, State.intervalExpiry_other waits,
        State.settled_undue (going.imp_right fun h => State.runOutDone_of_train h.2)]
    · rw [exec_intervalExpiry, State.intervalExpiry_going idle goes, if_pos take, State.issueStep_eq hl, undue]
    · rw [exec_intervalExpiry, State.intervalExpiry_going idle goes, full, if_neg Bool.false_ne_true, State.blockChain_eq hl, undue]
  · rw [exec_intervalExpiry, State.intervalExpiry_runOut idle runOut empty]
    rfl
  · rw [exec_intervalExpiry, State.intervalExpiry_other waits]

/-! ## BLOCKED chains (R48, R49, R53) -/

theorem State.releaseBlocked_blocked {s : State} {c : Chain} (h : (s.seq c).state = .blocked) (take : s.takeCondition c = true) :
    s.releaseBlocked c = s.issueStep c := if_pos ⟨h, take⟩

theorem State.releaseBlocked_other {s : State} {c : Chain} (h : (s.seq c).state ≠ .blocked) : s.releaseBlocked c = s :=
  if_neg fun hb => h hb.1

/-- The zones' part of the hand-offs writes zones, arbiter and notices alone (R56). -/
theorem State.zonesHandOff_frame (s : State) (c : Chain) :
    ∃ zs a n, s.zonesHandOff c = { s with zones := zs, arbiter := a, notices := n } := by
  unfold State.zonesHandOff
  obtain ⟨zs, a, n, adopted⟩ := s.eachZone_notices_frame (State.adopt c) fun t z => by
    obtain ⟨zs, n, h⟩ := State.adopt_frame c t z
    exact ⟨zs, t.arbiter, n, h⟩
  rw [adopted]
  obtain ⟨zs', a', woken⟩ := State.eachZone_frame (State.followEconomy { s with zones := zs, arbiter := a, notices := n }) _
    State.wakeZone_frame
  rw [woken]
  obtain ⟨zs'', a'', purged⟩ := State.eachZone_frame
    { State.followEconomy { s with zones := zs, arbiter := a, notices := n } with zones := zs', arbiter := a' } _ State.runOutZone_frame
  rw [purged]
  exact ⟨zs'', a'', n, rfl⟩

/-- What a main-chain shift leaves of the buffer, and the blocks it leaves as they were (R55). -/
theorem State.mainShift_keeps (s : State) :
    s.mainShift.buffer = s.buffer.tail ∧ s.mainShift.preChain = s.preChain ∧ s.mainShift.preSeq = s.preSeq ∧
      s.mainShift.store = s.store ∧ s.mainShift.clock = s.clock := by
  cases hlast : lastRod s.mainChain with
  | none =>
    rw [State.mainShift_gap hlast]
    exact ⟨rfl, rfl, rfl, rfl, rfl⟩
  | some n =>
    obtain ⟨_, _, _, _, _, graded⟩ := s.gradeExit_frame n s.clock
    rw [State.mainShift_rod hlast, graded]
    exact ⟨rfl, rfl, rfl, rfl, rfl⟩

/-- A main shift that takes the buffer's head lets a BLOCKED pre chain issue its step (R49, R53). -/
theorem State.applyShift_main_releases {s : State} {l : Layout} (hl : s.store.layout = some l) (hb : s.preSeq.state = .blocked)
    (head : s.buffer ≠ []) (full : s.buffer.length ≤ 8) :
    (s.applyShift .main).preSeq = { s.preSeq with
      state := .stepping, entered := s.clock, intervalTimer := none, stepTimer := some (l.stepTimeout * 100)
      blockedTimer := none } := by
  obtain ⟨buffer, -, preSeq, store, clock⟩ := s.mainShift_keeps
  obtain ⟨zs, a, n, zones⟩ := s.mainShift.zonesHandOff_frame .main
  have took : (!s.buffer.isEmpty) = true := by simpa using head
  have room : (s.mainShift.zonesHandOff .main).takeCondition .pre = true := by
    refine (State.takeCondition_pre_iff _).mpr (.inr ?_)
    have taken := List.length_pos_of_ne_nil head
    rw [zones]
    show s.mainShift.buffer.length < 8
    rw [buffer, List.length_tail]
    omega
  have blocked : ((s.mainShift.zonesHandOff .main).seq .pre).state = .blocked := by
    rw [zones]
    show s.mainShift.preSeq.state = _
    rw [preSeq, hb]
  have layout : (s.mainShift.zonesHandOff .main).store.layout = some l := by
    rw [zones]
    exact (congrArg Store.layout store).trans hl
  rw [State.applyShift_main, State.handOff_main, if_pos took, State.releaseBlocked_blocked blocked room, State.issueStep_eq layout, zones]
  show ({ s.mainShift.preSeq with
    state := .stepping, entered := s.mainShift.clock, intervalTimer := none, stepTimer := some (l.stepTimeout * 100)
    blockedTimer := none } : Sequencer) = _
  rw [preSeq, clock]

theorem State.stepDone_stepping {s : State} {c : Chain} (h : (s.seq c).state = .stepping) :
    s.stepDone c = (s.applyShift c).afterStep c := by
  rw [State.stepDone, h]

theorem State.stepDone_late {s : State} {c : Chain} (h : (s.seq c).state = .jammed) (late : (s.seq c).lateApplied = false) :
    s.stepDone c = ((s.applyShift c).setLate c true).raiseNat .lateStep (chainCode c) := by
  rw [State.stepDone, h]
  dsimp only
  rw [late, if_neg Bool.false_ne_true]

/-- A STEP DONE of the main chain leaves the pre chain as its shift does, whether it is a completion or late (R51, R59). -/
theorem State.stepDone_main_preSeq {s : State} (h : s.mainSeq.isOpen) : (s.stepDone .main).preSeq = (s.applyShift .main).preSeq := by
  rcases h with h | ⟨h, late⟩
  · obtain ⟨q, next, -⟩ := (s.applyShift .main).afterStep_eq .main
    rw [State.stepDone_stepping (c := .main) h, next]
    rfl
  · rw [State.stepDone_late (c := .main) h late]
    rfl

/-- Settles O36: the blocked timer by the chain state, STRIP READY by its level and the main chain's state, and the release of the pre
chain by a main shift. -/
theorem blockedChainsWaitForTheirExit : Obligations.BlockedChainsWaitForTheirExit := by
  intro s c l hl
  refine ⟨fun blocked runs => ?_, fun other => ?_, fun blocked => ?_, fun other => ?_, rfl, fun isOpen blocked head full => ?_⟩
  · show Host.Outcome.next (s.blockLimit c) = _
    rw [State.blockLimit, if_pos ⟨blocked, runs⟩]
    cases c <;> rfl
  · show Host.Outcome.next (s.blockLimit c) = _
    rw [State.blockLimit, if_neg]
    rintro ⟨blocked, runs⟩
    rcases other with h | h
    · exact h blocked
    · rw [h] at runs
      exact nomatch runs
  · show Host.Outcome.next ((s.setPins { s.pins with stripReady := true }).releaseBlocked .main) = _
    rw [State.releaseBlocked_blocked (by exact blocked) ((State.takeCondition_main_iff _).mpr (.inr rfl)),
      State.issueStep_eq (by exact hl)]
    rfl
  · show Host.Outcome.next ((s.setPins { s.pins with stripReady := true }).releaseBlocked .main) = _
    rw [State.releaseBlocked_other (by exact other)]
    rfl
  · have released := (State.stepDone_main_preSeq isOpen).trans (State.applyShift_main_releases hl blocked head full)
    refine ⟨_, exec_stepDone s .main, ?_⟩
    rw [State.settle_undue (.inr (State.runOutDone_of_preSeq (by simp [released])))]
    exact released

end Sys2Proof.Machine
end


section
/-! The event that a step on an empty queue takes, and the tick (R152, R161, R192, R197). -/

namespace Sys2Proof.Machine

/-! ## The first of a row of ranks -/

/-- Of the ranks from `lo` below `hi`, `o` is what `P` holds of at the first rank where it holds of anything, and nothing where it holds
of nothing. -/
def FirstDue (P : Nat → Instr → Prop) (lo hi : Nat) (o : Option Instr) : Prop :=
  (∀ rank c, lo ≤ rank → rank < hi → P rank c → (∀ j, lo ≤ j → j < rank → ∀ d, ¬ P j d) → o = some c) ∧
  ((∀ rank c, lo ≤ rank → rank < hi → ¬ P rank c) → o = none)

theorem FirstDue.single {P : Nat → Instr → Prop} {r hi : Nat} {o : Option Instr} (h : ∀ c, P r c ↔ o = some c) (one : hi = r + 1 := by omega) :
    FirstDue P r hi o := by
  subst one
  refine ⟨fun rank c lo hi due _ => ?_, fun never => Option.eq_none_iff_forall_ne_some.mpr fun c hc => ?_⟩
  · exact (h c).mp (Nat.le_antisymm (Nat.lt_succ_iff.mp hi) lo ▸ due)
  · exact never r c (Nat.le_refl r) (Nat.lt_succ_self r) ((h c).mpr hc)

theorem FirstDue.nothing (P : Nat → Instr → Prop) (r : Nat) : FirstDue P r r none :=
  ⟨fun _ _ lo hi => absurd hi (Nat.not_lt.mpr lo), fun _ => rfl⟩

theorem FirstDue.orElse {P : Nat → Instr → Prop} {lo mid hi : Nat} {o o' : Option Instr} (h : FirstDue P lo mid o)
    (h' : FirstDue P mid hi o') (hlo : lo ≤ mid := by omega) (hhi : mid ≤ hi := by omega) :
    FirstDue P lo hi (o <|> o') := by
  obtain ⟨first, never⟩ := h
  obtain ⟨first', never'⟩ := h'
  refine ⟨fun rank c hr hr' due before => ?_, fun none => ?_⟩
  · rcases Nat.lt_or_ge rank mid with early | late
    · rw [first rank c hr early due before]
      rfl
    · rw [never fun j d hj hj' => before j hj (Nat.lt_of_lt_of_le hj' late) d]
      exact first' rank c late hr' due fun j hj hj' => before j (Nat.le_trans hlo hj) hj'
  · rw [never fun j d hj hj' => none j d hj (Nat.lt_of_lt_of_le hj' hhi)]
    exact never' fun j d hj hj' => none j d (Nat.le_trans hlo hj) hj'

/-! ## The events at their ranks -/

theorem ite_some_eq {p : Prop} [Decidable p] {e c : Instr} : (if p then some e else none) = some c ↔ c = e ∧ p := by
  rw [Option.ite_none_right_eq_some, Option.some_inj, and_comm, eq_comm]

theorem timerDue_iff {t : Option Nat} : timerDue t = true ↔ t = some 0 := by simp [timerDue]

theorem State.checkDue_iff (s : State) (c : Instr) : s.DueAt 0 c ↔ s.checkDue = some c := by
  rw [State.checkDue, ite_some_eq]
  constructor
  · rintro (⟨-, rfl, due⟩ | ⟨ch, hr, -⟩ | ⟨z, zn, -, -, h⟩ | ⟨hr, -⟩ | ⟨hr, -⟩ | ⟨hr, -⟩)
    · exact ⟨rfl, due⟩
    · cases ch <;> cases hr
    all_goals omega
  · rintro ⟨rfl, due⟩
    exact .inl ⟨rfl, rfl, due⟩

theorem State.chainDue_iff (s : State) (ch : Chain) (c : Instr) :
    s.DueAt (if ch = .pre then 1 else 2) c ↔ s.chainDue ch = some c := by
  have rank : (if ch = .pre then 1 else 2) = 1 ∨ (if ch = .pre then 1 else 2) = 2 := by cases ch <;> simp
  have due : s.chainDue ch = some c ↔
      (c = .intervalExpiry ch ∧ (s.seq ch).state = .idle ∧ (s.seq ch).intervalTimer = some 0) ∨
      (c = .stepTimeout ch ∧ (s.seq ch).state = .stepping ∧ (s.seq ch).stepTimer = some 0) ∨
      (c = .blockLimit ch ∧ (s.seq ch).state = .blocked ∧ (s.seq ch).blockedTimer = some 0) := by
    unfold State.chainDue
    cases hst : (s.seq ch).state <;> simp [hst, timerDue_iff, ite_some_eq, -Option.ite_none_right_eq_some]
  rw [due]
  constructor
  · rintro (⟨hr, -⟩ | ⟨ch', hr, h⟩ | ⟨z, zn, -, -, h⟩ | ⟨hr, -⟩ | ⟨hr, -⟩ | ⟨hr, -⟩)
    · omega
    · obtain rfl : ch = ch' := by revert hr; cases ch <;> cases ch' <;> decide
      exact h
    all_goals omega
  · exact fun h => .inr (.inl ⟨ch, rfl, h⟩)

/-- The timer of a zone that runs out at each of its four ranks (R73, R79, R81, R87). -/
def Zone.DueAt (z : Nat) (zn : Zone) (rank : Nat) (c : Instr) : Prop :=
  (rank = 3 + 4 * z ∧ c = .zoneTick z ∧ zn.tickTimer = some 0) ∨
  (rank = 4 + 4 * z ∧ c = .economyTimerExpiry z ∧ zn.economyTimer = some 0) ∨
  (rank = 5 + 4 * z ∧ c = .rampLimitExpiry z ∧ zn.state = .ramping ∧ zn.rampTimer = some 0) ∨
  (rank = 6 + 4 * z ∧ c = .purgeTimerExpiry z ∧ zn.state = .purging ∧ zn.purgeTimer = some 0)

theorem State.dueAt_zone {s : State} {z rank : Nat} (hz : z < 10) (lo : 3 + 4 * z ≤ rank) (hi : rank < 7 + 4 * z) (c : Instr) :
    s.DueAt rank c ↔ ∃ zn, s.zones[z]? = some zn ∧ zn.DueAt z rank c := by
  constructor
  · rintro (⟨hr, -⟩ | ⟨ch, hr, -⟩ | ⟨z', zn, -, here, due⟩ | ⟨hr, -⟩ | ⟨hr, -⟩ | ⟨hr, -⟩)
    · omega
    · split at hr <;> omega
    · obtain rfl : z' = z := by omega
      exact ⟨zn, here, due⟩
    all_goals omega
  · rintro ⟨zn, here, due⟩
    exact .inr (.inr (.inl ⟨z, zn, hz, here, due⟩))

theorem Zone.due_eq (z : Nat) (zn : Zone) : zn.due z =
    ((if zn.tickTimer = some 0 then some (.zoneTick z) else none) <|>
    (if zn.economyTimer = some 0 then some (.economyTimerExpiry z) else none) <|>
    (if zn.state = .ramping ∧ zn.rampTimer = some 0 then some (.rampLimitExpiry z) else none) <|>
    (if zn.state = .purging ∧ zn.purgeTimer = some 0 then some (.purgeTimerExpiry z) else none)) := by
  simp only [Zone.due, timerDue_iff]
  split
  · rfl
  · split
    · rfl
    · split <;> rfl

theorem Zone.due_first (z : Nat) (zn : Zone) : FirstDue (zn.DueAt z) (3 + 4 * z) (7 + 4 * z) (zn.due z) := by
  have at_rank {r hi : Nat} {e : Instr} {p : Prop} [Decidable p] (h : ∀ c, zn.DueAt z r c ↔ c = e ∧ p) (one : hi = r + 1 := by omega) :
      FirstDue (zn.DueAt z) r hi (if p then some e else none) := .single fun c => by rw [ite_some_eq, h]
  rw [Zone.due_eq]
  refine (at_rank (hi := 4 + 4 * z) fun c => ?tick).orElse <| (at_rank (hi := 5 + 4 * z) fun c => ?economy).orElse <|
    (at_rank (hi := 6 + 4 * z) fun c => ?ramp).orElse <| at_rank fun c => ?purge
  all_goals simp [Zone.DueAt]

theorem State.zone_first (s : State) {z : Nat} (hz : z < 10) :
    FirstDue s.DueAt (3 + 4 * z) (3 + 4 * (z + 1)) (s.zones[z]?.bind (Zone.due z)) := by
  rw [show 3 + 4 * (z + 1) = 7 + 4 * z by omega]
  cases here : s.zones[z]? with
  | none => exact ⟨fun r c lo hi due => by simp [State.dueAt_zone hz lo hi, here] at due, fun _ => rfl⟩
  | some zn =>
    have same {r : Nat} (lo : 3 + 4 * z ≤ r) (hi : r < 7 + 4 * z) (c : Instr) : s.DueAt r c ↔ zn.DueAt z r c := by
      simp [State.dueAt_zone hz lo hi, here]
    obtain ⟨first, never⟩ := zn.due_first z
    refine ⟨fun r c lo hi due before => ?_, fun none => never fun r c lo hi => (same lo hi c).not.mp (none r c lo hi)⟩
    exact first r c lo hi ((same lo hi c).mp due) fun j hj hj' d => (same hj (by omega) d).not.mp (before j hj hj' d)

theorem zipIdx_findSome?_take_succ {α β : Type} (f : α → Nat → Option β) (xs : List α) (n : Nat) :
    ((xs.take (n + 1)).zipIdx.findSome? fun p => f p.1 p.2) =
      (((xs.take n).zipIdx.findSome? fun p => f p.1 p.2) <|> xs[n]?.bind (f · n)) := by
  rw [List.take_add_one, List.zipIdx_append, List.findSome?_append]
  cases h : xs[n]? with
  | none => simp
  | some x =>
    have full : (xs.take n).length = n := List.length_take_of_le (Nat.le_of_lt (List.getElem?_eq_some_iff.mp h).1)
    rw [full]
    simp

/-- The events of the first `n` zones, in index order. -/
theorem State.zonesDue_first (s : State) {n : Nat} (hn : n ≤ 10) :
    FirstDue s.DueAt 3 (3 + 4 * n) ((s.zones.take n).zipIdx.findSome? fun p => p.1.due p.2) := by
  induction n with
  | zero => exact .nothing _ _
  | succ n ih =>
    rw [zipIdx_findSome?_take_succ fun zn z => Zone.due z zn]
    exact (ih (by omega)).orElse (s.zone_first (z := n) (by omega))

theorem State.spacingDue_iff (s : State) (c : Instr) : s.DueAt 43 c ↔ s.spacingDue = some c := by
  rw [State.spacingDue, ite_some_eq, timerDue_iff]
  constructor
  · rintro (⟨hr, -⟩ | ⟨ch, hr, -⟩ | ⟨z, zn, hz, -, h⟩ | ⟨-, h⟩ | ⟨hr, -⟩ | ⟨hr, -⟩)
    · omega
    · split at hr <;> omega
    · omega
    · exact h
    all_goals omega
  · exact fun h => .inr (.inr (.inr (.inl ⟨rfl, h⟩)))

theorem State.pollSlotDue_iff (s : State) (c : Instr) : s.DueAt 44 c ↔ s.pollSlotDue = some c := by
  rw [State.pollSlotDue, ite_some_eq, timerDue_iff]
  constructor
  · rintro (⟨hr, -⟩ | ⟨ch, hr, -⟩ | ⟨z, zn, hz, -, h⟩ | ⟨hr, -⟩ | ⟨-, h⟩ | ⟨hr, -⟩)
    · omega
    · split at hr <;> omega
    · omega
    · omega
    · exact h
    · omega
  · exact fun h => .inr (.inr (.inr (.inr (.inl ⟨rfl, h⟩))))

theorem State.recoveryDue_iff (s : State) (c : Instr) : s.DueAt 45 c ↔ s.recoveryDue = some c := by
  rw [State.recoveryDue, ite_some_eq, timerDue_iff]
  constructor
  · rintro (⟨hr, -⟩ | ⟨ch, hr, -⟩ | ⟨z, zn, hz, -, h⟩ | ⟨hr, -⟩ | ⟨hr, -⟩ | ⟨-, h⟩)
    · omega
    · split at hr <;> omega
    · omega
    · omega
    · omega
    · exact h
  · exact fun h => .inr (.inr (.inr (.inr (.inr ⟨rfl, h⟩))))

/-- The event due now is the first of the forty-six ranks (assumption log 4). -/
theorem State.nextDue_first (s : State) : FirstDue s.DueAt 0 46 s.nextDue := by
  have check : FirstDue s.DueAt 0 1 s.checkDue := .single s.checkDue_iff
  have pre : FirstDue s.DueAt 1 2 (s.chainDue .pre) := .single (s.chainDue_iff .pre)
  have main : FirstDue s.DueAt 2 3 (s.chainDue .main) := .single (s.chainDue_iff .main)
  have zones : FirstDue s.DueAt 3 43 s.zonesDue := s.zonesDue_first (Nat.le_refl 10)
  have spacing : FirstDue s.DueAt 43 44 s.spacingDue := .single s.spacingDue_iff
  have poll : FirstDue s.DueAt 44 45 s.pollSlotDue := .single s.pollSlotDue_iff
  have recovery : FirstDue s.DueAt 45 46 s.recoveryDue := .single s.recoveryDue_iff
  exact check.orElse (pre.orElse (main.orElse (zones.orElse (spacing.orElse (poll.orElse recovery)))))

theorem State.DueAt.rank_lt {s : State} {rank : Nat} {c : Instr} (h : s.DueAt rank c) : rank < 46 := by
  rcases h with ⟨hr, -⟩ | ⟨ch, hr, -⟩ | ⟨z, zn, hz, -, h⟩ | ⟨hr, -⟩ | ⟨hr, -⟩ | ⟨hr, -⟩
  · omega
  · split at hr <;> omega
  all_goals omega

/-! ## Replies (R192) -/

/-- A prepared reply is being sent after two ticks, whatever the free value: it begins at the first or waits for the second
(assumption log 5). -/
theorem Link.tick_tick {k : Link} {r : Reply} (h : k.port = .preparing r 0) (count count' : Nat) :
    ((k.tick count).tick count').port = .sending r ∧ ((k.tick count).tick count').receiver = .hunting := by
  have first : k.tick count = { k with
      port := if replyStarts 0 count then .sending r else .preparing r 1
      receiver := if replyStarts 0 count then .hunting else k.receiver } := by
    rw [Link.tick, h]
  rw [first]
  cases replyStarts 0 count <;> exact ⟨rfl, rfl⟩

/-- Settles O2: the event due is the first by rank, and with none due the step is the tick. -/
theorem emptyQueueTakesTheDueEventOrOneTick : Obligations.EmptyQueueTakesTheDueEventOrOneTick := by
  intro s empty
  have idle : step s = s.idleStep := by rw [step, empty]
  obtain ⟨first, never⟩ := s.nextDue_first
  refine ⟨fun r preparing => ?_, fun rank c due before => ?_, fun none => ?_, fun c due => ?_, fun none => ?_⟩
  · obtain ⟨port, receiver⟩ := Link.tick_tick preparing s.freeCount (s.freeCount + 1)
    have port : s.tick.tick.link.port = .sending r := port
    exact ⟨port, receiver, by rw [State.linkDe, port]⟩
  · exact first rank c (Nat.zero_le _) due.rank_lt due fun j _ hj => before j hj
  · exact never fun rank c _ _ => none rank c
  · rw [idle, State.idleStep, due]
  · rw [idle, State.idleStep, none]
    refine ⟨s.link.tick s.freeCount, rfl, fun h => ?_, fun r h => ?_⟩
    · rw [Link.tick, h]
    · rw [Link.tick, h]

end Sys2Proof.Machine
end


section
/-! An operation over all zones, zone by zone, and a line hold (R83, R142). -/

namespace Sys2Proof.Machine

/-! ## Over all zones in index order -/

/-- What holds before the zones, and after each zone once it is done, holds after all of them. -/
theorem State.eachZone_induct {s : State} {f : State → Nat → State} (P : Nat → State → Prop) (zero : P 0 s)
    (succ : ∀ k x, k < s.zones.length → P k x → P (k + 1) (f x k)) : P s.zones.length (s.eachZone f) := by
  have upTo : ∀ n ≤ s.zones.length, P n ((List.range n).foldl f s) := by
    intro n hn
    induction n with
    | zero => exact zero
    | succ n ih =>
      rw [List.range_succ, List.foldl_append]
      exact succ n _ hn (ih (Nat.le_of_succ_le hn))
  exact upTo _ (Nat.le_refl _)

/-- The zone controllers once `g` has been done to the first `k` of them. -/
def zonesUpTo (k : Nat) (g : Nat → Zone → Zone) (zones : List Zone) : List Zone :=
  zones.mapIdx fun z a => if z < k then g z a else a

theorem getElem?_zonesUpTo (k : Nat) (g : Nat → Zone → Zone) (zones : List Zone) (z : Nat) :
    (zonesUpTo k g zones)[z]? = zones[z]?.map fun a => if z < k then g z a else a := by
  rw [zonesUpTo, List.getElem?_mapIdx]

theorem zonesUpTo_zero (g : Nat → Zone → Zone) (zones : List Zone) : zonesUpTo 0 g zones = zones := by
  refine List.ext_getElem? fun z => ?_
  rw [getElem?_zonesUpTo]
  simp

theorem zonesUpTo_all (g : Nat → Zone → Zone) (zones : List Zone) : zonesUpTo zones.length g zones = zones.mapIdx g := by
  refine List.ext_getElem? fun z => ?_
  rw [getElem?_zonesUpTo, List.getElem?_mapIdx]
  cases h : zones[z]? with
  | none => rfl
  | some a => simp [(List.getElem?_eq_some_iff.mp h).1]

theorem zonesUpTo_next {k : Nat} {zones : List Zone} {a : Zone} (h : zones[k]? = some a) (g : Nat → Zone → Zone) :
    (zonesUpTo k g zones)[k]? = some a := by
  rw [getElem?_zonesUpTo, h]
  simp

theorem zonesUpTo_succ {k : Nat} {zones : List Zone} {a : Zone} (h : zones[k]? = some a) (g : Nat → Zone → Zone) :
    zonesUpTo (k + 1) g zones = (zonesUpTo k g zones).set k (g k a) := by
  refine List.ext_getElem? fun z => ?_
  by_cases hz : z = k
  · subst hz
    rw [getElem?_set_same (zonesUpTo_next h g), getElem?_zonesUpTo, h]
    simp
  · rw [List.getElem?_set_ne (Ne.symm hz), getElem?_zonesUpTo, getElem?_zonesUpTo]
    have : z < k + 1 ↔ z < k := by omega
    simp only [this]

theorem set_of_getElem? {zones : List Zone} {z : Nat} {a : Zone} (h : zones[z]? = some a) : zones.set z a = zones := by
  obtain ⟨hlt, rfl⟩ := List.getElem?_eq_some_iff.mp h
  exact List.set_getElem_self hlt

/-- An operation that replaces each controller by what `g` makes of it, and writes nothing else. -/
theorem State.eachZone_mapIdx {s : State} {f : State → Nat → State} {g : Nat → Zone → Zone}
    (hf : ∀ zs z a, zs[z]? = some a → f { s with zones := zs } z = { s with zones := zs.set z (g z a) }) :
    s.eachZone f = { s with zones := s.zones.mapIdx g } := by
  have all := State.eachZone_induct (f := f) (fun k x => x = { s with zones := zonesUpTo k g s.zones })
    (by rw [zonesUpTo_zero]) (fun k x hk hx => by
      have here := List.getElem?_eq_getElem hk
      rw [hx, hf _ _ _ (zonesUpTo_next here g), zonesUpTo_succ here])
  rwa [zonesUpTo_all] at all

/-! ## One zone moved (R74, R76) -/

theorem State.grantTest_empty {s : State} (h : s.arbiter.queue = []) : s.grantTest = s := by
  rw [State.grantTest, h]
  rfl

theorem State.moveZone_waiting {s : State} {z : Nat} {a : Zone} (h : s.zones[z]? = some a) (ha : a.state = .waiting)
    (f : Zone → Zone) : s.moveZone z f = { s with
      zones := s.zones.set z (f a), arbiter := { s.arbiter with queue := s.arbiter.queue.filter (· != z) } } := by
  rw [State.moveZone, h]
  dsimp only
  rw [ha, State.modZone_eq h]
  rfl

theorem State.moveZone_ramping {s : State} {z : Nat} {a : Zone} (h : s.zones[z]? = some a) (ha : a.state = .ramping)
    (f : Zone → Zone) : s.moveZone z f = (s.setZones (s.zones.set z (f a))).grantTest := by
  rw [State.moveZone, h]
  dsimp only
  rw [ha, State.modZone_eq h]

theorem State.moveZone_other {s : State} {z : Nat} {a : Zone} (h : s.zones[z]? = some a) (hw : a.state ≠ .waiting)
    (hr : a.state ≠ .ramping) (f : Zone → Zone) : s.moveZone z f = s.setZones (s.zones.set z (f a)) := by
  rw [State.moveZone, h]
  dsimp only
  rw [State.modZone_eq h]
  cases hst : a.state with
  | waiting => exact absurd hst hw
  | ramping => exact absurd hst hr
  | _ => rfl

/-- With no zone waiting a zone leaves its state without a grant. -/
theorem State.moveZone_alone {s : State} {z : Nat} {a : Zone} (h : s.zones[z]? = some a) (hw : a.state ≠ .waiting)
    (empty : s.arbiter.queue = []) (f : Zone → Zone) : s.moveZone z f = s.setZones (s.zones.set z (f a)) := by
  by_cases hr : a.state = .ramping
  · rw [State.moveZone_ramping h hr, State.grantTest_empty (by exact empty)]
  · exact State.moveZone_other h hw hr f

/-! ## A zone at a line hold (R83) -/

/-- What a line hold makes of a moving zone: HOLDING in the mask, purged outside it. -/
def State.heldZone (s : State) (mask : BitVec 10) (z : Nat) (a : Zone) : Zone :=
  if mask.getLsbD z then s.evaluated z { a.enter s.clock .holding with latch := true } else a.enterPurge s.clock s.purgeTicks

theorem State.holdOrPurge_eq {s : State} {z : Nat} {a : Zone} {ar : Arbiter} (h : s.zones[z]? = some a)
    (moves : ∀ f, s.moveZone z f = { s with zones := s.zones.set z (f a), arbiter := ar }) (mask : BitVec 10) :
    s.holdOrPurge mask z = { s with zones := s.zones.set z (s.heldZone mask z a), arbiter := ar } := by
  unfold State.holdOrPurge State.heldZone
  split
  · rw [State.holdZone, moves, State.regulate_eq (by exact getElem?_set_same h)]
    simp only [List.set_set]
    rfl
  · exact moves _

/-- The first round of a hold, zone by zone: the WAITING zones (R142). -/
def State.heldWaiting (s : State) (mask : BitVec 10) (z : Nat) (a : Zone) : Zone :=
  if a.state = .waiting then s.heldZone mask z a else a

/-- A zone without a start pending. -/
def Zone.unstarted (a : Zone) : Zone := { a with startPending := false }

/-- The second round of a hold, zone by zone (R83, R142). -/
def State.heldRest (s : State) (mask : BitVec 10) (z : Nat) (a : Zone) : Zone :=
  match a.state with
  | .ramping | .conditioned | .economy => s.heldZone mask z a
  | .purging => a.unstarted
  | .off | .failed | .waiting | .holding => a

/-- The queue holds the WAITING zones and no other, none beyond the controllers (R74). -/
theorem ArbiterLaw.queue_iff {s : State} (h : ArbiterLaw s) (z : Nat) :
    z ∈ s.arbiter.queue ↔ ∃ a, s.zones[z]? = some a ∧ a.state = .waiting := by
  obtain ⟨-, waits, -⟩ := h
  rw [waits, State.zoneState, Option.map_eq_some_iff]

/-- The queue's zones from `k + 1` on are those from `k` on but for `k` itself. -/
theorem filter_later (queue : List Nat) (k : Nat) :
    (queue.filter fun z => decide (k ≤ z)).filter (· != k) = queue.filter fun z => decide (k + 1 ≤ z) := by
  rw [List.filter_filter]
  refine List.filter_congr fun z _ => ?_
  rw [Bool.eq_iff_iff]
  simp only [Bool.and_eq_true, bne_iff_ne, decide_eq_true_eq]
  omega

/-- The first round of a hold empties the ramp queue, without a grant. -/
theorem State.holdWaiting_round {s : State} (queue : ∀ z, z ∈ s.arbiter.queue ↔ ∃ a, s.zones[z]? = some a ∧ a.state = .waiting)
    (mask : BitVec 10) :
    s.eachZone (State.holdWaiting mask) = { s with
      zones := s.zones.mapIdx (s.heldWaiting mask), arbiter := { s.arbiter with queue := [] } } := by
  have round := State.eachZone_induct (s := s) (f := State.holdWaiting mask) (fun k x => x = { s with
      zones := zonesUpTo k (s.heldWaiting mask) s.zones
      arbiter := { s.arbiter with queue := s.arbiter.queue.filter fun z => decide (k ≤ z) } }) ?zero ?succ
  case zero => simp [zonesUpTo_zero]
  case succ =>
    intro k x hk hx
    have here := List.getElem?_eq_getElem hk
    have next : x.zones[k]? = some s.zones[k] := by
      rw [hx]
      exact zonesUpTo_next here _
    rw [State.holdWaiting, next]
    dsimp only
    rw [zonesUpTo_succ here, ← filter_later, State.heldWaiting]
    by_cases hw : s.zones[k].state = .waiting
    · rw [if_pos hw, if_pos hw, State.holdOrPurge_eq next (State.moveZone_waiting next hw), hx]
      rfl
    · have absent : ∀ z ∈ s.arbiter.queue.filter fun z => decide (k ≤ z), (z != k) = true := by
        intro z hz
        rw [bne_iff_ne]
        rintro rfl
        obtain ⟨a, ha, haw⟩ := (queue z).mp (List.mem_of_mem_filter hz)
        exact hw (Option.some.inj (here.symm.trans ha) ▸ haw)
      rw [if_neg hw, if_neg hw, List.filter_eq_self.mpr absent, set_of_getElem? (zonesUpTo_next here _), hx]
  have gone : (s.arbiter.queue.filter fun z => decide (s.zones.length ≤ z)) = [] := by
    refine List.filter_eq_nil_iff.mpr fun z hz => ?_
    obtain ⟨a, ha, -⟩ := (queue z).mp hz
    have := (List.getElem?_eq_some_iff.mp ha).1
    simpa using this
  rw [round, zonesUpTo_all, gone]

/-- The second round of a hold, with no zone waiting. -/
theorem State.holdRest_round {s : State} (empty : s.arbiter.queue = []) (mask : BitVec 10) :
    s.eachZone (State.holdRest mask) = { s with zones := s.zones.mapIdx (s.heldRest mask) } := by
  refine State.eachZone_mapIdx fun zs z a h => ?_
  have moved (ha : a.state ≠ .waiting) : ({ s with zones := zs } : State).holdOrPurge mask z =
      { s with zones := zs.set z (s.heldZone mask z a) } :=
    State.holdOrPurge_eq (s := { s with zones := zs }) h (fun f => State.moveZone_alone (s := { s with zones := zs }) h ha empty f) mask
  have unmoved : ({ s with zones := zs } : State) = { s with zones := zs.set z a } := by rw [set_of_getElem? h]
  rw [State.holdRest, h, State.heldRest]
  dsimp only
  cases hst : a.state with
  | ramping => exact moved (by simp [hst])
  | conditioned => exact moved (by simp [hst])
  | economy => exact moved (by simp [hst])
  | purging => exact State.modZone_eq (s := { s with zones := zs }) h _
  | _ => exact unmoved

/-- A line hold at the zones: each one by the mask, and the ramp queue emptied without a grant (R83, R142). -/
theorem State.holdZones_eq {s : State} (queue : ∀ z, z ∈ s.arbiter.queue ↔ ∃ a, s.zones[z]? = some a ∧ a.state = .waiting)
    (mask : BitVec 10) :
    s.holdZones mask = { s with
      zones := s.zones.mapIdx fun z a => s.heldRest mask z (s.heldWaiting mask z a)
      arbiter := { s.arbiter with queue := [] } } := by
  rw [State.holdZones, State.holdWaiting_round queue, State.holdRest_round rfl]
  refine congrArg (fun zs => ({ s with zones := zs, arbiter := _ } : State)) ?_
  rw [List.mapIdx_mapIdx]
  rfl

/-! ## What a hold makes of one zone (R83) -/

/-- The outputs of a HOLDING zone follow the hold targets of its copy (R66, R68, R69). -/
theorem Zone.evaluate_holding {a : Zone} {g : Governing} (h : a.state = .holding) (hg : a.governing = some g) (r : Reading) :
    a.evaluate r = { a with
      heat := heatLevel g.entry.holdTemp r.temp a.heat, vent := ventLevel (some g.entry.holdHum) r.hum a.vent } := by
  have targets : a.targets = some (g.entry.holdTemp, some g.entry.holdHum) := by rw [Zone.targets, hg, h]
  rw [Zone.evaluate, h, targets]
  rfl

/-- The evaluation of a zone's outputs against a reading writes its outputs alone. -/
theorem Zone.evaluate_frame (a : Zone) (r : Reading) : ∃ heat vent, a.evaluate r = { a with heat := heat, vent := vent } := by
  unfold Zone.evaluate
  split
  · split
    · exact ⟨_, _, rfl⟩
    · exact ⟨a.heat, a.vent, rfl⟩
  · exact ⟨a.heat, a.vent, rfl⟩

theorem State.evaluated_frame (s : State) (z : Nat) (a : Zone) :
    ∃ heat vent, s.evaluated z a = { a with heat := heat, vent := vent } := by
  unfold State.evaluated
  cases s.seenReading z with
  | none => exact ⟨a.heat, a.vent, rfl⟩
  | some r => exact a.evaluate_frame r

/-- A zone that is blind or has no copy of a profile keeps its outputs (R66, R70). -/
theorem State.evaluated_unseen {s : State} {z : Nat} {a : Zone} (h : s.blind z = true ∨ a.governing = none) : s.evaluated z a = a := by
  unfold State.evaluated State.seenReading
  rcases h with h | h
  · rw [h]
    rfl
  · split
    · rfl
    · cases (s.probe z).reading with
      | none => rfl
      | some r => exact Zone.evaluate_ungoverned h r

theorem State.evaluated_seen {s : State} {z : Nat} {r : Reading} (hb : s.blind z = false) (hr : (s.probe z).reading = some r) (a : Zone) :
    s.evaluated z a = a.evaluate r := by
  rw [State.evaluated, State.seenReading_eq_some.mpr ⟨hb, hr⟩]
  rfl

theorem Zone.enterPurge_purged (now : Word32) (ticks : Nat) (a : Zone) : (a.enterPurge now ticks).purged now ticks := by
  unfold Zone.enterPurge Zone.purged
  split <;> exact ⟨rfl, rfl, rfl, rfl, rfl, rfl, rfl⟩

theorem Zone.enterPurge_keeps (now : Word32) (ticks : Nat) (a : Zone) :
    (a.enterPurge now ticks).governing = a.governing ∧ (a.enterPurge now ticks).latch = a.latch ∧
      (a.enterPurge now ticks).tickTimer = a.tickTimer ∧ (a.enterPurge now ticks).economyTimer = none := by
  unfold Zone.enterPurge
  split <;> exact ⟨rfl, rfl, rfl, rfl⟩

theorem State.purgeTicks_eq {s : State} {l : Layout} (h : s.store.layout = some l) : s.purgeTicks = l.purgeTime * 6000 := by
  rw [State.purgeTicks, h]
  rfl

/-- A moving zone at a line hold (R83). -/
theorem State.heldZone_held {s : State} {l : Layout} (hl : s.store.layout = some l) (mask : BitVec 10) (z : Nat) {a : Zone}
    (ha : a.state.moving) : s.ZoneHeld l mask z a (s.heldZone mask z (a.ticking (l.tickPeriod * 100))) := by
  have moves {st : ZoneState} (h : a.state = st) (hs : ¬ st.moving) : False := hs (h ▸ ha)
  unfold State.heldZone
  refine ⟨fun _ named => ?_, fun _ unnamed => ?_, fun h => (moves h (by simp [ZoneState.moving])).elim, ?_⟩
  · rw [if_pos named]
    refine ⟨?_, fun unseen => ?_, fun g r hg hb hr => ?_⟩
    · obtain ⟨heat, vent, h⟩ := s.evaluated_frame z { (a.ticking (l.tickPeriod * 100)).enter s.clock .holding with latch := true }
      rw [h]
      rfl
    · rw [State.evaluated_unseen (by exact unseen)]
      exact ⟨rfl, rfl⟩
    · rw [State.evaluated_seen hb hr, Zone.evaluate_holding rfl (by exact hg)]
      exact ⟨heatLevel_follows .., ventLevel_follows ..⟩
  · rw [unnamed, if_neg Bool.false_ne_true, State.purgeTicks_eq hl]
    exact ⟨Zone.enterPurge_purged .., Zone.enterPurge_keeps ..⟩
  · rintro (h | h | h)
    all_goals exact (moves h (by simp [ZoneState.moving])).elim

theorem State.heldZone_rests (s : State) (mask : BitVec 10) (z : Nat) (a : Zone) :
    let b := s.heldZone mask z a
    b.state = .holding ∨ b.state = .off ∨ (b.state = .purging ∧ b.startPending = false) := by
  unfold State.heldZone
  split
  · obtain ⟨heat, vent, h⟩ := s.evaluated_frame z { a.enter s.clock .holding with latch := true }
    rw [h]
    exact .inl rfl
  · unfold Zone.enterPurge
    split
    · exact .inr (.inl rfl)
    · exact .inr (.inr ⟨rfl, rfl⟩)

/-- A zone that the first round of a hold moved is left as it is by the second. -/
theorem State.heldRest_heldZone (s : State) (mask : BitVec 10) (z : Nat) (a : Zone) :
    s.heldRest mask z (s.heldZone mask z a) = s.heldZone mask z a := by
  rcases s.heldZone_rests mask z a with h | h | ⟨h, pending⟩
  · rw [State.heldRest, h]
  · rw [State.heldRest, h]
  · rw [State.heldRest, h, Zone.unstarted, ← pending]

/-- Both rounds of a hold at one zone (R83, R142). -/
theorem State.heldRest_held {s : State} {l : Layout} (hl : s.store.layout = some l) (mask : BitVec 10) (z : Nat) (a : Zone) :
    s.ZoneHeld l mask z a (s.heldRest mask z (s.heldWaiting mask z (a.ticking (l.tickPeriod * 100)))) := by
  have held := State.heldZone_held hl mask z (a := a)
  have still {st : ZoneState} (h : a.state = st) (hs : ¬ st.moving) (hp : st ≠ .purging) :
      s.ZoneHeld l mask z a (a.ticking (l.tickPeriod * 100)) :=
    ⟨fun hm => (hs (h ▸ hm)).elim, fun hm => (hs (h ▸ hm)).elim, fun he => (hp (h.symm.trans he)).elim, fun _ => rfl⟩
  by_cases hw : a.state = .waiting
  · rw [State.heldWaiting, Zone.ticking_state, if_pos hw, State.heldRest_heldZone]
    exact held (.inl hw)
  · rw [State.heldWaiting, Zone.ticking_state, if_neg hw, State.heldRest, Zone.ticking_state]
    cases hst : a.state with
    | waiting => exact absurd hst hw
    | ramping => exact held (.inr (.inl hst))
    | conditioned => exact held (.inr (.inr (.inl hst)))
    | economy => exact held (.inr (.inr (.inr hst)))
    | off => exact still hst (by simp [ZoneState.moving]) ZoneState.noConfusion
    | holding => exact still hst (by simp [ZoneState.moving]) ZoneState.noConfusion
    | failed => exact still hst (by simp [ZoneState.moving]) ZoneState.noConfusion
    | purging =>
      refine ⟨fun hm => ?_, fun hm => ?_, fun _ => rfl, fun hs => ?_⟩
      · simp [ZoneState.moving, hst] at hm
      · simp [ZoneState.moving, hst] at hm
      · simp [hst] at hs

/-! ## The line goes to HOLD (R142) -/

/-- The tick timers run on and the economy timers stop where the line enters a state other than RUNNING in which zones tick (R73, R80). -/
theorem State.follow_ticking {s : State} {l : Layout} (hl : s.store.layout = some l) (ticks : s.line.state.ticks = true)
    (still : s.line.state ≠ .running) :
    s.followTicks.followEconomy = { s with zones := s.zones.map (Zone.ticking (l.tickPeriod * 100)) } := by
  have period : s.tickTicks = l.tickPeriod * 100 := by
    rw [State.tickTicks, hl]
    rfl
  rw [State.followEconomy_stopped _ (by exact still), State.followTicks]
  simp only [ticks, if_true, period, State.setZones, List.map_map]
  rfl

/-- The capture unit where the line goes to HOLD from a state in which a hold is taken (R24). -/
theorem State.followCapture_hold {s : State} {old : LineState} (taken : old.holdable = true) (hold : s.line.state = .hold) :
    s.followCapture old = s.setCapture (if old = .starting then { s.capture with state := .idle } else s.capture) := by
  rw [State.followCapture, hold]
  cases old with
  | starting => rfl
  | running => rfl
  | runOut => rfl
  | _ => cases taken

theorem State.changeLine_hold {s : State} {l : Layout} (hl : s.store.layout = some l) (taken : s.line.state.holdable = true) :
    s.changeLine .hold = { s with
      line := LineState.entered .hold s.clock
      capture := if s.line.state = .starting then { s.capture with state := .idle } else s.capture
      preSeq := s.preSeq.held s.clock
      mainSeq := s.mainSeq.held s.clock
      zones := s.zones.map (Zone.ticking (l.tickPeriod * 100))
      notices := s.notices.occurred .lineState s.clock 5 } := by
  unfold State.changeLine
  dsimp only
  rw [State.followCapture_hold taken rfl, State.followChain_held _ .pre rfl, State.followChain_held _ .main rfl,
    State.follow_ticking (by exact hl) rfl LineState.noConfusion]
  rfl

/-- A line hold, from every state in which one is taken (R83, R142). -/
theorem State.holdLine_heldBy {s : State} {l : Layout} (hl : s.store.layout = some l) (law : ArbiterLaw s)
    (taken : s.line.state.holdable = true) (mask : BitVec 10) (origin : HoldOrigin) :
    HeldBy s (s.holdLine mask origin) l mask origin ∧ (s.holdLine mask origin).link = s.link := by
  have ticking (z : Nat) : z ∈ s.arbiter.queue ↔
      ∃ a, (s.zones.map (Zone.ticking (l.tickPeriod * 100)))[z]? = some a ∧ a.state = .waiting := by
    rw [law.queue_iff, List.getElem?_map]
    cases s.zones[z]? <;> simp
  unfold State.holdLine
  dsimp only
  rw [State.changeLine_hold hl taken, State.holdZones_eq (by exact ticking)]
  refine ⟨⟨rfl, ?_, fun z a b ha hb => ?_⟩, rfl⟩
  · simp [State.setLine]
  · have ticks : (s.zones.map (Zone.ticking (l.tickPeriod * 100)))[z]? = some (a.ticking (l.tickPeriod * 100)) := by
      rw [List.getElem?_map, ha]
      rfl
    simp only [State.setLine, List.getElem?_mapIdx, ticks, Option.map_some, Option.some.injEq] at hb
    rw [← hb]
    exact State.heldRest_held hl mask z a

/-! ## The step timeout (R57, R144) -/

theorem State.stepTimeout_other {s : State} {c : Chain} (h : (s.seq c).state ≠ .stepping) : s.stepTimeout c = s := if_neg h

/-- The chain after its step timeout, with the notice, before any hold (R57). -/
def State.timedOut (s : State) (c : Chain) : State :=
  (s.setSeq c { (s.seq c).enter s.clock .jammed with lateApplied := false }).raiseNat .chainJam (chainCode c)

theorem State.stepTimeout_stepping {s : State} {c : Chain} (h : (s.seq c).state = .stepping) :
    s.stepTimeout c = if s.line.state.steps then (s.timedOut c).holdLine (s.timedOut c).defaultMask (.jam c) else s.timedOut c := if_pos h

theorem LineState.steps_iff {l : LineState} : l.steps = true ↔ l = .running ∨ l = .runOut := by
  cases l <;> simp [LineState.steps]

theorem State.defaultMask_eq {s : State} {l : Layout} (h : s.store.layout = some l) : s.defaultMask = BitVec.ofNat 10 l.defaultMask := by
  rw [State.defaultMask, h]

theorem State.timedOut_eq (s : State) (c : Chain) : s.timedOut c = { s.setSeq c { s.seq c with
      state := .jammed, entered := s.clock, intervalTimer := none, stepTimer := none, blockedTimer := none, lateApplied := false } with
    notices := s.notices.occurred .chainJam s.clock (BitVec.ofNat 32 (chainCode c)) } := by
  cases c <;> rfl

/-- Settles O35: by the chain state, then by whether the line allows steps, where the hold of `State.holdLine_heldBy` follows. -/
theorem stepTimeoutJamsTheChain : Obligations.StepTimeoutJamsTheChain := by
  intro s c l hl jammed raised
  have run : exec (.stepTimeout c) s = .next (s.stepTimeout c) := rfl
  have out : s.timedOut c = raised := s.timedOut_eq c
  refine ⟨fun other => ?_, fun stepping still halted => ?_, fun law stepping steps => ?_⟩
  · rw [run, State.stepTimeout_other other]
  · rw [run, State.stepTimeout_stepping stepping, if_neg fun h => (LineState.steps_iff.mp h).elim still halted, out]
  · have layout : raised.store.layout = some l := (congrArg Store.layout (State.setSeq_store ..)).trans hl
    have line : raised.line = s.line := State.setSeq_line ..
    have lawful : ArbiterLaw raised := by cases c <;> exact law
    have taken : raised.line.state.holdable = true := LineState.holdable_of_steps (line ▸ LineState.steps_iff.mpr steps)
    rw [run, State.stepTimeout_stepping stepping, if_pos (LineState.steps_iff.mpr steps), out, State.defaultMask_eq layout]
    obtain ⟨held, link⟩ := State.holdLine_heldBy layout lawful taken (BitVec.ofNat 10 l.defaultMask) (.jam c)
    exact ⟨_, rfl, held, link.trans (State.setSeq_link ..)⟩

end Sys2Proof.Machine
end


section
/-! Zones that leave their states while others are granted, and the purges of a run-out (R75, R76, R86). -/

namespace Sys2Proof.Machine

/-! ## Zones moved, with the ramp queue kept to those that wait -/

/-- `t` is `s` after its zones have moved: nothing but zones and arbiter differ, the zones as `holds` says, and the ramp queue has lost the
zones that wait no longer (R74). -/
def State.Moved (s t : State) (holds : Nat → Zone → Zone → Prop) : Prop :=
  t = { s with zones := t.zones, arbiter := t.arbiter } ∧ EachZone s.zones t.zones holds ∧
  t.arbiter.queue = s.arbiter.queue.filter fun z => t.zoneState z == some .waiting

theorem State.QueueWaits.zoneState {s : State} (h : s.QueueWaits) {z : Nat} (hz : z ∈ s.arbiter.queue) :
    s.zoneState z = some .waiting := by
  obtain ⟨-, waits⟩ := h
  obtain ⟨a, ha, hw⟩ := waits z hz
  rw [State.zoneState, ha, Option.map_some, hw]

theorem ArbiterLaw.queueWaits {s : State} (h : ArbiterLaw s) : s.QueueWaits := by
  obtain ⟨nodup, waits, -⟩ := h
  exact ⟨nodup, fun z hz => State.zoneState_eq_some ((waits z).mp hz)⟩

theorem State.Moved.queueWaits {s t : State} {holds : Nat → Zone → Zone → Prop} (h : s.Moved t holds) (hq : s.QueueWaits) :
    t.QueueWaits := by
  obtain ⟨-, -, queue⟩ := h
  obtain ⟨nodup, -⟩ := hq
  rw [State.QueueWaits, queue]
  refine ⟨nodup.filter _, fun z hz => State.zoneState_eq_some ?_⟩
  simpa using (List.mem_filter.mp hz).2

theorem State.Moved.refl {s : State} (hq : s.QueueWaits) {holds : Nat → Zone → Zone → Prop} (same : ∀ z a, holds z a a) :
    s.Moved s holds := by
  refine ⟨rfl, ⟨rfl, fun z a b ha hb => ?_⟩, (List.filter_eq_self.mpr fun z hz => ?_).symm⟩
  · cases ha.symm.trans hb
    exact same z a
  · rw [hq.zoneState hz]
    rfl

/-- Two moves in a row, of which the second lets no zone begin to wait. -/
theorem State.Moved.trans {s t u : State} {f g h : Nat → Zone → Zone → Prop} (hf : s.Moved t f) (hg : t.Moved u g)
    (both : ∀ z a b c, f z a b → g z b c → h z a c) (leaves : ∀ z b c, g z b c → c.state = .waiting → b.state = .waiting) :
    s.Moved u h := by
  obtain ⟨frame, zones, queue⟩ := hf
  obtain ⟨frame', zones', queue'⟩ := hg
  refine ⟨?_, zones.trans zones' fun z a b c _ => both z a b c, ?_⟩
  · rw [frame', frame]
  · rw [queue', queue, List.filter_filter]
    refine List.filter_congr fun z _ => ?_
    rw [Bool.eq_iff_iff, Bool.and_eq_true, and_iff_left_iff_imp, beq_iff_eq, beq_iff_eq]
    intro waits
    obtain ⟨c, hc, hw⟩ := State.zoneState_eq_some waits
    obtain ⟨len, zones'⟩ := zones'
    have hb := List.getElem?_eq_getElem (len ▸ (List.getElem?_eq_some_iff.mp hc).1)
    rw [State.zoneState, hb, Option.map_some, leaves z _ c (zones' z _ c hb hc) hw]

/-- The grants of one event move each zone to RAMPING or leave it (R75). -/
theorem State.grantTest_moved {s : State} {l : Layout} (hl : s.store.layout = some l) (hq : s.QueueWaits) :
    s.Moved s.grantTest fun z a b => b = a ∨ s.Granted l z a b := by
  obtain ⟨zs, loop, zones⟩ := State.grantLoop_spec hl hq (Nat.le_refl _) rfl
  generalize s.arbiter.grants l (l.rampSlots - s.slotsInUse) s.arbiter.queue.length = k at loop zones
  rw [State.grantTest, loop]
  have each : EachZone s.zones zs fun z a b => b = a ∨ s.Granted l z a b := by
    refine ⟨zones.1, fun z a b ha hb => ?_⟩
    obtain ⟨stays, moves⟩ := zones.2 z a b ha hb
    by_cases hz : z ∈ s.arbiter.queue.take k
    · exact .inr (moves hz)
    · exact .inl (stays hz)
  have rest : (s.arbiter.granting l s.clock s.arbiter.queue k).queue = s.arbiter.queue.drop k := by cases k <;> rfl
  refine ⟨rfl, each, rest.trans ?_⟩
  obtain ⟨nodup, waits⟩ := hq
  have parts := List.take_append_drop k s.arbiter.queue
  have disjoint : ∀ z ∈ s.arbiter.queue.drop k, z ∉ s.arbiter.queue.take k := fun z hd ht =>
    List.disjoint_of_nodup_append (parts.symm ▸ nodup) ht hd
  have after {z : Nat} (hz : z ∈ s.arbiter.queue) : ∃ a b, s.zones[z]? = some a ∧ a.state = .waiting ∧ zs[z]? = some b ∧
      s.AfterGrants l s.arbiter.queue k z a b := by
    obtain ⟨a, ha, hw⟩ := waits z hz
    have hb := List.getElem?_eq_getElem (zones.1 ▸ (List.getElem?_eq_some_iff.mp ha).1 : z < zs.length)
    exact ⟨a, _, ha, hw, hb, zones.2 z a _ ha hb⟩
  have gone : (s.arbiter.queue.take k).filter (fun z => (zs[z]?).map (·.state) == some .waiting) = [] := by
    refine List.filter_eq_nil_iff.mpr fun z hz => ?_
    obtain ⟨a, b, -, -, hb, -, moves⟩ := after (List.mem_of_mem_take hz)
    simp [hb, (moves hz).state]
  have left : (s.arbiter.queue.drop k).filter (fun z => (zs[z]?).map (·.state) == some .waiting) = s.arbiter.queue.drop k := by
    refine List.filter_eq_self.mpr fun z hz => ?_
    obtain ⟨a, b, -, hw, hb, stays, -⟩ := after (List.mem_of_mem_drop hz)
    simp [hb, stays (disjoint z hz), hw]
  show _ = s.arbiter.queue.filter fun z => (zs[z]?).map (·.state) == some .waiting
  conv_rhs => rw [← parts, List.filter_append, gone, left, List.nil_append]

theorem EachZone.of_set_eq {zones : List Zone} {z : Nat} {a b : Zone} (h : zones[z]? = some a) :
    EachZone zones (zones.set z b) fun y x x' => (y = z → x = a ∧ x' = b) ∧ (y ≠ z → x' = x) :=
  .of_set (fun _ hx => ⟨fun _ => ⟨Option.some.inj (hx.symm.trans h), rfl⟩, fun hy => absurd rfl hy⟩)
    fun _ _ hy => ⟨fun h => absurd h hy, fun _ => rfl⟩

theorem State.QueueWaits.ne {s : State} (hq : s.QueueWaits) {z y : Nat} {a : Zone} (h : s.zones[z]? = some a) (ha : a.state ≠ .waiting)
    (hy : y ∈ s.arbiter.queue) : z ≠ y := by
  rintro rfl
  have waits := hq.zoneState hy
  rw [State.zoneState, h, Option.map_some, Option.some.injEq] at waits
  exact ha waits

/-- A controller that does not wait replaced by another: no zone leaves the queue. -/
theorem State.set_moved {s : State} (hq : s.QueueWaits) {z : Nat} {a b : Zone} (h : s.zones[z]? = some a) (ha : a.state ≠ .waiting) :
    s.Moved (s.setZones (s.zones.set z b)) fun y x x' => (y = z → x = a ∧ x' = b) ∧ (y ≠ z → x' = x) := by
  refine ⟨rfl, .of_set_eq h, (List.filter_eq_self.mpr fun y hy => ?_).symm⟩
  show ((s.zones.set z b)[y]?.map _ == some _) = true
  rw [List.getElem?_set_ne (hq.ne h ha hy), ← State.zoneState, hq.zoneState hy]
  rfl

/-- A WAITING zone that stops waiting leaves the queue, no slot is released. -/
theorem State.leaveQueue_moved {s : State} (hq : s.QueueWaits) {z : Nat} {a b : Zone} (h : s.zones[z]? = some a) (hb : b.state ≠ .waiting) :
    s.Moved { s with zones := s.zones.set z b, arbiter := { s.arbiter with queue := s.arbiter.queue.filter (· != z) } }
      fun y x x' => (y = z → x = a ∧ x' = b) ∧ (y ≠ z → x' = x) := by
  refine ⟨rfl, .of_set_eq h, List.filter_congr fun y hy => ?_⟩
  show (y != z) = ((s.zones.set z b)[y]?.map _ == some _)
  by_cases hyz : y = z
  · subst hyz
    rw [getElem?_set_same h]
    simp [hb]
  · rw [List.getElem?_set_ne (Ne.symm hyz), ← State.zoneState, hq.zoneState hy]
    simp [hyz]

/-- What a zone's leaving of its state does to the controllers: its own is `b`, another may be granted the slot released (R76). -/
def State.Left (s : State) (l : Layout) (z : Nat) (a b : Zone) (y : Nat) (x x' : Zone) : Prop :=
  (y = z → x = a ∧ x' = b) ∧ (y ≠ z → x' = x ∨ s.Granted l y x x')

theorem State.Left.of_set {s : State} {l : Layout} {z y : Nat} {a b x x' : Zone} (h : (y = z → x = a ∧ x' = b) ∧ (y ≠ z → x' = x)) :
    s.Left l z a b y x x' := ⟨h.1, fun hy => .inl (h.2 hy)⟩

theorem EachZone.imp {as bs : List Zone} {f g : Nat → Zone → Zone → Prop} (h : EachZone as bs f) (hg : ∀ z a b, f z a b → g z a b) :
    EachZone as bs g := ⟨h.1, fun z a b ha hb => hg z a b (h.2 z a b ha hb)⟩

theorem State.Moved.imp {s t : State} {f g : Nat → Zone → Zone → Prop} (h : s.Moved t f) (hg : ∀ z a b, f z a b → g z a b) :
    s.Moved t g := by
  obtain ⟨frame, zones, queue⟩ := h
  exact ⟨frame, zones.imp hg, queue⟩

/-- A zone leaves its state for one that does not wait (R76). -/
theorem State.moveZone_moved {s : State} {l : Layout} (hl : s.store.layout = some l) (hq : s.QueueWaits) {z : Nat} {a : Zone}
    (h : s.zones[z]? = some a) {f : Zone → Zone} (hf : (f a).state ≠ .waiting) :
    s.Moved (s.moveZone z f) (s.Left l z a (f a)) := by
  by_cases hw : a.state = .waiting
  · rw [State.moveZone_waiting h hw]
    exact (State.leaveQueue_moved hq h hf).imp fun _ _ _ => .of_set
  · have replaced := State.set_moved (b := f a) hq h hw
    by_cases hr : a.state = .ramping
    · rw [State.moveZone_ramping h hr]
      refine replaced.trans (State.grantTest_moved (s := s.setZones (s.zones.set z (f a))) hl (replaced.queueWaits hq)) ?both ?leaves
      case both =>
        rintro y x x' x'' ⟨here, there⟩ after
        refine ⟨fun hy => ?_, fun hy => ?_⟩
        · obtain ⟨hx, rfl⟩ := here hy
          refine ⟨hx, after.resolve_right fun granted => hf granted.1⟩
        · cases there hy
          exact after
      case leaves =>
        rintro y x x' (rfl | granted) waits
        · exact waits
        · exact granted.1
    · rw [State.moveZone_other h hw hr]
      exact replaced.imp fun _ _ _ => .of_set

/-! ## The purges of a run-out (R86) -/

theorem ZoneState.runsOut_iff {st : ZoneState} : st.runsOut = true ↔ st.moving := by
  cases st <;> simp [ZoneState.runsOut, ZoneState.moving]

/-- `b` is the zone `a` purged now, its copy, latch and tick timer kept (R87). -/
def State.Purged (s : State) (a b : Zone) : Prop :=
  b.purged s.clock s.purgeTicks ∧ b.governing = a.governing ∧ b.latch = a.latch ∧ b.tickTimer = a.tickTimer ∧ b.economyTimer = none

theorem Zone.purged.rests {now : Word32} {ticks : Nat} {b : Zone} (h : b.purged now ticks) : b.state = .off ∨ b.state = .purging := by
  obtain ⟨-, -, -, -, h⟩ := h
  split at h
  · exact .inl h.1
  · exact .inr h.1

theorem Zone.purged.not_moving {now : Word32} {ticks : Nat} {b : Zone} (h : b.purged now ticks) : ¬ b.state.moving := by
  rcases h.rests with h | h <;> simp [ZoneState.moving, h]

/-- What the run-out conditions of the zones below `k` do to zone z: a moving one whose condition holds is purged, any other one stays or
is granted a slot released (R75, R86). -/
def State.RunsOut (s : State) (l : Layout) (k z : Nat) (a b : Zone) : Prop :=
  (z < k ∧ a.state.moving ∧ s.runOutCondition z = true → s.Purged a b) ∧
  (¬ (z < k ∧ a.state.moving ∧ s.runOutCondition z = true) → b = a ∨ s.Granted l z a b)

theorem State.Granted.moving {s : State} {l : Layout} {z : Nat} {a b : Zone} (h : s.Granted l z a b) :
    a.state.moving ∧ b.state.moving := ⟨.inl h.1, .inr (.inl h.state)⟩

theorem Zone.enterPurge_Purged (s : State) {a b : Zone} (hg : b.governing = a.governing) (hl : b.latch = a.latch)
    (ht : b.tickTimer = a.tickTimer) : s.Purged a (b.enterPurge s.clock s.purgeTicks) := by
  obtain ⟨governing, latch, tick, economy⟩ := b.enterPurge_keeps s.clock s.purgeTicks
  exact ⟨b.enterPurge_purged .., governing.trans hg, latch.trans hl, tick.trans ht, economy⟩

/-- The run-out condition of zone k is tested after those of the zones below it. -/
theorem State.RunsOut.next {s : State} {l : Layout} {k z : Nat} {a b : Zone} (h : s.RunsOut l k z a b)
    (hk : z = k → ¬ (a.state.moving ∧ s.runOutCondition z = true)) : s.RunsOut l (k + 1) z a b := by
  obtain ⟨purges, stays⟩ := h
  have same : (z < k + 1 ∧ a.state.moving ∧ s.runOutCondition z = true) ↔ (z < k ∧ a.state.moving ∧ s.runOutCondition z = true) := by
    refine ⟨fun ⟨hz, due⟩ => ⟨?_, due⟩, fun ⟨hz, due⟩ => ⟨Nat.lt_succ_of_lt hz, due⟩⟩
    exact Nat.lt_of_le_of_ne (Nat.lt_succ_iff.mp hz) fun he => hk he due
  rw [State.RunsOut, same]
  exact ⟨purges, stays⟩

theorem State.RunsOut.granted {s : State} {l : Layout} {k z : Nat} {a b c : Zone} (h : s.RunsOut l k z a b)
    (hc : c = b ∨ s.Granted l z b c) : s.RunsOut l k z a c := by
  rcases hc with rfl | granted
  · exact h
  · obtain ⟨purges, stays⟩ := h
    refine ⟨fun due => absurd granted.moving.1 (purges due).1.not_moving, fun due => ?_⟩
    rcases stays due with rfl | before
    · exact .inr granted
    · exact nomatch before.state.symm.trans granted.1

theorem Zone.enterPurge_not_waiting (now : Word32) (ticks : Nat) (b : Zone) : (b.enterPurge now ticks).state ≠ .waiting := by
  rcases (b.enterPurge_purged now ticks).rests with h | h <;> rw [h] <;> exact ZoneState.noConfusion

/-- Zone k, whose turn it is, is purged, where it may have been granted a slot before. -/
theorem State.RunsOut.purge {s : State} {l : Layout} {k z : Nat} {a b b' c : Zone} (h : s.RunsOut l k z a b') (moving : b.state.moving)
    (due : s.runOutCondition k = true) (left : s.Left l k b (b.enterPurge s.clock s.purgeTicks) z b' c) : s.RunsOut l (k + 1) z a c := by
  obtain ⟨here, there⟩ := left
  by_cases hz : z = k
  · obtain ⟨rfl, rfl⟩ := here hz
    subst hz
    obtain ⟨-, stays⟩ := h
    have before := stays fun h => Nat.lt_irrefl z h.1
    have moved : a.state.moving := by
      rcases before with rfl | granted
      · exact moving
      · exact granted.moving.1
    refine ⟨fun _ => ?_, fun n => absurd ⟨Nat.lt_succ_self z, moved, due⟩ n⟩
    rcases before with rfl | ⟨-, granted, -⟩
    · exact Zone.enterPurge_Purged s rfl rfl rfl
    · exact Zone.enterPurge_Purged s (by rw [granted]) (by rw [granted]) (by rw [granted])
  · exact (h.granted (there hz)).next fun he => absurd he hz

theorem State.runOutZone_due {s : State} {z : Nat} {a : Zone} (h : s.zones[z]? = some a) (runOut : s.line.state = .runOut)
    (moving : a.state.moving) (due : s.runOutCondition z = true) : s.runOutZone z = s.moveZone z (Zone.enterPurge s.clock s.purgeTicks) := by
  rw [State.runOutZone, h]
  exact if_pos ⟨runOut, ZoneState.runsOut_iff.mpr moving, due⟩

theorem State.runOutZone_stays {s : State} {z : Nat} {a : Zone} (h : s.zones[z]? = some a)
    (stays : ¬ (a.state.moving ∧ s.runOutCondition z = true)) : s.runOutZone z = s := by
  rw [State.runOutZone, h]
  exact if_neg fun ⟨_, moving, due⟩ => stays ⟨ZoneState.runsOut_iff.mp moving, due⟩

theorem EachZone.of_lt {as bs : List Zone} {f : Nat → Zone → Zone → Prop} (h : EachZone as bs f) {z : Nat} (hz : z < as.length) :
    ∃ a b, as[z]? = some a ∧ bs[z]? = some b ∧ f z a b := by
  obtain ⟨len, each⟩ := h
  have ha := List.getElem?_eq_getElem hz
  have hb := List.getElem?_eq_getElem (len ▸ hz)
  exact ⟨_, _, ha, hb, each z _ _ ha hb⟩

/-- Zones that have moved leave all that a run-out condition, a purge and a grant read (R75, R86, R87). -/
theorem State.Moved.reads {s t : State} {holds : Nat → Zone → Zone → Prop} (h : s.Moved t holds) :
    t.line = s.line ∧ t.store = s.store ∧ t.clock = s.clock ∧ t.purgeTicks = s.purgeTicks ∧ t.runOutCondition = s.runOutCondition ∧
      t.Granted = s.Granted := by
  obtain ⟨frame, -⟩ := h
  rw [frame]
  exact ⟨rfl, rfl, rfl, rfl, rfl, rfl⟩

/-- What the run-out conditions of all zones do to zone z (R75, R86). -/
def State.RanOut (s : State) (l : Layout) (z : Nat) (a b : Zone) : Prop :=
  (a.state.moving ∧ s.runOutCondition z = true → s.Purged a b) ∧
  (¬ (a.state.moving ∧ s.runOutCondition z = true) → b = a ∨ s.Granted l z a b)

theorem State.RanOut.leaves {s : State} {l : Layout} {z : Nat} {a b : Zone} (h : s.RanOut l z a b) (waits : b.state = .waiting) :
    a.state = .waiting := by
  obtain ⟨purges, stays⟩ := h
  by_cases due : a.state.moving ∧ s.runOutCondition z = true
  · obtain ⟨purged, -⟩ := purges due
    exact absurd (.inl waits) purged.not_moving
  · rcases stays due with rfl | granted
    · exact waits
    · exact nomatch waits.symm.trans granted.state

/-- A zone that was granted before the run-out conditions are tested. -/
theorem State.RanOut.of_granted {s : State} {l : Layout} {z : Nat} {a b c : Zone} (h : s.RanOut l z b c)
    (hb : b = a ∨ s.Granted l z a b) : s.RanOut l z a c := by
  rcases hb with rfl | granted
  · exact h
  · obtain ⟨purges, stays⟩ := h
    have moving := iff_of_true granted.moving.1 granted.moving.2
    obtain ⟨governing, latch, -⟩ := granted.kept
    have tick : b.tickTimer = a.tickTimer := by rw [granted.2.1]
    refine ⟨fun due => ?_, fun rests => ?_⟩
    · obtain ⟨purged, governing', latch', tick', economy⟩ := purges ⟨moving.mp due.1, due.2⟩
      exact ⟨purged, governing'.trans governing, latch'.trans latch, tick'.trans tick, economy⟩
    · rcases stays fun due => rests ⟨moving.mpr due.1, due.2⟩ with rfl | again
      · exact .inr granted
      · exact nomatch again.1.symm.trans granted.state

/-- The run-out conditions of the zones below each zone in turn (R86). -/
theorem State.runOutZone_rounds {s : State} {l : Layout} (hl : s.store.layout = some l) (hq : s.QueueWaits)
    (runOut : s.line.state = .runOut) : s.Moved (s.eachZone State.runOutZone) (s.RunsOut l s.zones.length) := by
  refine State.eachZone_induct (fun k x => s.Moved x (s.RunsOut l k)) ?zero fun k x hk hx => ?succ
  case zero => exact .refl hq fun z a => ⟨fun h => absurd h.1 (Nat.not_lt_zero z), fun _ => .inl rfl⟩
  case succ =>
    obtain ⟨line, store, clock, purge, condition, granted⟩ := hx.reads
    have ⟨_, zones, _⟩ := hx
    obtain ⟨a, b, ha, hb, -, stays⟩ := zones.of_lt hk
    have before := stays fun h => Nat.lt_irrefl k h.1
    have same : b.state.moving ↔ a.state.moving := by
      rcases before with rfl | granted
      · rfl
      · exact iff_of_true granted.moving.2 granted.moving.1
    by_cases due : b.state.moving ∧ s.runOutCondition k = true
    · obtain ⟨moving, due⟩ := due
      have moved := State.moveZone_moved (l := l) (by rw [store]; exact hl) (hx.queueWaits hq) hb
        (Zone.enterPurge_not_waiting x.clock x.purgeTicks b)
      rw [State.runOutZone_due hb (line ▸ runOut) moving (condition ▸ due)]
      refine hx.trans moved (fun z a' b' c h left => h.purge moving due ?_) ?leaves
      · rw [clock, purge] at left
        unfold State.Left at left ⊢
        rwa [granted] at left
      case leaves =>
        rintro z b' c ⟨here, there⟩ waits
        by_cases hz : z = k
        · obtain ⟨-, rfl⟩ := here hz
          exact absurd waits (Zone.enterPurge_not_waiting _ _ _)
        · rcases there hz with rfl | granted
          · exact waits
          · exact granted.1
    · rw [State.runOutZone_stays hb (condition ▸ due)]
      obtain ⟨frame, -, queue⟩ := hx
      refine ⟨frame, ⟨zones.1, fun z a' b' ha' hb' => (zones.2 z a' b' ha' hb').next ?_⟩, queue⟩
      rintro rfl
      cases ha.symm.trans ha'
      rwa [← same]

/-- The run-out conditions of all zones, in index order (R86). -/
theorem State.runOutZone_round {s : State} {l : Layout} (hl : s.store.layout = some l) (hq : s.QueueWaits)
    (runOut : s.line.state = .runOut) : s.Moved (s.eachZone State.runOutZone) (s.RanOut l) := by
  obtain ⟨frame, ⟨len, zones⟩, queue⟩ := State.runOutZone_rounds hl hq runOut
  refine ⟨frame, ⟨len, fun z a b ha hb => ?_⟩, queue⟩
  have hz := (List.getElem?_eq_some_iff.mp ha).1
  obtain ⟨purges, stays⟩ := zones z a b ha hb
  exact ⟨fun due => purges ⟨hz, due⟩, fun rests => stays fun due => rests due.2⟩

end Sys2Proof.Machine
end


section
/-! LINE RUN-OUT (R50, R86, R125, R146). -/

namespace Sys2Proof.Machine

/-! ## Closing the OPEN lot (R125, R127) -/

/-- A lot that is closed. -/
def Lot.shut (l : Lot) : Lot := { l with state := .closed }

theorem State.closeOpenLot_none {s : State} (h : s.openSlot = none) : s.closeOpenLot = s := by
  rw [State.closeOpenLot, h]

theorem State.closeOpenLot_some {s : State} {slot : Nat} {lot : Lot} (h : s.openSlot = some slot) (hl : s.lot slot = some lot) :
    s.closeOpenLot = if lot.inTrain = 0 then (s.setLots (s.lots.set slot (some lot.shut))).drainLot slot lot.shut
      else s.setLots (s.lots.set slot (some lot.shut)) := by
  have closed : (s.setLots (s.lots.set slot (some lot.shut))).lot slot = some lot.shut := State.lot_set_same hl rfl
  have shut : s.modLot slot (fun l => { l with state := .closed }) = s.setLots (s.lots.set slot (some lot.shut)) := State.modLot_eq hl _
  rw [State.closeOpenLot, h]
  dsimp only
  rw [shut, State.drainCheck, closed]
  simp [Lot.shut]

theorem modify_set_same {α : Type} (xs : List α) (i : Nat) (f : α → α) (x : α) : (xs.modify i f).set i x = xs.set i x := by
  refine List.ext_getElem? fun j => ?_
  by_cases h : i = j
  · subst h
    simp [List.getElem?_set]
  · simp [h]

/-- An offered report finds in the lot table, and writes there, the slot of the lot it names alone (R186). -/
theorem State.offerReport_setLots (s : State) (lots : List (Option Lot)) (body : ReportBody) (slot : Nat) (id : Word32) :
    ∃ lots', (s.setLots lots).offerReport body (some slot) id = (s.offerReport body (some slot) id).setLots lots' ∧
      lots'.set slot none = lots.set slot none := by
  have room : (s.setLots lots).reports = s.reports := rfl
  unfold State.offerReport
  rw [room]
  split
  · refine ⟨lots, ?_, rfl⟩
    unfold State.joinReport
    dsimp only
    rw [apply_ite (State.setLots · lots)]
    rfl
  · exact ⟨_, rfl, modify_set_same ..⟩

theorem State.drainLot_setLots {s : State} {slot : Nat} {lot lot' : Lot} :
    (s.setLots (s.lots.set slot (some lot'))).drainLot slot lot =
      let q := s.offerReport (.lotSummary slot lot s.clock) (some slot) lot.id
      { s with
        lots := s.lots.set slot none, reports := q.reports, notices := q.notices.occurred .lotDrained s.clock lot.id } := by
  obtain ⟨lots, offered, freed⟩ := s.offerReport_setLots (s.lots.set slot (some lot')) (.lotSummary slot lot s.clock) slot lot.id
  obtain ⟨ls, q, n, frame⟩ := s.offerReport_frame (.lotSummary slot lot s.clock) (some slot) lot.id
  have clock : (s.setLots (s.lots.set slot (some lot'))).clock = s.clock := rfl
  rw [List.set_set] at freed
  rw [State.drainLot, clock, offered, frame]
  dsimp only
  rw [← freed]
  rfl

/-! ## The line goes to RUN_OUT (R50, R132) -/

theorem State.followChain_runOut {s : State} (h : s.line.state = .runOut) (c : Chain) :
    s.followChain c = s.setSeq c (if s.emptyUpTo c then (s.seq c).held s.clock else s.seq c) := by
  have kept : s = s.setSeq c (s.seq c) := by cases c <;> rfl
  have follows : s.followChain c = s.runOutChain c := by rw [State.followChain, h]
  rw [follows, State.runOutChain]
  by_cases empty : s.emptyUpTo c = true
  · rw [if_pos empty, Sequencer.held]
    by_cases waits : (s.seq c).state = .idle ∨ (s.seq c).state = .blocked
    · rw [if_pos ⟨waits, empty⟩, if_pos waits]
      rfl
    · rw [if_neg fun h => waits h.1, if_neg waits]
      exact kept
  · rw [if_neg fun h => empty h.2, if_neg empty]
    exact kept

theorem State.changeLine_runOut {s : State} {l : Layout} (hl : s.store.layout = some l) (running : s.line.state = .running) :
    s.changeLine .runOut = { s with
      line := LineState.entered .runOut s.clock
      preSeq := if s.emptyUpTo .pre then s.preSeq.held s.clock else s.preSeq
      mainSeq := if s.trainEmpty then s.mainSeq.held s.clock else s.mainSeq
      zones := s.zones.map (Zone.ticking (l.tickPeriod * 100))
      notices := s.notices.occurred .lineState s.clock 6 } := by
  have capture : (s.setLine (Line.enter s.clock .runOut)).followCapture s.line.state = s.setLine (Line.enter s.clock .runOut) := by
    rw [State.followCapture, running]
    rfl
  unfold State.changeLine
  dsimp only
  rw [capture, State.followChain_runOut rfl .pre, State.followChain_runOut rfl .main, State.follow_ticking (by exact hl) rfl LineState.noConfusion]
  rfl

/-! ## The run-out condition (R86) -/

theorem allGaps_take {ps : List (Option Word32)} {n : Nat} :
    allGaps (ps.take n) = true ↔ ∀ p m, ps[p]? = some (some m) → n ≤ p := by
  rw [allGaps_iff]
  refine ⟨fun gaps p m here => Nat.le_of_not_lt fun hp => ?_, fun beyond x hx => ?_⟩
  · have := gaps (some m) (List.mem_of_getElem? (by rw [List.getElem?_take_of_lt hp, here]))
    cases this
  · obtain ⟨p, hp⟩ := List.mem_iff_getElem?.mp hx
    rw [List.getElem?_take] at hp
    split at hp
    · cases x with
      | none => rfl
      | some m => exact absurd (beyond p m hp) (by omega)
    · cases hp

theorem rodCount_eq_zero {ps : List (Option Word32)} : rodCount ps = 0 ↔ allGaps ps = true := by
  rw [allGaps_iff, rodCount, List.countP_eq_zero]
  simp

/-- The positions before a zone and its own are the chain's first ones. -/
theorem allGaps_zone {ps : List (Option Word32)} {first size : Nat} :
    allGaps (ps.take first) = true ∧ allGaps ((ps.drop first).take size) = true ↔ allGaps (ps.take (first + size)) = true := by
  rw [List.take_add, allGaps, allGaps, allGaps, List.all_append, Bool.and_eq_true]

theorem State.runOutCondition_iff {s : State} {l : Layout} (hl : s.store.layout = some l) (z : Nat) :
    s.runOutCondition z = true ↔
      s.capture.latch = none ∧ s.landing = [] ∧ (l.preZones ≤ z + 1 → s.buffer = []) ∧
      (l.preZones ≤ z → ∀ x ∈ s.preChain, x = none) ∧
      ∀ p n, (s.positions (l.zoneChain z))[p]? = some (some n) → l.zoneFirst z + l.zoneSize z ≤ p := by
  have holds : s.zoneHolds z = false ↔
      allGaps (s.zonePositions l z) = true ∧ (z + 1 = l.preZones → s.buffer = []) := by
    rw [State.zoneHolds, State.zoneRods, hl, ← rodCount_eq_zero]
    simp
  rw [State.runOutCondition, hl]
  dsimp only
  rw [Bool.and_eq_true, Bool.not_eq_true', holds, State.upstreamEmpty, ← allGaps_take, ← allGaps_zone, State.zonePositions]
  by_cases hz : z < l.preZones
  · have chain : l.zoneChain z = .pre := if_pos hz
    have last : z + 1 = l.preZones ↔ l.preZones ≤ z + 1 := by omega
    simp only [chain, last, State.positions, Bool.and_eq_true, Option.isNone_iff_eq_none, List.isEmpty_iff, Nat.not_le.mpr hz]
    tauto
  · have chain : l.zoneChain z = .main := if_neg hz
    have first : ¬ z + 1 = l.preZones := by omega
    have past : l.preZones ≤ z + 1 := by omega
    simp only [chain, first, past, State.positions, Bool.and_eq_true, Option.isNone_iff_eq_none, List.isEmpty_iff,
      Nat.not_lt.mp hz, ← allGaps_iff]
    tauto

/-! ## The request (R146) -/

/-- The state in which LINE RUN-OUT tests the zones: the OPEN lot closed, the line in RUN_OUT (R146). -/
def State.runningOut (s : State) : State := s.closeOpenLot.changeLine .runOut

/-- The state after LINE RUN-OUT, before the test of its completion (R146, R147). -/
def State.ranOut (s : State) : State := s.runningOut.eachZone State.runOutZone

theorem exec_lineRunOut {s : State} (running : s.line.state = .running) (hp : s.preSeq.state ≠ .jammed) (hm : s.mainSeq.state ≠ .jammed) :
    exec .lineRunOut s = .next { s.ranOut.settled with
      link := s.ranOut.settled.link.prepared 0x13 .ok (spell [(1, s.ranOut.settled.line.state.code), (4, s.openLotId.toNat)]) } := by
  have notInit : s.line.state ≠ .init := by rw [running]; exact LineState.noConfusion
  have op : lineRunOutOp s = (s.ranOut.settled, .ok (spell [(1, s.ranOut.settled.line.state.code), (4, s.openLotId.toNat)])) := by
    have done : s.runOutLine = s.ranOut.settled := State.settle_eq _
    rw [lineRunOutOp, if_neg (not_ne_iff.mpr running), if_neg (not_or.mpr ⟨hp, hm⟩)]
    dsimp only
    rw [done, spell_cons, spell_cons]
    simp [spell, State.lineCodeByte, be32]
  show Host.Outcome.next (s.serve 0x13 lineRunOutOp) = _
  rw [s.serve_ready _ _ notInit, op]
  rfl

theorem State.settled_link (s : State) : s.settled.link = s.link := by
  unfold State.settled
  split <;> rfl

theorem State.runningOut_eq {s : State} {l : Layout} (hl : s.store.layout = some l) (running : s.line.state = .running) :
    s.runningOut = { s with
      line := LineState.entered .runOut s.clock
      preSeq := if s.emptyUpTo .pre then s.preSeq.held s.clock else s.preSeq
      mainSeq := if s.trainEmpty then s.mainSeq.held s.clock else s.mainSeq
      zones := s.zones.map (Zone.ticking (l.tickPeriod * 100))
      lots := s.closeOpenLot.lots
      reports := s.closeOpenLot.reports
      notices := s.closeOpenLot.notices.occurred .lineState s.clock 6 } := by
  obtain ⟨lots, reports, notices, closed⟩ := s.closeOpenLot_frame
  rw [State.runningOut, closed, State.changeLine_runOut (by exact hl) (by exact running)]
  rfl

/-- The state after LINE RUN-OUT in terms of the one before it and of the closing of the OPEN lot. -/
theorem State.ranOut_spec {s : State} {l : Layout} (law : ArbiterLaw s) (hl : s.store.layout = some l) (running : s.line.state = .running) :
    s.ranOut = { s with
      line := LineState.entered .runOut s.clock
      preSeq := if s.emptyUpTo .pre then s.preSeq.held s.clock else s.preSeq
      mainSeq := if s.trainEmpty then s.mainSeq.held s.clock else s.mainSeq
      zones := s.ranOut.zones
      arbiter := { s.ranOut.arbiter with queue := s.arbiter.queue.filter fun z => s.ranOut.zoneState z == some .waiting }
      lots := s.closeOpenLot.lots
      reports := s.closeOpenLot.reports
      notices := s.closeOpenLot.notices.occurred .lineState s.clock 6 } ∧
    EachZone s.zones s.ranOut.zones fun z a b => s.RanOut l z (a.ticking (l.tickPeriod * 100)) b := by
  have before := State.runningOut_eq hl running
  have ran : s.ranOut = s.runningOut.eachZone State.runOutZone := rfl
  generalize s.ranOut = u at ran ⊢
  generalize s.runningOut = w at before ran
  obtain ⟨nodup, waits⟩ := law.queueWaits
  have kept {z : Nat} {a : Zone} (ha : s.zones[z]? = some a) : w.zones[z]? = some (a.ticking (l.tickPeriod * 100)) := by
    rw [before, List.getElem?_map, ha]
    rfl
  have arbiter : w.arbiter = s.arbiter := by rw [before]
  have queueWaits : w.QueueWaits := by
    rw [State.QueueWaits, arbiter]
    refine ⟨nodup, fun z hz => ?_⟩
    obtain ⟨a, ha, hw⟩ := waits z hz
    exact ⟨_, kept ha, hw⟩
  obtain ⟨frame, ⟨len, zones⟩, queue⟩ := State.runOutZone_round (l := l) (by rw [before]; exact hl) queueWaits (by rw [before]; rfl)
  rw [← ran] at frame len zones queue
  refine ⟨?_, ?_, fun z a b ha hb => ?_⟩
  · have filtered : u.arbiter.queue = s.arbiter.queue.filter fun z => u.zoneState z == some .waiting := by rw [queue, arbiter]
    rw [← filtered]
    refine frame.trans ?_
    rw [before]
  · rw [len, before, List.length_map]
  · have ranOut := zones z _ b (kept ha) hb
    rw [before] at ranOut
    exact ranOut

/-- Settles O18: the closing of the OPEN lot, the change of the line state, and the run-out conditions of the zones. -/
theorem lineRunOutClosesTheLot : Obligations.LineRunOutClosesTheLot := by
  intro s l law hl running hp hm
  obtain ⟨frame, zones⟩ := State.ranOut_spec law hl running
  have lots : s.ranOut.lots = s.closeOpenLot.lots := (congrArg State.lots frame :)
  have reports : s.ranOut.reports = s.closeOpenLot.reports := (congrArg State.reports frame :)
  have notices : s.ranOut.notices = s.closeOpenLot.notices.occurred .lineState s.clock 6 := congrArg State.notices frame
  have link : s.ranOut.settled.link = s.link := s.ranOut.settled_link.trans (congrArg State.link frame :)
  have run := exec_lineRunOut running hp hm
  rw [link] at run
  obtain ⟨code, id, -⟩ := holds_spell [(1, s.ranOut.settled.line.state.code), (4, s.openLotId.toNat)]
  refine ⟨State.runOutCondition_iff hl, s.ranOut, _, run, spell_length _, code, id, ?_, fun slot lot ho hlot => ⟨fun some => ?_, fun none => ?_⟩,
    fun ho => ?_, zones.imp fun z a b after => ?_⟩
  · rw [lots, reports, notices]
    exact frame
  · rw [lots, reports, notices, State.closeOpenLot_some ho hlot, if_neg (Nat.ne_of_gt some)]
    exact ⟨rfl, rfl, rfl⟩
  · rw [lots, reports, notices, State.closeOpenLot_some ho hlot, if_pos none, State.drainLot_setLots]
    exact ⟨rfl, rfl, rfl⟩
  · rw [lots, reports, notices, State.closeOpenLot_none ho]
    exact ⟨rfl, rfl, rfl⟩
  · obtain ⟨purges, stays⟩ := after
    by_cases due : a.state.moving ∧ s.runOutCondition z = true
    · obtain ⟨purged, governing, latch, -⟩ := purges due
      exact ⟨governing, latch, fun _ _ => purged, fun rests => absurd due rests⟩
    · have kept : b.governing = a.governing ∧ b.latch = a.latch := by
        rcases stays due with rfl | granted
        · exact ⟨rfl, rfl⟩
        · obtain ⟨governing, latch, -⟩ := granted.kept
          exact ⟨governing, latch⟩
      exact ⟨kept.1, kept.2, fun moving condition => absurd ⟨moving, condition⟩ due, stays⟩

end Sys2Proof.Machine
end


section
/-! The zones' hand-offs after a shift (R56): adoption, economy timers, wakes. -/

namespace Sys2Proof.Machine

/-! ## Adoption (R66, R72, R88) -/

theorem Zone.inBand_iff {a : Zone} {g : Governing} (hg : a.governing = some g) (latches : a.state = .conditioned ∨ a.state = .holding)
    (r : Reading) : a.inBand r = true ↔ g.entry.InBand a.state r := by
  have about (t : Int) (h : Nat) : inBandOf g.entry.tempBand g.entry.humBand (t, h) r = true ↔ g.entry.About t h r := by
    simp only [inBandOf, ZoneEntry.About, Bool.and_eq_true, decide_eq_true_eq]
    omega
  rcases latches with h | h
  · have targets : a.targets = some (g.entry.workTemp, some g.entry.workHum) := by rw [Zone.targets, hg, h]
    rw [Zone.inBand, hg, targets, h]
    exact about ..
  · have targets : a.targets = some (g.entry.holdTemp, some g.entry.holdHum) := by rw [Zone.targets, hg, h]
    rw [Zone.inBand, hg, targets, h]
    exact about ..

/-- The evaluation of a zone's outputs against the targets of its copy (R66, R68, R69). -/
theorem Zone.evaluate_regulates {a : Zone} {g : Governing} (hg : a.governing = some g) (r : Reading) :
    g.entry.Regulates a.state r a.heat a.vent (a.evaluate r).heat (a.evaluate r).vent := by
  have still (h : a.state.regulates = false) : (a.evaluate r).heat = a.heat ∧ (a.evaluate r).vent = a.vent := by
    rw [Zone.evaluate, h]
    exact ⟨rfl, rfl⟩
  have follows {t : Int} {h : Option Nat} (regulates : a.state.regulates = true) (targets : a.targets = some (t, h)) :
      (a.evaluate r).heat = heatLevel t r.temp a.heat ∧ (a.evaluate r).vent = ventLevel h r.hum a.vent := by
    rw [Zone.evaluate, if_pos regulates, targets]
    exact ⟨rfl, rfl⟩
  cases hst : a.state with
  | ramping | conditioned =>
    obtain ⟨heat, vent⟩ := follows (by rw [hst]; rfl) (by rw [Zone.targets, hg, hst])
    rw [heat, vent]
    exact ⟨heatLevel_follows .., ventLevel_follows ..⟩
  | holding =>
    obtain ⟨heat, vent⟩ := follows (by rw [hst]; rfl) (by rw [Zone.targets, hg, hst])
    rw [heat, vent]
    exact ⟨heatLevel_follows .., ventLevel_follows ..⟩
  | economy =>
    obtain ⟨heat, vent⟩ := follows (by rw [hst]; rfl) (by rw [Zone.targets, hg, hst])
    rw [heat, vent]
    exact ⟨heatLevel_follows .., rfl⟩
  | off | waiting | purging | failed => exact still (by rw [hst]; rfl)

/-- A zone's latch after the band test of a reading (R72). -/
def Zone.bandTested (a : Zone) (r : Reading) : Zone := if a.state.latches && !a.inBand r then { a with latch := false } else a

/-- A zone after it took a copy of a profile's entry (R66, R72, R88). -/
def State.retargeted (s : State) (z : Nat) (g : Governing) (a : Zone) : Zone :=
  let b := s.evaluated z { a with governing := some g }
  (s.seenReading z).elim b b.bandTested

/-- The notices after a zone's latch may have dropped (R72). -/
def NoticeUnit.bandLost (n : NoticeUnit) (now : Word32) (z : Nat) (a b : Zone) : NoticeUnit :=
  if a.latch && !b.latch then n.occurred .bandLost now (BitVec.ofNat 32 z) else n

theorem State.bandTest_eq {s : State} {z : Nat} {a : Zone} (h : s.zones[z]? = some a) (r : Reading) :
    s.bandTest z r = { s with
      zones := s.zones.set z (a.bandTested r), notices := s.notices.bandLost s.clock z a (a.bandTested r) } := by
  unfold State.bandTest State.dropLatch Zone.bandTested NoticeUnit.bandLost
  rw [h]
  dsimp only
  split
  · split
    · rename_i latch
      rw [State.modZone_eq h]
      simp [latch]
      rfl
    · rename_i latch
      have low : ({ a with latch := false } : Zone) = a := by
        have : a.latch = false := by simpa using latch
        rw [← this]
      rw [low, set_of_getElem? h]
      simp [latch]
  · rw [set_of_getElem? h]
    simp

theorem State.retest_eq (s : State) (z : Nat) : s.retest z = (s.seenReading z).elim s (s.bandTest z) := by
  unfold State.retest State.seenReading State.blind
  cases s.probeFresh z with
  | false => rfl
  | true => cases (s.probe z).reading <;> rfl

theorem State.evaluated_latch (s : State) (z : Nat) (a : Zone) : (s.evaluated z a).latch = a.latch := by
  obtain ⟨heat, vent, h⟩ := s.evaluated_frame z a
  rw [h]

theorem State.retarget_eq {s : State} {z : Nat} {a : Zone} (h : s.zones[z]? = some a) (g : Governing) :
    s.retarget z g = { s with
      zones := s.zones.set z (s.retargeted z g a), notices := s.notices.bandLost s.clock z a (s.retargeted z g a) } := by
  have latch : (s.evaluated z { a with governing := some g }).latch = a.latch := s.evaluated_latch z _
  have regulated : (s.modZone z fun zn => { zn with governing := some g }).regulate z =
      s.setZones (s.zones.set z (s.evaluated z { a with governing := some g })) := by
    rw [State.modZone_eq h, State.regulate_eq (by exact getElem?_set_same h)]
    simp only [State.setZones_zones, List.set_set]
    rfl
  have seen (zs : List Zone) : (s.setZones zs).seenReading z = s.seenReading z := rfl
  rw [State.retarget, regulated, State.retest_eq, seen, State.retargeted]
  generalize s.evaluated z { a with governing := some g } = b at latch ⊢
  cases s.seenReading z with
  | none => simp [NoticeUnit.bandLost, latch, State.setZones]
  | some r =>
    rw [Option.elim_some, Option.elim_some, State.bandTest_eq (by exact getElem?_set_same h)]
    simp only [State.setZones_zones, List.set_set, NoticeUnit.bandLost, latch]
    rfl

theorem Zone.bandTested_frame (a : Zone) (r : Reading) : ∃ latch, a.bandTested r = { a with latch := latch } := by
  unfold Zone.bandTested
  split
  · exact ⟨_, rfl⟩
  · exact ⟨a.latch, rfl⟩

/-- The band test drops the latch of a CONDITIONED or HOLDING zone for a reading out of band, and leaves every other one (R72). -/
theorem Zone.bandTested_latch {a : Zone} {g : Governing} (hg : a.governing = some g) (r : Reading) :
    (a.state = .conditioned ∨ a.state = .holding →
      (g.entry.InBand a.state r → (a.bandTested r).latch = a.latch) ∧ (¬ g.entry.InBand a.state r → (a.bandTested r).latch = false)) ∧
    (a.state ≠ .conditioned → a.state ≠ .holding → (a.bandTested r).latch = a.latch) := by
  unfold Zone.bandTested
  refine ⟨fun latches => ?_, fun hc hh => ?_⟩
  · have keeps : a.state.latches = true := by rcases latches with h | h <;> rw [h] <;> rfl
    rw [← Zone.inBand_iff hg latches, keeps]
    cases a.inBand r <;> simp
  · have keeps : a.state.latches = false := by
      cases hst : a.state with
      | conditioned => exact absurd hst hc
      | holding => exact absurd hst hh
      | _ => rfl
    rw [keeps]
    rfl

theorem State.retargeted_takesCopy (s : State) (z : Nat) (g : Governing) (a : Zone) : s.TakesCopy z g a (s.retargeted z g a) := by
  obtain ⟨heat, vent, frame⟩ := s.evaluated_frame z { a with governing := some g }
  refine ⟨?_, fun blind => ?_, fun r sees reading => ?_⟩
  · unfold State.retargeted
    rw [frame]
    dsimp only
    cases s.seenReading z with
    | none => rfl
    | some r =>
      obtain ⟨latch, frame⟩ := Zone.bandTested_frame { a with governing := some g, heat := heat, vent := vent } r
      rw [Option.elim_some, frame]
  · have unseen : s.seenReading z = none := if_pos blind
    rw [State.retargeted, unseen, State.evaluated_unseen (.inl blind)]
    exact ⟨rfl, rfl, rfl⟩
  · have seen : s.seenReading z = some r := State.seenReading_eq_some.mpr ⟨sees, reading⟩
    have outputs := Zone.evaluate_regulates (a := { a with governing := some g }) rfl r
    rw [State.evaluated_seen sees reading] at frame
    rw [frame] at outputs
    rw [State.retargeted, seen, State.evaluated_seen sees reading, frame, Option.elim_some]
    obtain ⟨latch, kept⟩ := Zone.bandTested_frame { a with governing := some g, heat := heat, vent := vent } r
    refine ⟨?_, Zone.bandTested_latch (a := { a with governing := some g, heat := heat, vent := vent }) rfl r⟩
    rw [kept]
    exact outputs

/-- The copy that zone z takes at a shift of chain c, none where it adopts nothing (R88). -/
def State.adoption (s : State) (c : Chain) (l : Layout) (z : Nat) (a : Zone) : Option Governing :=
  if l.zoneChain z = c then
    ((s.firstRodOf l z).bind s.profileOfRod).bind fun p =>
      if a.governing.map (·.profile) = some p then none else (s.entryOf p z).map fun e => { profile := p, entry := e }
  else none

theorem State.adoption_eq_some {s : State} {c : Chain} {l : Layout} {z : Nat} {a : Zone} {g : Governing} :
    s.adoption c l z a = some g ↔ s.Adopts c l z a g := by
  have entry {p : Nat} {e : ZoneEntry} : s.entryOf p z = some e ↔ ∃ prof, s.profile p = some prof ∧ prof.zones[z]? = some e :=
    Option.bind_eq_some_iff
  have first {p : Nat} : (s.firstRodOf l z).bind s.profileOfRod = some p ↔ ∃ n r lot,
      (s.positions (l.zoneChain z))[l.zoneFirst z]? = some (some n) ∧ s.rod n = some r ∧ s.lot r.lotSlot = some lot ∧ lot.profile = p := by
    simp only [Option.bind_eq_some_iff, State.firstRodOf, State.profileOfRod, State.rodProfileNumber, Option.join_eq_some_iff,
      Option.map_eq_some_iff]
    constructor
    · rintro ⟨n, hn, r, hr, lot, hlot, hp⟩
      exact ⟨n, r, lot, hn, hr, hlot, hp⟩
    · rintro ⟨n, r, lot, hn, hr, hlot, hp⟩
      exact ⟨n, hn, r, hr, lot, hlot, hp⟩
  unfold State.adoption State.Adopts
  by_cases chain : l.zoneChain z = c
  · rw [if_pos chain, Option.bind_eq_some_iff]
    constructor
    · rintro ⟨p, hp, take⟩
      obtain ⟨n, r, lot, hn, hr, hlot, rfl⟩ := first.mp hp
      rw [Option.ite_none_left_eq_some] at take
      obtain ⟨differs, take⟩ := take
      obtain ⟨e, he, rfl⟩ := Option.map_eq_some_iff.mp take
      obtain ⟨prof, hprof, hz⟩ := entry.mp he
      exact ⟨chain, differs, n, r, lot, prof, chain ▸ hn, hr, hlot, rfl, hprof, hz⟩
    · rintro ⟨-, differs, n, r, lot, prof, hn, hr, hlot, hp, hprof, hz⟩
      refine ⟨g.profile, first.mpr ⟨n, r, lot, chain ▸ hn, hr, hlot, hp⟩, ?_⟩
      rw [Option.ite_none_left_eq_some]
      exact ⟨differs, Option.map_eq_some_iff.mpr ⟨g.entry, entry.mpr ⟨prof, hprof, hz⟩, rfl⟩⟩
  · rw [if_neg chain]
    exact ⟨nofun, fun h => absurd h.1 chain⟩

/-- A zone after the adoption at a shift of chain c. -/
def State.adopted (s : State) (c : Chain) (l : Layout) (z : Nat) (a : Zone) : Zone :=
  (s.adoption c l z a).elim a fun g => s.retargeted z g a

theorem NoticeUnit.bandLost_same (n : NoticeUnit) (now : Word32) (z : Nat) (a : Zone) : n.bandLost now z a a = n := by
  simp [NoticeUnit.bandLost]

theorem State.adopt_eq {s : State} {l : Layout} (hl : s.store.layout = some l) (c : Chain) {z : Nat} {a : Zone} (h : s.zones[z]? = some a) :
    State.adopt c s z = { s with
      zones := s.zones.set z (s.adopted c l z a), notices := s.notices.bandLost s.clock z a (s.adopted c l z a) } := by
  have decided : State.adopt c s z = (s.adoption c l z a).elim s (s.retarget z) := by
    rw [State.adopt, hl, h]
    unfold State.adoption
    dsimp only
    split
    · cases (s.firstRodOf l z).bind s.profileOfRod with
      | none => rfl
      | some p =>
        dsimp only [Option.bind_some]
        split
        · rfl
        · cases s.entryOf p z <;> rfl
    · rfl
  rw [decided, State.adopted]
  cases s.adoption c l z a with
  | none => simp [NoticeUnit.bandLost_same, set_of_getElem? h]
  | some g => exact State.retarget_eq h g

theorem State.adopted_takesCopy {s : State} {c : Chain} {l : Layout} {z : Nat} {a : Zone} :
    (∀ g, s.Adopts c l z a g → s.TakesCopy z g a (s.adopted c l z a)) ∧ ((∀ g, ¬ s.Adopts c l z a g) → s.adopted c l z a = a) := by
  unfold State.adopted
  refine ⟨fun g adopts => ?_, fun never => ?_⟩
  · rw [State.adoption_eq_some.mpr adopts]
    exact s.retargeted_takesCopy z g a
  · rw [Option.eq_none_iff_forall_ne_some.mpr fun g hg => never g (State.adoption_eq_some.mp hg)]
    rfl

/-! ## BAND_LOST over all zones (R72) -/

/-- The notices after zone z's latch may have dropped. -/
def NoticeUnit.lostAt (now : Word32) (before after : List Zone) (n : NoticeUnit) (z : Nat) : NoticeUnit :=
  match before[z]?, after[z]? with
  | some a, some b => n.bandLost now z a b
  | _, _ => n

theorem foldl_zipIdx {α β : Type} (f : β → α × Nat → β) (xs : List α) (b : β) :
    xs.zipIdx.foldl f b = (List.range xs.length).foldl (fun b i => (xs[i]?).elim b fun x => f b (x, i)) b := by
  induction xs using List.reverseRecOn generalizing b with
  | nil => rfl
  | append_singleton xs x ih =>
    rw [List.zipIdx_append, List.foldl_append, ih, List.length_append, List.length_singleton, List.range_succ, List.foldl_append]
    have before : (List.range xs.length).foldl (fun b i => ((xs ++ [x])[i]?).elim b fun x => f b (x, i)) b =
        (List.range xs.length).foldl (fun b i => (xs[i]?).elim b fun x => f b (x, i)) b :=
      List.foldl_ext _ _ _ fun b i hi => by rw [List.getElem?_append_left (List.mem_range.mp hi)]
    rw [before]
    simp

theorem NoticeUnit.bandLosts_eq (n : NoticeUnit) (now : Word32) (before after : List Zone) :
    n.bandLosts now before after = (List.range (before.zip after).length).foldl (NoticeUnit.lostAt now before after) n := by
  rw [NoticeUnit.bandLosts, List.foldl_filter, foldl_zipIdx]
  refine List.foldl_ext _ _ _ fun m z hz => ?_
  rw [NoticeUnit.lostAt, List.zip, List.getElem?_zipWith]
  cases before[z]? <;> cases after[z]? <;> rfl

/-- The notices of the dropped latches read the latches alone. -/
theorem NoticeUnit.bandLosts_congr (n : NoticeUnit) (now : Word32) {before after after' : List Zone}
    (same : EachZone after after' fun _ a b => b.latch = a.latch) : n.bandLosts now before after' = n.bandLosts now before after := by
  obtain ⟨len, same⟩ := same
  rw [NoticeUnit.bandLosts_eq, NoticeUnit.bandLosts_eq, List.length_zip, List.length_zip, len]
  refine List.foldl_ext _ _ _ fun m z hz => ?_
  have inside : z < after.length := Nat.lt_of_lt_of_le (List.mem_range.mp hz) (Nat.min_le_right ..)
  have ha := List.getElem?_eq_getElem inside
  have hb := List.getElem?_eq_getElem (len ▸ inside)
  have latch : after'[z].latch = after[z].latch := same z _ _ ha hb
  rw [NoticeUnit.lostAt, NoticeUnit.lostAt, ha, hb]
  cases before[z]? with
  | none => rfl
  | some a => simp only [NoticeUnit.bandLost, latch]

/-! ## The round of adoptions -/

theorem State.adopt_round {s : State} {l : Layout} (hl : s.store.layout = some l) (c : Chain) :
    s.eachZone (State.adopt c) = { s with
      zones := s.zones.mapIdx (s.adopted c l)
      notices := s.notices.bandLosts s.clock s.zones (s.zones.mapIdx (s.adopted c l)) } := by
  have round := State.eachZone_induct (s := s) (f := State.adopt c) (fun k x => x = { s with
      zones := zonesUpTo k (s.adopted c l) s.zones
      notices := (List.range k).foldl (NoticeUnit.lostAt s.clock s.zones (s.zones.mapIdx (s.adopted c l))) s.notices }) ?zero ?succ
  case zero => simp [zonesUpTo_zero]
  case succ =>
    intro k x hk hx
    have here := List.getElem?_eq_getElem hk
    have after : (s.zones.mapIdx (s.adopted c l))[k]? = some (s.adopted c l k s.zones[k]) := by
      rw [List.getElem?_mapIdx, here]
      rfl
    have next : x.zones[k]? = some s.zones[k] := by
      rw [hx]
      exact zonesUpTo_next here _
    rw [State.adopt_eq (by rw [hx]; exact hl) c next, zonesUpTo_succ here, List.range_succ, List.foldl_append, List.foldl_cons, List.foldl_nil,
      NoticeUnit.lostAt, here, after, hx]
    rfl
  rw [round, zonesUpTo_all, NoticeUnit.bandLosts_eq]
  simp

end Sys2Proof.Machine
end


section
/-! The wakes of a hand-off and their grants (R74, R75, R80, R82). -/

namespace Sys2Proof.Machine

/-! ## A grant and a zone that joins the queue behind it (R74, R75) -/

theorem State.grant_queue (s : State) (l : Layout) (z : Nat) : (s.grant l z).arbiter.queue = s.arbiter.queue.tail := by
  unfold State.grant
  obtain ⟨zs, h⟩ := State.regulate_frame ((s.setArbiter
    { queue := s.arbiter.queue.tail, granted := true, lastGrant := s.clock, spacing := l.spacingStart }).modZone z
      fun zn => zn.ramped s.clock (minuteTicks l.rampLimit)) z
  rw [h]
  rfl

/-- After a grant the test is made again (R75). -/
theorem State.grantTest_grants {s : State} {l : Layout} {z : Nat} {rest : List Nat} (h : s.canGrant = true)
    (hl : s.store.layout = some l) (hq : s.arbiter.queue = z :: rest) : s.grantTest = (s.grant l z).grantTest := by
  rw [State.grantTest, State.grantTest, State.grant_queue, hq, List.length_cons, State.grantLoop_grants h hl hq]
  rfl

theorem State.grantTest_still {s : State} (h : s.canGrant = false) : s.grantTest = s := State.grantLoop_still h _

/-- A grant leaves the rest of the queue waiting. -/
theorem State.grant_queueWaits {s : State} {l : Layout} {z : Nat} {rest : List Nat} (hq : s.QueueWaits)
    (hqueue : s.arbiter.queue = z :: rest) : (s.grant l z).QueueWaits := by
  obtain ⟨nodup, waits⟩ := hq
  obtain ⟨a, ha, -⟩ := waits z (hqueue ▸ List.mem_cons_self)
  have queue : (s.grant l z).arbiter.queue = rest := by rw [State.grant_queue, hqueue, List.tail_cons]
  obtain ⟨fresh, nodup⟩ := List.nodup_cons.mp (hqueue ▸ nodup)
  refine ⟨queue ▸ nodup, fun y hy => ?_⟩
  rw [queue] at hy
  obtain ⟨c, hc, hw⟩ := waits y (hqueue ▸ List.mem_cons_of_mem _ hy)
  rw [State.grant_eq ha]
  exact ⟨c, (List.getElem?_set_ne fun he : z = y => fresh (he ▸ hy)).trans hc, hw⟩

theorem State.joined_canGrant {s : State} {l : Layout} {z : Nat} {a : Zone} (hl : s.store.layout = some l) (hz : s.zones[z]? = some a)
    (ha : a.state = .economy) (h : s.canGrant = true) : (s.joined z a).canGrant = true := by
  obtain ⟨-, free, spacing⟩ := (State.canGrant_iff hl).mp h
  refine (State.canGrant_iff (by exact hl)).mpr ⟨by simp [State.joined], ?_, spacing⟩
  rw [State.joined_slotsInUse hz ha]
  exact free

/-- The head of the queue is granted alike whether or not a zone joins the queue's tail. -/
theorem State.joined_grant {s : State} {l : Layout} {z y : Nat} {a b : Zone} (hy : s.zones[y]? = some b) (ne : y ≠ z)
    (nonempty : s.arbiter.queue ≠ []) : (s.joined z a).grant l y = (s.grant l y).joined z a := by
  have hy' : (s.joined z a).zones[y]? = some b := (List.getElem?_set_ne ne.symm).trans hy
  rw [State.grant_eq hy, State.grant_eq hy']
  unfold State.joined
  dsimp only
  rw [List.set_comm _ _ ne, List.tail_append_of_ne_nil nonempty]
  rfl

/-- A grant test before a zone joins the queue is lost in the one after it: the grants of one event do not depend on how often the
condition is tested (R75). -/
theorem State.grantTest_joined {l : Layout} {z : Nat} {a : Zone} (ha : a.state = .economy) {n : Nat} {s : State}
    (hn : s.arbiter.queue.length = n) (hl : s.store.layout = some l) (hq : s.QueueWaits) (hz : s.zones[z]? = some a) :
    (s.grantTest.joined z a).grantTest = (s.joined z a).grantTest := by
  induction n generalizing s with
  | zero => rw [State.grantTest_empty (List.length_eq_zero_iff.mp hn)]
  | succ n ih =>
    cases can : s.canGrant with
    | false => rw [State.grantTest_still can]
    | true =>
      obtain ⟨y, rest, hqueue⟩ := List.exists_cons_of_length_eq_add_one hn
      obtain ⟨b, hy, hw⟩ := hq.2 y (hqueue ▸ List.mem_cons_self)
      have ne : y ≠ z := by
        rintro rfl
        cases hy.symm.trans hz
        exact nomatch hw.symm.trans ha
      have next : (s.grant l y).arbiter.queue.length = n := by
        rw [State.grant_queue, List.length_tail, hn]
        rfl
      have store : (s.grant l y).store = s.store := by rw [State.grant_eq hy]
      have here : (s.grant l y).zones[z]? = some a := by
        rw [State.grant_eq hy]
        exact (List.getElem?_set_ne ne).trans hz
      have joined : (s.joined z a).arbiter.queue = y :: (rest ++ [z]) := by
        show s.arbiter.queue ++ [z] = _
        rw [hqueue, List.cons_append]
      rw [State.grantTest_grants can hl hqueue, ih next (by rw [store]; exact hl) (State.grant_queueWaits hq hqueue) here,
        State.grantTest_grants (State.joined_canGrant hl hz ha can) (by exact hl) joined,
        State.joined_grant hy ne (by rw [hqueue]; exact List.cons_ne_nil _ _)]

/-! ## The wakes of all zones (R82) -/

/-- Zone z sleeps and its wake condition holds (R82). -/
def State.wakes (s : State) (z : Nat) : Bool := s.zoneState z == some .economy && s.wakeCondition z

/-- A zone once its own wake condition has been tested: WAITING where it wakes. -/
def State.waked (s : State) (z : Nat) (a : Zone) : Zone :=
  if a.state = .economy ∧ s.wakeCondition z = true then a.enterCold s.clock .waiting else a

/-- The woken ones of the first `k` zones, in index order. -/
def State.wokenUpTo (s : State) (k : Nat) : List Nat := (List.range k).filter s.wakes

/-- The state with the woken ones of the first `k` zones in the ramp queue, before any grant. -/
def State.awoken (s : State) (k : Nat) : State :=
  { s with zones := zonesUpTo k s.waked s.zones, arbiter := { s.arbiter with queue := s.arbiter.queue ++ s.wokenUpTo k } }

theorem State.wakes_iff {s : State} {z : Nat} {a : Zone} (h : s.zones[z]? = some a) :
    s.wakes z = true ↔ a.state = .economy ∧ s.wakeCondition z = true := by
  simp [State.wakes, State.zoneState, h]

theorem State.wokenUpTo_succ (s : State) (k : Nat) : s.wokenUpTo (k + 1) = s.wokenUpTo k ++ (if s.wakes k then [k] else []) := by
  rw [State.wokenUpTo, List.range_succ, List.filter_append, List.filter_singleton]
  cases s.wakes k <;> rfl

theorem State.awoken_next {s : State} {k : Nat} {a : Zone} (h : s.zones[k]? = some a) : (s.awoken k).zones[k]? = some a :=
  zonesUpTo_next h _

theorem State.awoken_zero (s : State) : s.awoken 0 = s := by
  simp [State.awoken, State.wokenUpTo, zonesUpTo_zero]

theorem State.awoken_wakes {s : State} {k : Nat} {a : Zone} (h : s.zones[k]? = some a) (wakes : s.wakes k = true) :
    s.awoken (k + 1) = (s.awoken k).joined k a := by
  have waked : s.waked k a = a.enterCold s.clock .waiting := if_pos ((State.wakes_iff h).mp wakes)
  rw [State.awoken, zonesUpTo_succ h, State.wokenUpTo_succ, if_pos wakes, ← List.append_assoc, waked]
  rfl

theorem State.awoken_stays {s : State} {k : Nat} {a : Zone} (h : s.zones[k]? = some a) (stays : ¬ s.wakes k = true) :
    s.awoken (k + 1) = s.awoken k := by
  have waked : s.waked k a = a := if_neg (mt (State.wakes_iff h).mpr stays)
  rw [State.awoken, zonesUpTo_succ h, State.wokenUpTo_succ, if_neg stays, List.append_nil, waked, set_of_getElem? (zonesUpTo_next h _)]
  rfl

/-- A zone that joins the queue behind those that wait waits too; no law but the queue's own is needed. -/
theorem State.QueueWaits.joined {s : State} (hq : s.QueueWaits) {z : Nat} {a : Zone} (hz : s.zones[z]? = some a) (ha : a.state = .economy) :
    (s.joined z a).QueueWaits := by
  have asleep : a.state ≠ .waiting := by rw [ha]; exact ZoneState.noConfusion
  have other {y : Nat} (hy : y ∈ s.arbiter.queue) : z ≠ y := hq.ne hz asleep hy
  obtain ⟨nodup, waits⟩ := hq
  refine ⟨List.nodup_append.mpr ⟨nodup, List.nodup_singleton z, fun x hx y hy => ?_⟩, fun y hy => ?_⟩
  · rw [List.mem_singleton.mp hy]
    exact (other hx).symm
  · rcases List.mem_append.mp hy with hy | hy
    · obtain ⟨b, hb, hw⟩ := waits y hy
      exact ⟨b, (List.getElem?_set_ne (other hy)).trans hb, hw⟩
    · rw [List.mem_singleton.mp hy]
      exact ⟨_, getElem?_set_same hz, rfl⟩

/-- The zones of the ramp queue and the woken ones stand in WAITING, each once, and no slot is taken or released (R74). -/
theorem State.awoken_waits {s : State} (hq : s.QueueWaits) {k : Nat} (hk : k ≤ s.zones.length) :
    (s.awoken k).QueueWaits ∧ (s.awoken k).slotsInUse = s.slotsInUse := by
  induction k with
  | zero =>
    rw [State.awoken_zero]
    exact ⟨hq, rfl⟩
  | succ k ih =>
    obtain ⟨waits, slots⟩ := ih (Nat.le_of_succ_le hk)
    have here := List.getElem?_eq_getElem hk
    by_cases wakes : s.wakes k = true
    · obtain ⟨asleep, -⟩ := (State.wakes_iff here).mp wakes
      rw [State.awoken_wakes here wakes, State.joined_slotsInUse (State.awoken_next here) asleep]
      exact ⟨waits.joined (State.awoken_next here) asleep, slots⟩
    · rw [State.awoken_stays here wakes]
      exact ⟨waits, slots⟩

/-- The state once the first `k` zones have tested their wake conditions, with the grants of the event. -/
def State.wokenState (s : State) (k : Nat) : State := if s.wokenUpTo k = [] then s.awoken k else (s.awoken k).grantTest

/-- The grants of the wakes, seen from the woken zones. -/
theorem State.wokenState_moved {s : State} {l : Layout} (hl : s.store.layout = some l) (hq : s.QueueWaits) {k : Nat}
    (hk : k ≤ s.zones.length) : (s.awoken k).Moved (s.wokenState k) fun z a b => b = a ∨ s.Granted l z a b := by
  obtain ⟨waits, -⟩ := State.awoken_waits hq hk
  unfold State.wokenState
  split
  · exact .refl waits fun _ _ => .inl rfl
  · exact State.grantTest_moved (s := s.awoken k) hl waits

/-- A rod that wakes a zone is upstream of it or in it: no zone that wakes runs out (R82, R86). -/
theorem State.runOutCondition_of_wake {s : State} {z : Nat} (h : s.wakeCondition z = true) : s.runOutCondition z = false := by
  refine Bool.eq_false_iff.mpr fun due => ?_
  cases hl : s.store.layout with
  | none => simp [State.runOutCondition, hl] at due
  | some l =>
    obtain ⟨-, landing, buffer, -, beyond⟩ := (State.runOutCondition_iff hl z).mp due
    obtain ⟨before, own⟩ := allGaps_zone.mpr (allGaps_take.mpr beyond)
    have ahead : allGaps (s.lookAhead l z) = true := allGaps_iff.mpr fun x hx => allGaps_iff.mp before x (List.mem_of_mem_drop hx)
    have held : allGaps (s.zonePositions l z) = true := own
    rw [State.wakeCondition, hl] at h
    simp only [ahead, held, landing, Bool.not_true, Bool.false_or, Bool.or_false, List.isEmpty_nil, Bool.and_false, Bool.and_eq_true,
      decide_eq_true_eq, Bool.not_eq_true', List.isEmpty_eq_false_iff] at h
    obtain ⟨first, nonempty⟩ := h
    exact nonempty (buffer (by omega))

theorem State.wakeZone_kept {s : State} {z : Nat} {a : Zone} (h : s.zones[z]? = some a)
    (stays : ¬ (a.state = .economy ∧ s.wakeCondition z = true)) : s.wakeZone z = s := by
  rw [State.wakeZone, h]
  exact if_neg stays

theorem State.wakeZone_joins {s : State} {z : Nat} {a : Zone} (h : s.zones[z]? = some a) (ha : a.state = .economy)
    (wake : s.wakeCondition z = true) : s.wakeZone z = (s.joined z a).grantTest := by
  have joins : (s.modZone z (Zone.enterCold s.clock .waiting)).joinQueue z = s.joined z a := by
    rw [State.modZone_eq h]
    rfl
  have wakes : s.wakeZone z = s.waitZone z := by
    rw [State.wakeZone, h]
    exact if_pos ⟨ha, wake⟩
  rw [wakes, State.waitZone, joins]
  refine State.runOutZone_still (.inr ?_)
  obtain ⟨zs, ar, granted⟩ := (s.joined z a).grantTest_frame
  rw [granted]
  exact State.runOutCondition_of_wake wake

/-- The wakes of all zones, in index order: those that wake join the queue, and the grants are those of one event (R75, R82). -/
theorem State.wakeZone_round {s : State} {l : Layout} (hl : s.store.layout = some l) (hq : s.QueueWaits) :
    s.eachZone State.wakeZone = s.wokenState s.zones.length := by
  refine State.eachZone_induct (fun k x => x = s.wokenState k) ?zero fun k x hk hx => ?succ
  case zero => simp [State.wokenState, State.wokenUpTo, State.awoken_zero]
  case succ =>
    have here := List.getElem?_eq_getElem hk
    obtain ⟨waits, -⟩ := State.awoken_waits hq (Nat.le_of_lt hk)
    obtain ⟨frame, zones, -⟩ := State.wokenState_moved hl hq (Nat.le_of_lt hk)
    rw [← hx] at frame zones
    have condition : x.wakeCondition k = s.wakeCondition k := by
      rw [frame]
      rfl
    obtain ⟨a, b, ha, hb, stayed⟩ := zones.of_lt (z := k) (by simpa [State.awoken, zonesUpTo] using hk)
    cases ha.symm.trans (State.awoken_next here)
    by_cases wakes : s.wakes k = true
    · obtain ⟨asleep, wake⟩ := (State.wakes_iff here).mp wakes
      obtain rfl := stayed.resolve_right fun granted => nomatch asleep.symm.trans granted.1
      have some : s.wokenUpTo (k + 1) ≠ [] := by simp [State.wokenUpTo_succ, wakes]
      rw [State.wakeZone_joins hb asleep (condition.trans wake), hx, State.wokenState, State.wokenState, if_neg some,
        State.awoken_wakes here wakes]
      split
      · rfl
      · exact State.grantTest_joined asleep rfl hl waits (State.awoken_next here)
    · have kept : x.wakeZone k = x := by
        refine State.wakeZone_kept hb fun ⟨asleep, wake⟩ => wakes ((State.wakes_iff here).mpr ⟨?_, condition.symm.trans wake⟩)
        rcases stayed with rfl | granted
        · exact asleep
        · exact nomatch asleep.symm.trans granted.state
      rw [kept, hx, State.wokenState, State.wokenState, State.awoken_stays here wakes, State.wokenUpTo_succ, if_neg wakes, List.append_nil]

end Sys2Proof.Machine
end


section
/-! The hand-offs after a shift, and the main-chain step (R51, R55, R56). -/

namespace Sys2Proof.Machine

/-! ## The arbiter after the wakes (R75) -/

theorem Arbiter.granting_queue (a : Arbiter) (l : Layout) (now : Word32) (queue queue' : List Nat) (k : Nat) :
    Arbiter.granting { a with queue := queue' } l now queue k = a.granting l now queue k := by
  cases k <;> rfl

theorem State.wokenState_arbiter {s : State} {l : Layout} (hl : s.store.layout = some l) (hq : s.QueueWaits) {k : Nat}
    (hk : k ≤ s.zones.length) :
    let queue := s.arbiter.queue ++ s.wokenUpTo k
    (s.wokenState k).arbiter = s.arbiter.granting l s.clock queue
      (if s.wokenUpTo k = [] then 0 else s.arbiter.grants l (l.rampSlots - s.slotsInUse) queue.length) := by
  obtain ⟨waits, slots⟩ := State.awoken_waits hq hk
  unfold State.wokenState
  dsimp only
  split
  · rfl
  · obtain ⟨zs, loop, -⟩ := State.grantLoop_spec (s := s.awoken k) hl waits (Nat.le_refl _) rfl
    rw [State.grantTest, loop, slots]
    exact s.arbiter.granting_queue ..

/-! ## Adoption and economy timers together (R80, R88) -/

theorem State.followEconomy_eq {s : State} {l : Layout} (hl : s.store.layout = some l) :
    s.followEconomy = { s with zones := s.zones.mapIdx fun z a => { a with economyTimer := s.economyAfter l z a } } := by
  have timer (z : Nat) (a : Zone) :
      (if s.economyRuns z a then some (a.economyTimer.getD s.economyTicks) else none) = s.economyAfter l z a := by
    have ticks : s.economyTicks = l.economyDelay * 6000 := by
      rw [State.economyTicks, hl]
      rfl
    have runs : s.economyRuns z a = true ↔ a.state = .conditioned ∧ s.line.state = .running ∧ s.zoneRods z = 0 := by
      simp [State.economyRuns, State.zoneHolds, and_assoc]
    rw [State.economyAfter, ticks]
    simp only [runs]
  unfold State.followEconomy
  simp only [timer]
  rfl

theorem State.adopted_frame (s : State) (c : Chain) (l : Layout) (z : Nat) (a : Zone) :
    ∃ governing latch heat vent, s.adopted c l z a = { a with governing := governing, latch := latch, heat := heat, vent := vent } := by
  unfold State.adopted
  cases s.adoption c l z a with
  | none => exact ⟨a.governing, a.latch, a.heat, a.vent, rfl⟩
  | some g =>
    obtain ⟨frame, -⟩ := s.retargeted_takesCopy z g a
    rw [Option.elim_some, frame]
    exact ⟨_, _, _, _, rfl⟩

/-- A zone after adoption, its economy timer as its conditions leave it. -/
def State.followed (s : State) (c : Chain) (l : Layout) (z : Nat) (a : Zone) : Zone :=
  { s.adopted c l z a with economyTimer := s.economyAfter l z a }

/-- The state of a hand-off before the wakes. -/
def State.handing (s : State) (c : Chain) (l : Layout) : State :=
  { s with
    zones := s.zones.mapIdx (s.followed c l)
    notices := s.notices.bandLosts s.clock s.zones (s.zones.mapIdx (s.adopted c l)) }

theorem State.adopt_followEconomy {s : State} {l : Layout} (hl : s.store.layout = some l) (c : Chain) :
    (s.eachZone (State.adopt c)).followEconomy = s.handing c l := by
  rw [State.adopt_round hl c, State.followEconomy_eq (by exact hl), State.handing]
  have zones : (s.zones.mapIdx (s.adopted c l)).mapIdx
      (fun z a => { a with economyTimer := s.economyAfter l z a }) = s.zones.mapIdx (s.followed c l) := by
    rw [List.mapIdx_mapIdx]
    refine List.ext_getElem? fun z => ?_
    rw [List.getElem?_mapIdx, List.getElem?_mapIdx]
    refine congrArg (fun f => Option.map f s.zones[z]?) (funext fun a => ?_)
    obtain ⟨governing, latch, heat, vent, frame⟩ := s.adopted_frame c l z a
    simp only [Function.comp, State.followed, frame]
    rfl
  exact congrArg (fun zs => ({ s with zones := zs, notices := _ } : State)) zones

theorem State.followed_state (s : State) (c : Chain) (l : Layout) (z : Nat) (a : Zone) : (s.followed c l z a).state = a.state := by
  obtain ⟨governing, latch, heat, vent, frame⟩ := s.adopted_frame c l z a
  rw [State.followed, frame]

theorem State.handing_zoneState (s : State) (c : Chain) (l : Layout) (z : Nat) : (s.handing c l).zoneState z = s.zoneState z := by
  rw [State.zoneState, State.zoneState, State.handing, List.getElem?_mapIdx, Option.map_map]
  exact congrArg (fun f => Option.map f s.zones[z]?) (funext fun a => s.followed_state c l z a)

theorem State.handing_queueWaits {s : State} (hq : s.QueueWaits) (c : Chain) (l : Layout) : (s.handing c l).QueueWaits := by
  obtain ⟨nodup, -⟩ := id hq
  exact ⟨nodup, fun z hz => State.zoneState_eq_some ((s.handing_zoneState c l z).trans (hq.zoneState hz))⟩

theorem State.handing_wokenUpTo (s : State) (c : Chain) (l : Layout) :
    (s.handing c l).wokenUpTo (s.handing c l).zones.length = s.wokenZones := by
  have length : (s.handing c l).zones.length = s.zones.length := List.length_mapIdx
  rw [length, State.wokenUpTo, State.wokenZones]
  refine List.filter_congr fun z _ => ?_
  rw [State.wakes, State.handing_zoneState]
  rfl

theorem countP_mapIdx {α : Type} (p : α → Bool) {g : Nat → α → α} (same : ∀ i a, p (g i a) = p a) (xs : List α) :
    (xs.mapIdx g).countP p = xs.countP p := by
  induction xs using List.reverseRecOn with
  | nil => rfl
  | append_singleton xs x ih => simp [List.mapIdx_append, List.countP_append, ih, same, List.countP_cons]

theorem State.handing_slotsInUse (s : State) (c : Chain) (l : Layout) : (s.handing c l).slotsInUse = s.slotsInUse :=
  countP_mapIdx _ (fun z a => by rw [State.followed_state]) _

/-! ## One zone through the hand-offs (R56) -/

/-- What the rest of the hand-offs does to a zone once adoption, economy timers and wakes are done: in RUN_OUT a moving one whose run-out
condition holds is purged, any other one stays or is granted a slot (R75, R86). -/
def State.GrantedOrPurged (s : State) (l : Layout) (z : Nat) (a b : Zone) : Prop :=
  (s.line.state = .runOut ∧ a.state.moving ∧ s.runOutCondition z = true → s.Purged a b) ∧
  (¬ (s.line.state = .runOut ∧ a.state.moving ∧ s.runOutCondition z = true) → b = a ∨ s.Granted l z a b)

theorem State.GrantedOrPurged.keeps {s : State} {l : Layout} {z : Nat} {a b : Zone} (h : s.GrantedOrPurged l z a b) :
    b.governing = a.governing ∧ b.latch = a.latch ∧ b.tickTimer = a.tickTimer := by
  obtain ⟨purges, stays⟩ := h
  by_cases due : s.line.state = .runOut ∧ a.state.moving ∧ s.runOutCondition z = true
  · obtain ⟨-, governing, latch, tick, -⟩ := purges due
    exact ⟨governing, latch, tick⟩
  · rcases stays due with rfl | ⟨-, granted, -⟩
    · exact ⟨rfl, rfl, rfl⟩
    · rw [granted]
      exact ⟨rfl, rfl, rfl⟩

/-- The state of a hand-off after the wakes and their grants. -/
def State.handed (s : State) (c : Chain) (l : Layout) : State := (s.handing c l).wokenState (s.handing c l).zones.length

theorem State.zonesHandOff_eq {s : State} {l : Layout} (hl : s.store.layout = some l) (hq : s.QueueWaits) (c : Chain) :
    s.zonesHandOff c = (s.handed c l).eachZone State.runOutZone := by
  rw [State.zonesHandOff, State.adopt_followEconomy hl, State.wakeZone_round (s := s.handing c l) hl (s.handing_queueWaits hq c l),
    State.handed]

theorem State.handed_moved {s : State} {l : Layout} (hl : s.store.layout = some l) (hq : s.QueueWaits) (c : Chain) :
    ((s.handing c l).awoken (s.handing c l).zones.length).Moved (s.handed c l) fun z a b => b = a ∨ s.Granted l z a b :=
  State.wokenState_moved (s := s.handing c l) hl (s.handing_queueWaits hq c l) (Nat.le_refl _)

/-- Outside RUN_OUT no zone's run-out condition is tested. -/
theorem State.zonesHandOff_steady {s : State} {l : Layout} (hl : s.store.layout = some l) (hq : s.QueueWaits) (c : Chain)
    (steady : s.line.state ≠ .runOut) : s.zonesHandOff c = s.handed c l := by
  obtain ⟨line, -⟩ := (State.handed_moved hl hq c).reads
  rw [State.zonesHandOff_eq hl hq]
  exact State.eachZone_induct (f := State.runOutZone) (fun _ x => x = s.handed c l) rfl fun z x _ hx => by
    rw [hx, State.runOutZone_still (.inl (by rw [line]; exact steady))]

/-- The state after the zones' part of the hand-offs, seen from the woken zones. -/
theorem State.zonesHandOff_moved {s : State} {l : Layout} (hl : s.store.layout = some l) (hq : s.QueueWaits) (c : Chain) :
    ((s.handing c l).awoken (s.handing c l).zones.length).Moved (s.zonesHandOff c) (s.GrantedOrPurged l) := by
  have woken := State.handed_moved hl hq c
  by_cases runOut : s.line.state = .runOut
  · obtain ⟨waits, -⟩ := State.awoken_waits (s.handing_queueWaits hq c l) (Nat.le_refl _)
    obtain ⟨line, store, clock, purge, condition, granted⟩ := woken.reads
    have round := State.runOutZone_round (l := l) (by rw [store]; exact hl) (woken.queueWaits waits) (by rw [line]; exact runOut)
    rw [State.zonesHandOff_eq hl hq]
    refine woken.trans round (fun z a b b' before after => ?_) fun z b b' after => after.leaves
    have ranOut : s.RanOut l z b b' := by
      unfold State.RanOut State.Purged at after
      rw [clock, purge, condition, granted] at after
      exact after
    obtain ⟨purges, stays⟩ := ranOut.of_granted before
    exact ⟨fun due => purges due.2, fun rests => stays fun due => rests ⟨runOut, due⟩⟩
  · rw [State.zonesHandOff_steady hl hq c runOut]
    exact woken.imp fun z a b after => ⟨fun due => absurd due.1 runOut, fun _ => after⟩

/-- A zone after adoption, economy timer and its own wake test. -/
def State.readied (s : State) (c : Chain) (l : Layout) (z : Nat) (a : Zone) : Zone := s.waked z (s.followed c l z a)

theorem State.readied_wakes {s : State} {z : Nat} {a : Zone} (h : a.state = .economy ∧ s.wakeCondition z = true) (c : Chain) (l : Layout) :
    s.readied c l z a = (s.followed c l z a).enterCold s.clock .waiting :=
  if_pos ((s.followed_state c l z a).symm ▸ h)

theorem State.readied_stays {s : State} {z : Nat} {a : Zone} (h : ¬ (a.state = .economy ∧ s.wakeCondition z = true)) (c : Chain)
    (l : Layout) : s.readied c l z a = s.followed c l z a :=
  if_neg ((s.followed_state c l z a).symm ▸ h)

theorem State.readied_keeps (s : State) (c : Chain) (l : Layout) (z : Nat) (a : Zone) :
    (s.readied c l z a).governing = (s.adopted c l z a).governing ∧ (s.readied c l z a).latch = (s.adopted c l z a).latch ∧
      (s.readied c l z a).tickTimer = a.tickTimer := by
  have followed : (s.followed c l z a).governing = (s.adopted c l z a).governing ∧
      (s.followed c l z a).latch = (s.adopted c l z a).latch ∧ (s.followed c l z a).tickTimer = a.tickTimer := by
    obtain ⟨governing, latch, heat, vent, frame⟩ := s.adopted_frame c l z a
    rw [State.followed, frame]
    exact ⟨rfl, rfl, rfl⟩
  by_cases wakes : a.state = .economy ∧ s.wakeCondition z = true
  · rw [State.readied_wakes wakes]
    exact followed
  · rw [State.readied_stays wakes]
    exact followed

theorem State.economyAfter_other {s : State} {l : Layout} {z : Nat} {a : Zone} (h : a.state ≠ .conditioned) :
    s.economyAfter l z a = none := if_neg fun runs => h runs.1

/-- One zone through the hand-offs of a shift (R56). -/
theorem State.GrantedOrPurged.zoneAfterShift {s : State} {c : Chain} {l : Layout} {z : Nat} {a b : Zone}
    (h : s.GrantedOrPurged l z (s.readied c l z a) b) : s.ZoneAfterShift c l z a b := by
  obtain ⟨takes, stands⟩ := State.adopted_takesCopy (s := s) (c := c) (l := l) (z := z) (a := a)
  obtain ⟨governing, latch, tick⟩ := h.keeps
  obtain ⟨governing', latch', tick'⟩ := s.readied_keeps c l z a
  obtain ⟨purges, stays⟩ := h
  refine ⟨s.adopted c l z a, takes, stands, governing.trans governing', latch.trans latch', tick.trans tick', ?_⟩
  have state := s.followed_state c l z a
  by_cases wakes : a.state = .economy ∧ s.wakeCondition z = true
  · have undue (st : ZoneState) : ¬ (s.line.state = .runOut ∧ st.moving ∧ s.runOutCondition z = true) := by
      rw [State.runOutCondition_of_wake wakes.2]
      exact fun due => nomatch due.2.2
    rw [State.readied_wakes wakes] at stays
    refine ⟨?economy, fun due => absurd due (undue _), fun _ => ?queued, fun _ awake => absurd wakes awake⟩
    case economy =>
      rcases stays (undue _) with rfl | ⟨-, granted, -⟩
      · rfl
      · rw [granted]
        rfl
    case queued =>
      rcases stays (undue _) with rfl | granted
      · exact ⟨rfl, .inl ⟨rfl, rfl, rfl⟩⟩
      · exact granted.kept.2.2
  · rw [State.readied_stays wakes, state] at purges stays
    by_cases due : s.line.state = .runOut ∧ a.state.moving ∧ s.runOutCondition z = true
    · obtain ⟨purged, -, -, -, economy⟩ := purges due
      have other : b.state ≠ .conditioned := fun hb => purged.not_moving (.inr (.inr (.inl hb)))
      exact ⟨by rw [economy, if_neg other], fun _ => purged, fun awake => absurd awake wakes, fun rests => absurd due rests⟩
    · rcases stays due with rfl | granted
      · refine ⟨?_, fun runsOut => absurd runsOut due, fun awake => absurd awake wakes, fun _ _ => .inl rfl⟩
        split
        · rfl
        · rename_i other
          exact State.economyAfter_other (state ▸ other)
      · have timer : s.economyAfter l z a = none := State.economyAfter_other (by rw [← state, granted.1]; exact ZoneState.noConfusion)
        have still : s.followed c l z a = { s.adopted c l z a with economyTimer := none } := by rw [State.followed, timer]
        rw [still] at granted
        refine ⟨?_, fun runsOut => absurd runsOut due, fun awake => absurd awake wakes, fun _ _ => .inr granted⟩
        rw [granted.2.1]
        rfl

/-! ## The hand-offs of a shift (R56) -/

/-- What the hand-offs' zones part does, each controller seen from the one before the shift. -/
theorem State.zonesHandOff_readied {s : State} {l : Layout} (hl : s.store.layout = some l) (hq : s.QueueWaits) (c : Chain) :
    EachZone s.zones (s.zonesHandOff c).zones fun z a b => s.GrantedOrPurged l z (s.readied c l z a) b := by
  obtain ⟨-, ⟨len, each⟩, -⟩ := State.zonesHandOff_moved hl hq c
  have readied : ((s.handing c l).awoken (s.handing c l).zones.length).zones = s.zones.mapIdx (s.readied c l) := by
    show zonesUpTo _ (s.handing c l).waked (s.handing c l).zones = _
    rw [zonesUpTo_all]
    exact List.mapIdx_mapIdx ..
  rw [readied] at len each
  refine ⟨len.trans List.length_mapIdx, fun z a b ha hb => each z _ b ?_ hb⟩
  rw [List.getElem?_mapIdx, ha]
  rfl

/-- The zones' part of the hand-offs (R56, R72, R75). -/
theorem State.zonesHandOff_spec {s : State} {l : Layout} (hl : s.store.layout = some l) (hq : s.QueueWaits) (c : Chain) :
    let queue := s.arbiter.queue ++ s.wokenZones
    let u := s.zonesHandOff c
    EachZone s.zones u.zones (s.ZoneAfterShift c l) ∧
    u.arbiter.queue = queue.filter (fun z => u.zoneState z == some .waiting) ∧
    (s.line.state ≠ .runOut → u.arbiter = s.arbiter.granting l s.clock queue
      (if s.wokenZones = [] then 0 else s.arbiter.grants l (l.rampSlots - s.slotsInUse) queue.length)) ∧
    u = { s with zones := u.zones, arbiter := u.arbiter, notices := s.notices.bandLosts s.clock s.zones u.zones } := by
  have readied := State.zonesHandOff_readied hl hq c
  obtain ⟨frame, -, queue⟩ := State.zonesHandOff_moved hl hq c
  refine ⟨readied.imp fun z a b h => h.zoneAfterShift, ?queue, fun steady => ?arbiter, ?frame⟩
  case queue =>
    rw [queue, ← s.handing_wokenUpTo c l]
    rfl
  case arbiter =>
    rw [State.zonesHandOff_steady hl hq c steady, State.handed,
      State.wokenState_arbiter (s := s.handing c l) hl (s.handing_queueWaits hq c l) (Nat.le_refl _), State.handing_slotsInUse,
      State.handing_wokenUpTo]
    rfl
  case frame =>
    have latches : EachZone (s.zones.mapIdx (s.adopted c l)) (s.zonesHandOff c).zones fun _ a b => b.latch = a.latch := by
      obtain ⟨len, each⟩ := readied
      refine ⟨len.trans List.length_mapIdx.symm, fun z a b ha hb => ?_⟩
      rw [List.getElem?_mapIdx, Option.map_eq_some_iff] at ha
      obtain ⟨a, ha, rfl⟩ := ha
      obtain ⟨-, latch, -⟩ := (each z a b ha hb).keeps
      obtain ⟨-, latch', -⟩ := s.readied_keeps c l z a
      exact latch.trans latch'
    rw [NoticeUnit.bandLosts_congr s.notices s.clock latches]
    exact frame

/-! ## The release of the pre chain (R49, R56) -/

theorem State.releaseBlocked_pre {s : State} {l : Layout} (hl : s.store.layout = some l) : s.releaseBlocked .pre = { s with
    preSeq := if s.preSeq.state = .blocked ∧ s.takeCondition .pre = true then
      { s.preSeq with
        state := .stepping, entered := s.clock, intervalTimer := none, stepTimer := some (l.stepTimeout * 100), blockedTimer := none }
      else s.preSeq } := by
  unfold State.releaseBlocked
  rw [State.issueStep_eq hl, State.seq_pre]
  split <;> rfl

/-- The hand-offs of a shift do what the statement of a hand-off says (R56). -/
theorem State.handOff_handedOff {s : State} {l : Layout} (hl : s.store.layout = some l) (hq : s.QueueWaits) (c : Chain) (took : Bool) :
    HandedOff s (s.handOff c took) c l took := by
  obtain ⟨zones, queue, arbiter, frame⟩ := State.zonesHandOff_spec hl hq c
  have handOff : s.handOff c took = if c = .main ∧ took = true then (s.zonesHandOff c).releaseBlocked .pre else s.zonesHandOff c := rfl
  generalize s.zonesHandOff c = u at handOff zones queue arbiter frame
  have layout : u.store.layout = some l := by
    rw [frame]
    exact hl
  by_cases releases : c = .main ∧ took = true
  · rw [handOff, if_pos releases, State.releaseBlocked_pre layout]
    refine ⟨zones, queue, arbiter, ?_⟩
    obtain ⟨rfl, rfl⟩ := releases
    simp only [true_and]
    rw [frame]
    rfl
  · rw [handOff, if_neg releases]
    refine ⟨zones, queue, arbiter, ?_⟩
    rw [if_neg fun h => releases ⟨h.1, h.2.1⟩]
    exact frame

/-! ## The main-chain step (R51, R55) -/

/-- The statement's main shift is the model's (R55). -/
theorem MainShifted.eq {s t : State} (h : MainShifted s t) : t = s.mainShift := by
  obtain ⟨g, gap, rod, moved⟩ := h
  cases hlast : lastRod s.mainChain with
  | none =>
    rw [State.mainShift_gap hlast, moved, gap hlast]
    rfl
  | some n =>
    obtain ⟨_, _, _, _, _, graded⟩ := s.gradeExit_frame n s.clock
    rw [State.mainShift_rod hlast, moved, rod n hlast, graded]
    rfl

/-- After its step a chain rests: IDLE with its interval timer, or STOPPED (R50, R51). -/
theorem State.afterStep_rested {s : State} {l : Layout} (hl : s.store.layout = some l) (c : Chain) :
    s.afterStep c = s.setSeq c ((s.seq c).rested s.clock (s.goesOn c l)) := by
  have stops : (s.line.state.steps = false ∨ (s.line.state = .runOut ∧ s.emptyUpTo c = true)) ↔
      ¬ (s.line.state = .running ∨ (s.line.state = .runOut ∧ s.emptyUpTo c = false)) := by
    cases s.line.state <;> simp [LineState.steps]
  unfold State.afterStep State.goesOn
  simp only [stops, ite_not]
  split
  · rw [State.idleChain, State.intervalTicks_eq hl]
    rfl
  · rfl

/-- Settles O31: the shift is the statement's, the hand-offs are those of `State.handOff_handedOff`, and the chain rests. -/
theorem mainStepGradesAndShifts : Obligations.MainStepGradesAndShifts := by
  intro s t l law hl stepping shifted
  obtain rfl := shifted.eq
  obtain ⟨_, _, _, _, _, _, _, frame⟩ := s.mainShift_frame
  have layout : s.mainShift.store.layout = some l := by rw [frame]; exact hl
  have waits : s.mainShift.QueueWaits := by
    rw [frame]
    exact law.queueWaits
  refine ⟨s.mainShift.handOff .main (!s.buffer.isEmpty), State.handOff_handedOff layout waits .main _, ?_⟩
  obtain ⟨_, _, _, _, _, handed⟩ := s.mainShift.handOff_frame .main (!s.buffer.isEmpty)
  rw [exec_stepDone, State.settle_eq, State.stepDone_stepping (c := .main) stepping, State.applyShift_main]
  generalize s.mainShift.handOff .main (!s.buffer.isEmpty) = u at handed ⊢
  have clock : u.clock = s.clock := by rw [handed, frame]
  have store : (u.countShift .main).store.layout = some l := by
    rw [handed]
    exact layout
  rw [State.afterStep_rested store, ← clock]
  rfl

end Sys2Proof.Machine
end


section
/-! The law of the ramp arbiter and of its spacing timer along every step (R74, R75): its parts, the changes that leave all it reads as it was,
and one controller replaced with the queue kept to the zones that wait. -/

namespace Sys2Proof.Machine

-- One theorem at a time: each thread of Lean reserves its stack, and many at once pass the memory limit of the check.
set_option Elab.async false

/-! ## The parts of the law -/

/-- The line is in motion: STARTING, RUNNING, RUN_OUT. Only there does a zone wait, ramp, dry or rest in ECONOMY, and only there is a start
pending. -/
def LineState.free (ls : LineState) : Prop := ls = .starting ∨ ls = .running ∨ ls = .runOut

/-- What the law of the arbiter asks of each controller in a line state (R65, R83, R85, R91). -/
def LineState.Allows (ls : LineState) (zn : Zone) : Prop :=
  (ls.resting → zn.state = .off) ∧ (zn.startPending = true → zn.state = .purging) ∧
  (ls = .hold ∨ ls = .shutdown → zn.startPending = false ∧
    (zn.state = .off ∨ zn.state = .purging ∨ zn.state = .failed ∨ (zn.state = .holding ∧ ls = .hold)))

/-- What the law of the arbiter asks of queue, slots and layout (R65, R74, R75). -/
def RampLaw (s : State) : Prop :=
  s.arbiter.queue.Nodup ∧ (∀ z, z ∈ s.arbiter.queue ↔ ∃ a, s.zones[z]? = some a ∧ a.state = .waiting) ∧
  (∀ l, s.store.layout = some l → s.slotsInUse ≤ l.rampSlots) ∧
  (s.store.layout = none → s.zones = []) ∧ (∀ l, s.store.layout = some l → s.zones.length = l.zoneCount)

theorem arbiterLaw_iff {s : State} : ArbiterLaw s ↔ RampLaw s ∧ ∀ zn ∈ s.zones, s.line.state.Allows zn := by
  constructor
  · intro law
    have queue := law.queue_iff
    obtain ⟨nodup, -, slots, bare, count, rest, pending, held⟩ := law
    exact ⟨⟨nodup, queue, slots, bare, count⟩, fun zn hz => ⟨fun hr => rest hr zn hz, pending zn hz, fun hh => held hh zn hz⟩⟩
  · rintro ⟨⟨nodup, queue, slots, bare, count⟩, allows⟩
    refine ⟨nodup, fun z => ?_, slots, bare, count, fun hr zn hz => (allows zn hz).1 hr, fun zn hz => (allows zn hz).2.1,
      fun hh zn hz => (allows zn hz).2.2 hh⟩
    rw [queue, State.zoneState, Option.map_eq_some_iff]

theorem ArbiterLaw.ramp {s : State} (law : ArbiterLaw s) : RampLaw s := (arbiterLaw_iff.mp law).1

theorem ArbiterLaw.allows {s : State} (law : ArbiterLaw s) {z : Nat} {a : Zone} (h : s.zones[z]? = some a) : s.line.state.Allows a :=
  (arbiterLaw_iff.mp law).2 a (List.mem_of_getElem? h)

theorem LineState.free_iff {ls : LineState} : ls.free ↔ ¬ ls.resting ∧ ls ≠ .hold ∧ ls ≠ .shutdown := by
  cases ls <;> simp [LineState.free, LineState.resting]

theorem LineState.free.allows {ls : LineState} (h : ls.free) {a : Zone} (pending : a.startPending = true → a.state = .purging) :
    ls.Allows a := by
  obtain ⟨rest, hold, shut⟩ := LineState.free_iff.mp h
  exact ⟨fun hr => absurd hr rest, pending, fun hh => (hh.elim hold shut).elim⟩

/-- A zone in motion or with a start pending is met in a line in motion alone. -/
theorem LineState.Allows.free {ls : LineState} {a : Zone} (h : ls.Allows a) (moves : a.state.moving ∨ a.startPending = true) :
    ls.free := by
  obtain ⟨rest, pending, held⟩ := h
  refine LineState.free_iff.mpr ⟨fun hr => ?_, fun hh => ?_, fun hh => ?_⟩
  · have off := rest hr
    rcases moves with moves | moves
    · simp [off, ZoneState.moving] at moves
    · exact nomatch off.symm.trans (pending moves)
  all_goals
    obtain ⟨still, states⟩ := held (by simp [hh])
    rcases moves with moves | moves
    · rcases states with h | h | h | h <;> simp [h, ZoneState.moving] at moves
    · exact nomatch still.symm.trans moves

/-- An OFF zone without a start pending is met in every line state. -/
theorem LineState.allows_off (ls : LineState) {a : Zone} (off : a.state = .off) (still : a.startPending = false) : ls.Allows a :=
  ⟨fun _ => off, fun h => absurd h (by simp [still]), fun _ => ⟨still, .inl off⟩⟩

/-! ## One controller replaced -/

/-- One controller is replaced, and the queue holds it exactly where it waits. -/
theorem ArbiterLaw.replace {s : State} (law : ArbiterLaw s) {z : Nat} {a b : Zone} {ar : Arbiter} (h : s.zones[z]? = some a)
    (nodup : ar.queue.Nodup) (others : ∀ y, y ≠ z → (y ∈ ar.queue ↔ y ∈ s.arbiter.queue)) (here : z ∈ ar.queue ↔ b.state = .waiting)
    (slot : b.state = .ramping → a.state = .ramping ∨ ∀ l, s.store.layout = some l → s.slotsInUse < l.rampSlots)
    (allows : s.line.state.Allows b) : ArbiterLaw { s with zones := s.zones.set z b, arbiter := ar } := by
  obtain ⟨⟨-, queue, slots, bare, count⟩, all⟩ := arbiterLaw_iff.mp law
  obtain ⟨hlt, ha⟩ := List.getElem?_eq_some_iff.mp h
  refine arbiterLaw_iff.mpr ⟨⟨nodup, fun y => ?_, fun l hl => ?_, fun hn => ?_, fun l hl => ?_⟩, fun zn hz => ?_⟩
  · by_cases hy : y = z
    · subst hy
      rw [getElem?_set_same h]
      simpa using here
    · rw [others y hy, queue, List.getElem?_set_ne (Ne.symm hy)]
  · have bound := slots l hl
    show (s.zones.set z b).countP _ ≤ _
    rw [List.countP_set hlt, ha]
    have counted : (if (a.state == .ramping) = true then 1 else 0) ≤ s.slotsInUse := by
      split
      · exact List.countP_pos_iff.mpr ⟨a, List.mem_of_getElem? h, ‹_›⟩
      · exact Nat.zero_le _
    have used : s.slotsInUse = s.zones.countP fun zn => zn.state == .ramping := rfl
    simp only [beq_iff_eq] at counted ⊢
    split_ifs at counted ⊢ with hr hb hb
    · omega
    · omega
    · have := (slot hb).resolve_left hr l hl
      omega
    · omega
  · rw [bare hn, List.set_nil]
  · rw [List.length_set, count l hl]
  · rcases List.mem_or_eq_of_mem_set hz with hz | rfl
    · exact all zn hz
    · exact allows

/-- A controller that neither waits nor begins to is replaced. -/
theorem ArbiterLaw.set {s : State} (law : ArbiterLaw s) {z : Nat} {a b : Zone} (h : s.zones[z]? = some a) (ha : a.state ≠ .waiting)
    (hb : b.state ≠ .waiting) (hr : b.state = .ramping → a.state = .ramping) (allows : s.line.state.Allows b) :
    ArbiterLaw (s.setZones (s.zones.set z b)) := by
  obtain ⟨nodup, queue, -⟩ := law.ramp
  refine law.replace (ar := s.arbiter) h nodup (fun _ _ => Iff.rfl) ?_ (fun hb => .inl (hr hb)) allows
  rw [queue, h]
  simp [ha, hb]

/-- A WAITING controller is replaced by one that neither waits nor ramps, and leaves the queue. -/
theorem ArbiterLaw.leave {s : State} (law : ArbiterLaw s) {z : Nat} {a b : Zone} (h : s.zones[z]? = some a) (hb : b.state ≠ .waiting)
    (hr : b.state ≠ .ramping) (allows : s.line.state.Allows b) : ArbiterLaw { s with
      zones := s.zones.set z b, arbiter := { s.arbiter with queue := s.arbiter.queue.filter (· != z) } } := by
  obtain ⟨nodup, queue, -⟩ := law.ramp
  refine law.replace h (nodup.filter _) (fun y hy => ?_) ?_ (fun h => absurd h hr) allows
  · simp [hy]
  · simp [hb]

/-- A zone joins the ramp queue (R74). -/
theorem ArbiterLaw.join {s : State} (law : ArbiterLaw s) (free : s.line.state.free) {z : Nat} {a : Zone} (h : s.zones[z]? = some a)
    (ha : a.state ≠ .waiting) : ArbiterLaw (s.joined z a) := by
  obtain ⟨nodup, queue, -⟩ := law.ramp
  have fresh : z ∉ s.arbiter.queue := by
    rw [queue, h]
    simpa using ha
  refine law.replace h ?_ (fun y hy => ?_) ?_ (fun hr => nomatch hr) (free.allows fun hp => nomatch hp)
  · exact List.nodup_append.mpr ⟨nodup, List.nodup_singleton z, fun x hx y hy he => fresh (by simp_all)⟩
  · simp [hy]
  · simp [Zone.enterCold, Zone.enter]

theorem State.joins_eq {s : State} {z : Nat} {a : Zone} (h : s.zones[z]? = some a) :
    (s.modZone z (Zone.enterCold s.clock .waiting)).joinQueue z = s.joined z a := by
  rw [State.modZone_eq h]
  rfl

/-- The head of the queue is granted (R75). -/
theorem ArbiterLaw.grant {s : State} (law : ArbiterLaw s) {l : Layout} (hl : s.store.layout = some l) (can : s.canGrant = true) {z : Nat}
    {rest : List Nat} (hq : s.arbiter.queue = z :: rest) : ArbiterLaw (s.grant l z) := by
  obtain ⟨nodup, queue, -⟩ := law.ramp
  obtain ⟨-, slots, -⟩ := (State.canGrant_iff hl).mp can
  obtain ⟨a, h, ha⟩ := (queue z).mp (by simp [hq])
  have free : s.line.state.free := (law.allows h).free (.inl (.inl ha))
  have granted : s.Granted l z a _ := State.granted_ramped ha
  have still : a.startPending = false := by
    obtain ⟨-, pending, -⟩ := law.allows h
    by_contra hp
    exact nomatch ha.symm.trans (pending (by simpa using hp))
  rw [hq, List.nodup_cons] at nodup
  rw [State.grant_eq h]
  refine law.replace h (by rw [hq]; exact nodup.2) (fun y hy => ?_) ?_ (fun _ => .inr fun l' hl' => ?_) (free.allows ?_)
  · simp [hq, hy]
  · rw [granted.state, hq]
    simp [nodup.1]
  · cases hl.symm.trans hl'
    exact slots
  · rw [granted.2.1]
    exact fun hp => nomatch still.symm.trans hp

/-! ## Changes that keep both laws -/

/-- `t` keeps the laws of the arbiter and of its spacing timer where `s` meets them. -/
structure Keeps (s t : State) : Prop where
  arbiter : ArbiterLaw s → ArbiterLaw t
  spacing : SpacingLaw s → SpacingLaw t

theorem Keeps.refl (s : State) : Keeps s s := ⟨id, id⟩

theorem Keeps.trans {s t u : State} (h : Keeps s t) (h' : Keeps t u) : Keeps s u :=
  ⟨h'.arbiter ∘ h.arbiter, h'.spacing ∘ h.spacing⟩

theorem Keeps.same {s t : State} (h : t = s) : Keeps s t := h ▸ .refl s

/-- What the law of the arbiter reads of a controller. -/
def Zone.standing (a : Zone) : ZoneState × Bool := (a.state, a.startPending)

/-- `t` differs from `s` in nothing that the two laws read. -/
structure Alike (s t : State) : Prop where
  line : t.line.state = s.line.state := by rfl
  layout : t.store.layout = s.store.layout := by rfl
  arbiter : t.arbiter = s.arbiter := by rfl
  zones : t.zones.map Zone.standing = s.zones.map Zone.standing := by rfl

theorem getElem?_standing {as bs : List Zone} (h : bs.map Zone.standing = as.map Zone.standing) {z : Nat} {b : Zone}
    (hb : bs[z]? = some b) : ∃ a, as[z]? = some a ∧ b.state = a.state ∧ b.startPending = a.startPending := by
  have here := congrArg (·[z]?) h
  simp only [List.getElem?_map, hb, Option.map_some] at here
  obtain ⟨a, ha, he⟩ := Option.map_eq_some_iff.mp here.symm
  exact ⟨a, ha, congrArg Prod.fst he.symm, congrArg Prod.snd he.symm⟩

theorem LineState.Allows.of_standing {ls : LineState} {a b : Zone} (h : ls.Allows a) (state : b.state = a.state)
    (pending : b.startPending = a.startPending) : ls.Allows b := by
  unfold LineState.Allows
  rw [state, pending]
  exact h

/-- The law of queue, slots and layout in a state that differs in nothing it reads but the line. -/
theorem RampLaw.of_alike {s t : State} (law : RampLaw s) (layout : t.store.layout = s.store.layout)
    (arbiter : t.arbiter.queue = s.arbiter.queue)
    (zones : t.zones.map Zone.standing = s.zones.map Zone.standing) : RampLaw t := by
  obtain ⟨nodup, queue, slots, bare, count⟩ := law
  have len : t.zones.length = s.zones.length := by simpa using congrArg List.length zones
  have used : t.slotsInUse = s.slotsInUse := by
    have counts : ∀ u : State, u.slotsInUse = (u.zones.map Zone.standing).countP fun p => p.1 == .ramping := fun u => by
      rw [List.countP_map]
      rfl
    rw [counts, counts, zones]
  refine ⟨arbiter ▸ nodup, fun z => ?_, fun l hl => ?_, fun hn => ?_, fun l hl => ?_⟩
  · rw [arbiter, queue]
    constructor
    · rintro ⟨a, ha, hw⟩
      obtain ⟨b, hb, same, -⟩ := getElem?_standing zones.symm ha
      exact ⟨b, hb, same ▸ hw⟩
    · rintro ⟨a, ha, hw⟩
      obtain ⟨b, hb, same, -⟩ := getElem?_standing zones ha
      exact ⟨b, hb, same ▸ hw⟩
  · rw [used]
    exact slots l (layout ▸ hl)
  · exact List.length_eq_zero_iff.mp (len.trans (List.length_eq_zero_iff.mpr (bare (layout ▸ hn))))
  · rw [len]
    exact count l (layout ▸ hl)

/-- The line goes to a state that allows the zones as they stand. -/
theorem ArbiterLaw.of_alike {s t : State} (law : RampLaw s) (layout : t.store.layout = s.store.layout)
    (arbiter : t.arbiter.queue = s.arbiter.queue)
    (zones : t.zones.map Zone.standing = s.zones.map Zone.standing) (allows : ∀ zn ∈ s.zones, t.line.state.Allows zn) : ArbiterLaw t := by
  refine arbiterLaw_iff.mpr ⟨law.of_alike layout arbiter zones, fun zn hz => ?_⟩
  obtain ⟨z, hz⟩ := List.mem_iff_getElem?.mp hz
  obtain ⟨a, ha, state, pending⟩ := getElem?_standing zones hz
  exact (allows a (List.mem_of_getElem? ha)).of_standing state pending

theorem SpacingLaw.of_alike {s t : State} (law : SpacingLaw s) (layout : t.store.layout = s.store.layout)
    (arbiter : t.arbiter = s.arbiter) : SpacingLaw t := by
  unfold SpacingLaw
  rw [layout, arbiter]
  exact law

theorem Keeps.alike {s t : State} (h : Alike s t) : Keeps s t := by
  obtain ⟨line, layout, arbiter, zones⟩ := h
  refine ⟨fun law => ?_, fun law => law.of_alike layout arbiter⟩
  obtain ⟨ramp, allows⟩ := arbiterLaw_iff.mp law
  exact .of_alike ramp layout (by rw [arbiter]) zones (line ▸ allows)

theorem State.modZone_keeps (s : State) (z : Nat) (f : Zone → Zone) (hf : ∀ a, (f a).standing = a.standing) : Keeps s (s.modZone z f) := by
  refine .alike { zones := ?_ }
  refine List.ext_getElem? fun y => ?_
  simp only [State.modZone, State.setZones_zones, List.getElem?_map, List.getElem?_modify]
  cases s.zones[y]? with
  | none => rfl
  | some a =>
    split
    · exact congrArg some (hf a)
    · rfl

end Sys2Proof.Machine
end


section
/-! What each operation of the zones and of the line leaves of the two laws (R74 to R89, R132 to R148). -/

namespace Sys2Proof.Machine

-- One theorem at a time: each thread of Lean reserves its stack, and many at once pass the memory limit of the check.
set_option Elab.async false

/-! ## Grants (R75) -/

theorem State.grant_arbiter (s : State) (l : Layout) (z : Nat) : (s.grant l z).arbiter =
    { queue := s.arbiter.queue.tail, granted := true, lastGrant := s.clock, spacing := l.spacingStart } := by
  unfold State.grant
  dsimp only
  generalize ({ queue := s.arbiter.queue.tail, granted := true, lastGrant := s.clock, spacing := l.spacingStart } : Arbiter) = a
  obtain ⟨zs, h⟩ := State.regulate_frame ((s.setArbiter a).modZone z fun zn => zn.ramped s.clock (minuteTicks l.rampLimit)) z
  rw [h]
  rfl

theorem State.canGrant_head {s : State} (h : s.canGrant = true) :
    ∃ l z rest, s.store.layout = some l ∧ s.arbiter.queue = z :: rest := by
  cases hl : s.store.layout with
  | none =>
    rw [State.canGrant, hl] at h
    cases h
  | some l =>
    obtain ⟨nonempty, -⟩ := (State.canGrant_iff hl).mp h
    obtain ⟨z, rest, hq⟩ := List.exists_cons_of_ne_nil nonempty
    exact ⟨l, z, rest, rfl, hq⟩

theorem State.grantLoop_keeps (fuel : Nat) (s : State) : Keeps s (State.grantLoop fuel s) := by
  induction fuel generalizing s with
  | zero => exact .refl s
  | succ fuel ih =>
    cases hc : s.canGrant with
    | false => exact .same (State.grantLoop_still hc _)
    | true =>
      obtain ⟨l, z, rest, hl, hq⟩ := State.canGrant_head hc
      rw [State.grantLoop_grants hc hl hq]
      refine Keeps.trans ⟨fun law => law.grant hl hc hq, fun _ => ?_⟩ (ih (s.grant l z))
      have layout : (s.grant l z).store = s.store := by
        obtain ⟨zs, a, h⟩ := s.grant_frame l z
        rw [h]
      rw [SpacingLaw, State.grant_arbiter, layout]
      refine ⟨(nomatch ·), fun l' hl' h0 => ?_⟩
      cases hl.symm.trans hl'
      exact if_pos h0

theorem State.grantTest_keeps (s : State) : Keeps s s.grantTest := State.grantLoop_keeps _ s

/-! ## Outputs, latches and copies (R66 to R73) -/

theorem Zone.evaluate_standing (a : Zone) (r : Reading) : (a.evaluate r).standing = a.standing := by
  obtain ⟨heat, vent, h⟩ := a.evaluate_frame r
  rw [h]
  rfl

theorem State.raise_keeps (s : State) (k : NoticeKind) (d : Word32) : Keeps s (s.raise k d) := .alike {}

theorem State.raiseNat_keeps (s : State) (k : NoticeKind) (d : Nat) : Keeps s (s.raiseNat k d) := .alike {}

theorem State.regulate_keeps (s : State) (z : Nat) : Keeps s (s.regulate z) := by
  unfold State.regulate
  split
  · exact s.modZone_keeps z _ fun a => a.evaluate_standing _
  · exact .refl s
  · exact .refl s

theorem State.bandTest_keeps (s : State) (z : Nat) (r : Reading) : Keeps s (s.bandTest z r) := by
  unfold State.bandTest
  split
  · exact .refl s
  · split
    · unfold State.dropLatch
      split
      · exact .refl s
      · split
        · exact Keeps.trans (s.modZone_keeps z (fun x => { x with latch := false }) fun _ => rfl) (State.raiseNat_keeps _ _ _)
        · exact .refl s
    · exact .refl s

theorem State.retarget_keeps (s : State) (z : Nat) (g : Governing) : Keeps s (s.retarget z g) := by
  have copied : Keeps s ((s.modZone z fun zn => { zn with governing := some g }).regulate z) :=
    (s.modZone_keeps z (fun zn => { zn with governing := some g }) fun _ => rfl).trans (State.regulate_keeps _ z)
  unfold State.retarget State.retest
  split
  · exact copied.trans (State.bandTest_keeps _ z _)
  · exact copied
  · exact copied

theorem State.zoneTick_keeps (s : State) (z : Nat) : Keeps s (s.zoneTick z) := by
  unfold State.zoneTick
  split
  · exact .refl s
  · split
    · exact (Keeps.alike {}).trans (State.modZone_keeps _ z _ fun _ => rfl)
    · exact .refl s

theorem State.followEconomy_keeps (s : State) : Keeps s s.followEconomy := by
  refine .alike { zones := List.ext_getElem? fun z => ?_ }
  rw [State.followEconomy, State.setZones_zones, List.getElem?_map, List.getElem?_mapIdx, List.getElem?_map]
  cases s.zones[z]? <;> rfl

theorem State.governAll_keeps (s : State) (p : Nat) : Keeps s (s.governAll p) := by
  refine .alike { zones := List.ext_getElem? fun z => ?_ }
  rw [State.governAll, State.setZones_zones, List.getElem?_map, List.getElem?_mapIdx, List.getElem?_map]
  cases s.zones[z]? with
  | none => rfl
  | some a =>
    simp only [Option.map_some]
    split <;> rfl

/-! ## Zones that leave and join (R74, R76) -/

theorem State.setZones_keeps {s : State} {zs : List Zone} (h : ArbiterLaw s → ArbiterLaw (s.setZones zs)) : Keeps s (s.setZones zs) :=
  ⟨h, id⟩

/-- A controller that does not wait goes to a state in which it neither waits nor ramps. -/
theorem State.modZone_leaves {s : State} {z : Nat} {a : Zone} {f : Zone → Zone} (h : s.zones[z]? = some a) (ha : a.state ≠ .waiting)
    (hw : (f a).state ≠ .waiting) (hr : (f a).state ≠ .ramping) (allows : ArbiterLaw s → s.line.state.Allows (f a)) :
    Keeps s (s.modZone z f) := by
  rw [State.modZone_eq h]
  exact State.setZones_keeps fun law => law.set h ha hw (fun h => absurd h hr) (allows law)

/-- A zone in motion leaves its state for one in which it neither waits nor ramps (R76). -/
theorem State.moveZone_keeps {s : State} {z : Nat} {a : Zone} {f : Zone → Zone} (h : s.zones[z]? = some a) (moving : a.state.moving)
    (hw : (f a).state ≠ .waiting) (hr : (f a).state ≠ .ramping) (still : (f a).startPending = false) : Keeps s (s.moveZone z f) := by
  have allows (law : ArbiterLaw s) : s.line.state.Allows (f a) :=
    ((law.allows h).free (.inl moving)).allows fun hp => nomatch still.symm.trans hp
  by_cases waits : a.state = .waiting
  · rw [State.moveZone_waiting h waits]
    exact ⟨fun law => law.leave h hw hr (allows law), id⟩
  · have set : Keeps s (s.setZones (s.zones.set z (f a))) :=
      State.setZones_keeps fun law => law.set h waits hw (fun h => absurd h hr) (allows law)
    by_cases ramps : a.state = .ramping
    · rw [State.moveZone_ramping h ramps]
      exact set.trans (State.grantTest_keeps _)
    · rw [State.moveZone_other h waits ramps]
      exact set

theorem Zone.purged.leaves {now : Word32} {ticks : Nat} {b : Zone} (h : b.purged now ticks) :
    b.state ≠ .waiting ∧ b.state ≠ .ramping ∧ b.startPending = false := by
  have rests := h.rests
  obtain ⟨-, still, -⟩ := h
  refine ⟨?_, ?_, still⟩ <;> rcases rests with h | h <;> simp [h]

theorem State.runOutZone_keeps (s : State) (z : Nat) : Keeps s (s.runOutZone z) := by
  unfold State.runOutZone
  split
  · exact .refl s
  · rename_i a h
    split
    · rename_i due
      obtain ⟨-, runsOut, -⟩ := due
      obtain ⟨hw, hr, still⟩ := (a.enterPurge_purged s.clock s.purgeTicks).leaves
      exact State.moveZone_keeps h (ZoneState.runsOut_iff.mp runsOut) hw hr still
    · exact .refl s

/-- A zone enters WAITING (R74). -/
theorem State.waitZone_keeps {s : State} {z : Nat} {a : Zone} (h : s.zones[z]? = some a) (ha : a.state ≠ .waiting)
    (free : ArbiterLaw s → s.line.state.free) : Keeps s (s.waitZone z) := by
  have joins : Keeps s (s.joined z a) := ⟨fun law => law.join (free law) h ha, id⟩
  rw [State.waitZone, State.joins_eq h]
  exact joins.trans ((State.grantTest_keeps _).trans (State.runOutZone_keeps _ z))

theorem State.wakeZone_keeps (s : State) (z : Nat) : Keeps s (s.wakeZone z) := by
  unfold State.wakeZone
  split
  · exact .refl s
  · rename_i a h
    split
    · rename_i due
      obtain ⟨economy, -⟩ := due
      exact State.waitZone_keeps h (by simp [economy]) fun law => (law.allows h).free (.inl (.inr (.inr (.inr economy))))
    · exact .refl s

theorem State.conditionZone_keeps {s : State} {z : Nat} {a : Zone} (h : s.zones[z]? = some a) (ha : a.state = .ramping) :
    Keeps s (s.conditionZone z) :=
  (State.moveZone_keeps h (.inr (.inl ha)) ZoneState.noConfusion ZoneState.noConfusion rfl).trans (State.raiseNat_keeps _ _ _)

theorem State.zoneReading_keeps (s : State) (z : Nat) (r : Reading) : Keeps s (s.zoneReading z r) := by
  have outputs : Keeps s (s.modZone z fun a => a.evaluate r) := s.modZone_keeps z _ fun a => a.evaluate_standing r
  unfold State.zoneReading
  split
  · exact .refl s
  · rename_i a h
    have after : (s.modZone z fun a => a.evaluate r).zones[z]? = some (a.evaluate r) := by
      rw [State.modZone_eq h]
      exact getElem?_set_same h
    dsimp only
    split
    · split
      · refine outputs.trans (State.conditionZone_keeps after ?_)
        exact (congrArg Prod.fst (a.evaluate_standing r)).trans ‹_›
      · exact outputs
    · exact outputs.trans (State.bandTest_keeps _ z r)
    · exact outputs.trans (State.bandTest_keeps _ z r)
    · exact outputs
    all_goals exact .refl s

/-! ## The zones' timers (R75, R79, R81, R87) -/

theorem State.economyExpiry_keeps (s : State) (z : Nat) : Keeps s (s.economyExpiry z) := by
  unfold State.economyExpiry
  split
  · exact .refl s
  · rename_i a h
    split
    · rename_i due
      obtain ⟨dry, -⟩ := due
      split
      · exact s.modZone_keeps z _ fun _ => rfl
      · unfold State.economyZone
        refine Keeps.trans (State.modZone_leaves h (by simp [dry]) ?_ ?_ fun law => ?_) (State.regulate_keeps _ z)
        · exact ZoneState.noConfusion
        · exact ZoneState.noConfusion
        · exact ((law.allows h).free (.inl (.inr (.inr (.inl dry))))).allows fun h => nomatch h
    · exact .refl s

theorem State.rampExpiry_keeps (s : State) (z : Nat) : Keeps s (s.rampExpiry z) := by
  unfold State.rampExpiry
  split
  · exact .refl s
  · split
    · exact (State.moveZone_keeps ‹_› (.inr (.inl ‹_›)) ZoneState.noConfusion ZoneState.noConfusion rfl).trans (State.raiseNat_keeps _ _ _)
    · exact .refl s

theorem State.purgeExpiry_keeps (s : State) (z : Nat) : Keeps s (s.purgeExpiry z) := by
  unfold State.purgeExpiry
  split
  · exact .refl s
  · rename_i a h
    split
    · rename_i purging
      split
      · exact State.waitZone_keeps h (by simp [purging]) fun law => (law.allows h).free (.inr ‹_›)
      · exact State.modZone_leaves h (by simp [purging]) ZoneState.noConfusion ZoneState.noConfusion
          fun _ => LineState.allows_off _ rfl rfl
    · exact .refl s

theorem State.spacingExpiry_keeps (s : State) : Keeps s s.spacingExpiry := by
  unfold State.spacingExpiry
  split
  · have stops : Keeps s (s.setArbiter { s.arbiter with spacing := none }) := ⟨id, fun _ => ⟨fun _ => rfl, fun _ _ _ => rfl⟩⟩
    exact stops.trans (State.grantTest_keeps _)
  · exact .refl s

/-! ## Over all zones -/

/-- An operation over all zones that leaves the line as it is. -/
theorem State.eachZone_keeps (s : State) (f : State → Nat → State) (line : ∀ u z, (f u z).line = u.line)
    (hf : ∀ u z, u.line = s.line → Keeps u (f u z)) : Keeps s (s.eachZone f) := by
  have all := State.eachZone_induct (s := s) (f := f) (fun _ u => u.line = s.line ∧ Keeps s u) ⟨rfl, .refl s⟩
    fun k u _ ⟨hu, keeps⟩ => ⟨(line u k).trans hu, keeps.trans (hf u k hu)⟩
  exact all.2

theorem State.line_of_frame {f : State → Nat → State} (hf : ∀ s z, ∃ zs a, f s z = { s with zones := zs, arbiter := a }) (u : State)
    (z : Nat) : (f u z).line = u.line := by
  obtain ⟨zs, a, h⟩ := hf u z
  rw [h]

theorem State.startZone_keeps {s : State} (free : s.line.state.free) (z : Nat) : Keeps s (s.startZone z) := by
  unfold State.startZone
  split
  · exact .refl s
  · rename_i a h
    split
    · exact State.waitZone_keeps h (by simp [*]) fun _ => free
    · exact State.waitZone_keeps h (by simp [*]) fun _ => free
    · exact State.modZone_leaves h (by simp [*]) (by simp [*]) (by simp [*]) fun _ => free.allows fun _ => ‹_›
    all_goals exact .refl s

theorem State.releaseZone_keeps {s : State} (free : s.line.state.free) (z : Nat) : Keeps s (s.releaseZone z) := by
  unfold State.releaseZone
  split
  · exact .refl s
  · rename_i a h
    split
    · exact State.waitZone_keeps h (by simp [*]) fun _ => free
    · exact State.waitZone_keeps h (by simp [*]) fun _ => free
    · exact State.modZone_leaves h (by simp [*]) (by simp [*]) (by simp [*]) fun _ => free.allows fun _ => ‹_›
    all_goals exact .refl s

/-! ## Changes of the line state (R132, R141, R147) -/

/-- A change of line state leaves all that the laws read but the line. -/
theorem State.changeLine_alike (s : State) (new : LineState) : (s.changeLine new).line.state = new ∧
    (s.changeLine new).store = s.store ∧ (s.changeLine new).arbiter = s.arbiter ∧
    (s.changeLine new).zones.map Zone.standing = s.zones.map Zone.standing := by
  obtain ⟨c, p, m, zs, n, h⟩ := s.changeLine_frame new
  refine ⟨by rw [h]; rfl, by rw [h], by rw [h], ?_⟩
  unfold State.changeLine
  dsimp only
  obtain ⟨c, h1⟩ := (s.setLine (Line.enter s.clock new)).followCapture_frame s.line.state
  rw [h1]
  obtain ⟨p, m, h2⟩ := State.followChain_frame { s.setLine (Line.enter s.clock new) with capture := c } .pre
  rw [h2]
  obtain ⟨p', m', h3⟩ := State.followChain_frame
    { s.setLine (Line.enter s.clock new) with capture := c, preSeq := p, mainSeq := m } .main
  rw [h3]
  refine List.ext_getElem? fun z => ?_
  simp only [State.raiseNat, State.raise, State.followEconomy, State.followTicks, State.setNotices_zones, State.setZones_zones,
    List.getElem?_map, List.getElem?_mapIdx, State.setLine_zones]
  cases s.zones[z]? with
  | none => rfl
  | some a =>
    simp only [Option.map_some]
    split <;> rfl

theorem State.changeLine_keeps (s : State) (new : LineState) (allows : ArbiterLaw s → ∀ zn ∈ s.zones, new.Allows zn) :
    Keeps s (s.changeLine new) := by
  obtain ⟨line, store, arbiter, zones⟩ := s.changeLine_alike new
  refine ⟨fun law => .of_alike law.ramp (by rw [store]) (by rw [arbiter]) zones ?_, fun law => law.of_alike (by rw [store]) arbiter⟩
  rw [line]
  exact allows law

theorem State.changeLine_free {s : State} {new : LineState} (free : new.free) : Keeps s (s.changeLine new) :=
  s.changeLine_keeps new fun law zn hz => free.allows ((arbiterLaw_iff.mp law).2 zn hz).2.1

/-- Zones that are OFF are met in every line state. -/
theorem State.changeLine_off {s : State} {new : LineState} (off : ArbiterLaw s → ∀ zn ∈ s.zones, zn.state = .off) :
    Keeps s (s.changeLine new) := by
  refine s.changeLine_keeps new fun law zn hz => LineState.allows_off _ (off law zn hz) ?_
  obtain ⟨-, pending, -⟩ := (arbiterLaw_iff.mp law).2 zn hz
  by_contra hp
  exact nomatch (off law zn hz).symm.trans (pending (by simpa using hp))

theorem State.settle_keeps (s : State) : Keeps s s.settle := by
  rcases s.settle_cases with h | ⟨-, done, h⟩ <;> rw [h]
  · exact .refl s
  · refine State.changeLine_off fun _ zn hz => ?_
    simp only [State.runOutDone, State.allZones, Bool.and_eq_true, List.all_eq_true, beq_iff_eq] at done
    exact done.2 zn hz

theorem State.tryRunning_keeps (s : State) : Keeps s s.tryRunning := by
  rcases s.tryRunning_cases with h | ⟨-, -, h⟩ <;> rw [h]
  · exact .refl s
  · exact State.changeLine_free (.inr (.inl rfl))

/-! ## Line requests (R139 to R148, R89) -/

theorem State.startLine_keeps (s : State) (p : Nat) : Keeps s (s.startLine p) := by
  have starts := s.changeLine_alike .starting
  obtain ⟨line, -⟩ := starts
  refine ((State.changeLine_free (s := s) (.inl rfl)).trans (State.governAll_keeps _ p)).trans (Keeps.trans ?_ (State.tryRunning_keeps _))
  refine State.eachZone_keeps _ _ (State.line_of_frame State.startZone_frame) fun u z hu => State.startZone_keeps (.inl ?_) z
  rw [hu]
  exact line

theorem State.releaseLine_keeps (s : State) : Keeps s s.releaseLine := by
  obtain ⟨line, -⟩ := s.changeLine_alike .starting
  refine (State.changeLine_free (s := s) (.inl rfl)).trans (Keeps.trans ?_ (State.tryRunning_keeps _))
  refine State.eachZone_keeps _ _ (State.line_of_frame State.releaseZone_frame) fun u z hu => State.releaseZone_keeps (.inl ?_) z
  rw [hu, line]

theorem State.closeOpenLot_keeps (s : State) : Keeps s s.closeOpenLot := by
  obtain ⟨ls, q, n, h⟩ := s.closeOpenLot_frame
  rw [h]
  exact .alike {}

theorem State.runOutLine_keeps (s : State) : Keeps s s.runOutLine :=
  ((s.closeOpenLot_keeps.trans (State.changeLine_free (.inr (.inr rfl)))).trans
    (State.eachZone_keeps _ _ (State.line_of_frame State.runOutZone_frame) fun u z _ => u.runOutZone_keeps z)).trans (State.settle_keeps _)

theorem State.restartZone_keeps {s : State} {z : Nat} {a : Zone} (h : s.zones[z]? = some a) (ha : a.state = .failed) :
    Keeps s (s.restartZone z) := by
  have off : Keeps s (s.modZone z (Zone.enterCold s.clock .off)) :=
    State.modZone_leaves h (by simp [ha]) ZoneState.noConfusion ZoneState.noConfusion fun _ => LineState.allows_off _ rfl rfl
  unfold State.restartZone
  split
  · exact State.waitZone_keeps h (by simp [ha]) fun _ => .inl ‹_›
  · exact State.waitZone_keeps h (by simp [ha]) fun _ => .inr (.inl ‹_›)
  · exact State.waitZone_keeps h (by simp [ha]) fun _ => .inr (.inr ‹_›)
  all_goals exact off

end Sys2Proof.Machine
end


section
/-! A line hold and a shutdown under the law of the arbiter (R83, R85, R142, R148), and what they leave of the spacing timer. -/

namespace Sys2Proof.Machine

-- One theorem at a time: each thread of Lean reserves its stack, and many at once pass the memory limit of the check.
set_option Elab.async false

/-! ## A shutdown at the zones (R85, R148) -/

/-- The first round of a shutdown is that of a hold with an empty mask. -/
theorem State.shutWaiting_eq : State.shutWaiting = State.holdWaiting 0 := by
  funext s z
  unfold State.shutWaiting State.holdWaiting State.holdOrPurge
  simp

/-- The second round of a shutdown, zone by zone (R85, R148). -/
def State.shutRested (s : State) (a : Zone) : Zone :=
  match a.state with
  | .ramping | .conditioned | .economy | .holding | .off => a.enterPurge s.clock s.purgeTicks
  | .purging => a.unstarted
  | .failed | .waiting => a

/-- The second round of a shutdown, with no zone waiting. -/
theorem State.shutRest_round {s : State} (empty : s.arbiter.queue = []) :
    s.eachZone State.shutRest = { s with zones := s.zones.mapIdx fun _ a => s.shutRested a } := by
  refine State.eachZone_mapIdx fun zs z a h => ?_
  have moved (ha : a.state ≠ .waiting) : ({ s with zones := zs } : State).purgeZone z =
      { s with zones := zs.set z (a.enterPurge s.clock s.purgeTicks) } :=
    State.moveZone_alone (s := { s with zones := zs }) h ha empty _
  have unmoved : ({ s with zones := zs } : State) = { s with zones := zs.set z a } := by rw [set_of_getElem? h]
  rw [State.shutRest, h, State.shutRested]
  dsimp only
  cases hst : a.state with
  | waiting => exact unmoved
  | failed => exact unmoved
  | purging => exact State.modZone_eq (s := { s with zones := zs }) h _
  | _ => exact moved (by simp [hst])

/-- A shutdown at the zones, with the ramp queue emptied without a grant (R85, R148). -/
theorem State.shutZones_eq {s : State} (queue : ∀ z, z ∈ s.arbiter.queue ↔ ∃ a, s.zones[z]? = some a ∧ a.state = .waiting) :
    s.shutZones = { s with
      zones := s.zones.mapIdx fun z a => s.shutRested (s.heldWaiting 0 z a)
      arbiter := { s.arbiter with queue := [] } } := by
  rw [State.shutZones, State.shutWaiting_eq, State.holdWaiting_round queue, State.shutRest_round rfl]
  refine congrArg (fun zs => ({ s with zones := zs, arbiter := _ } : State)) ?_
  rw [List.mapIdx_mapIdx]
  rfl

/-! ## Zones at rest with an empty queue -/

/-- The law of the arbiter where no zone waits or ramps. -/
theorem ArbiterLaw.of_rests {s t : State} (law : RampLaw s) (layout : t.store.layout = s.store.layout) (empty : t.arbiter.queue = [])
    (len : t.zones.length = s.zones.length)
    (each : ∀ b ∈ t.zones, b.state ≠ .waiting ∧ b.state ≠ .ramping ∧ t.line.state.Allows b) : ArbiterLaw t := by
  obtain ⟨-, -, -, bare, count⟩ := law
  have idle : t.slotsInUse = 0 := List.countP_eq_zero.mpr fun b hb => by
    obtain ⟨-, ramps, -⟩ := each b hb
    simpa using ramps
  refine arbiterLaw_iff.mpr ⟨⟨by rw [empty]; exact List.nodup_nil, fun z => ?_, fun l _ => by omega, fun hn => ?_, fun l hl => ?_⟩,
    fun b hb => (each b hb).2.2⟩
  · rw [empty]
    refine ⟨fun h => absurd h List.not_mem_nil, fun ⟨b, hb, waits⟩ => ?_⟩
    exact absurd waits (each b (List.mem_of_getElem? hb)).1
  · exact List.length_eq_zero_iff.mp (len.trans (List.length_eq_zero_iff.mpr (bare (layout ▸ hn))))
  · rw [len]
    exact count l (layout ▸ hl)

/-- In HOLD a zone in OFF, PURGING, FAILED or HOLDING without a start pending is met; in SHUTDOWN no HOLDING one. -/
theorem LineState.allows_held {ls : LineState} (held : ls = .hold ∨ ls = .shutdown) {b : Zone} (still : b.startPending = false)
    (rests : b.state = .off ∨ b.state = .purging ∨ b.state = .failed ∨ (b.state = .holding ∧ ls = .hold)) :
    b.state ≠ .waiting ∧ b.state ≠ .ramping ∧ ls.Allows b := by
  refine ⟨?_, ?_, fun hr => ?_, fun hp => absurd hp (by simp [still]), fun _ => ⟨still, rests⟩⟩
  · rcases rests with h | h | h | h <;> simp [h]
  · rcases rests with h | h | h | h <;> simp [h]
  · rcases held with rfl | rfl <;> simp [LineState.resting] at hr

theorem Zone.enterPurge_rests (now : Word32) (ticks : Nat) (a : Zone) :
    (a.enterPurge now ticks).startPending = false ∧ ((a.enterPurge now ticks).state = .off ∨ (a.enterPurge now ticks).state = .purging) :=
  ⟨(a.enterPurge_purged now ticks).leaves.2.2, (a.enterPurge_purged now ticks).rests⟩

theorem State.heldZone_still (s : State) (mask : BitVec 10) (z : Nat) (a : Zone) : (s.heldZone mask z a).startPending = false := by
  unfold State.heldZone
  split
  · obtain ⟨heat, vent, h⟩ := s.evaluated_frame z { a.enter s.clock .holding with latch := true }
    rw [h]
    rfl
  · exact (a.enterPurge_rests _ _).1

/-- Both rounds of a hold leave a zone at rest (R83, R142). -/
theorem State.heldRest_rests (s : State) (mask : BitVec 10) (z : Nat) {a : Zone} (pending : a.startPending = true → a.state = .purging) :
    let b := s.heldRest mask z (s.heldWaiting mask z a)
    b.startPending = false ∧ (b.state = .off ∨ b.state = .purging ∨ b.state = .failed ∨ b.state = .holding) := by
  have moved : (s.heldZone mask z a).startPending = false ∧ ((s.heldZone mask z a).state = .off ∨ (s.heldZone mask z a).state = .purging ∨
      (s.heldZone mask z a).state = .failed ∨ (s.heldZone mask z a).state = .holding) := by
    refine ⟨s.heldZone_still mask z a, ?_⟩
    rcases s.heldZone_rests mask z a with h | h | ⟨h, -⟩ <;> simp [h]
  have still (h : a.state ≠ .purging) : a.startPending = false := by simpa using mt pending h
  by_cases hw : a.state = .waiting
  · rw [State.heldWaiting, if_pos hw, State.heldRest_heldZone]
    exact moved
  · rw [State.heldWaiting, if_neg hw, State.heldRest]
    cases hst : a.state with
    | waiting => exact absurd hst hw
    | ramping => exact moved
    | conditioned => exact moved
    | economy => exact moved
    | purging => exact ⟨rfl, .inr (.inl hst)⟩
    | off => exact ⟨still (by simp [hst]), .inl hst⟩
    | failed => exact ⟨still (by simp [hst]), .inr (.inr (.inl hst))⟩
    | holding => exact ⟨still (by simp [hst]), .inr (.inr (.inr hst))⟩

/-- Both rounds of a shutdown leave a zone at rest (R85, R148). -/
theorem State.shutRested_rests (s : State) (z : Nat) {a : Zone} (pending : a.startPending = true → a.state = .purging) :
    let b := s.shutRested (s.heldWaiting 0 z a)
    b.startPending = false ∧ (b.state = .off ∨ b.state = .purging ∨ b.state = .failed) := by
  have purges (a : Zone) : (a.enterPurge s.clock s.purgeTicks).startPending = false ∧ ((a.enterPurge s.clock s.purgeTicks).state = .off ∨
      (a.enterPurge s.clock s.purgeTicks).state = .purging ∨ (a.enterPurge s.clock s.purgeTicks).state = .failed) := by
    obtain ⟨still, rests⟩ := a.enterPurge_rests s.clock s.purgeTicks
    exact ⟨still, rests.imp_right .inl⟩
  by_cases hw : a.state = .waiting
  · have held : s.heldWaiting 0 z a = a.enterPurge s.clock s.purgeTicks := by simp [State.heldWaiting, hw, State.heldZone]
    rw [held, State.shutRested]
    rcases (a.enterPurge_rests s.clock s.purgeTicks).2 with h | h <;> rw [h]
    · exact purges _
    · exact ⟨rfl, .inr (.inl h)⟩
  · have still (h : a.state ≠ .purging) : a.startPending = false := by simpa using mt pending h
    rw [State.heldWaiting, if_neg hw, State.shutRested]
    cases hst : a.state with
    | waiting => exact absurd hst hw
    | failed => exact ⟨still (by simp [hst]), .inr (.inr hst)⟩
    | purging => exact ⟨rfl, .inr (.inl hst)⟩
    | _ => exact purges a

/-! ## The spacing timer where zones leave their states in any state at all -/

theorem State.moveZone_spacing {s : State} {z : Nat} {f : Zone → Zone} (law : SpacingLaw s) : SpacingLaw (s.moveZone z f) := by
  have set : SpacingLaw (s.modZone z f) := law
  unfold State.moveZone
  split
  · exact law
  · dsimp only
    split
    · exact set
    · exact (State.grantTest_keeps _).spacing set
    all_goals exact set

theorem State.holdOrPurge_spacing {s : State} {mask : BitVec 10} {z : Nat} (law : SpacingLaw s) : SpacingLaw (s.holdOrPurge mask z) := by
  unfold State.holdOrPurge
  split
  · exact (State.regulate_keeps _ z).spacing (State.moveZone_spacing law)
  · exact State.moveZone_spacing law

theorem State.holdWaiting_spacing {s : State} {mask : BitVec 10} {z : Nat} (law : SpacingLaw s) :
    SpacingLaw (State.holdWaiting mask s z) := by
  unfold State.holdWaiting
  split
  · exact law
  · split
    · exact State.holdOrPurge_spacing law
    · exact law

theorem State.holdRest_spacing {s : State} {mask : BitVec 10} {z : Nat} (law : SpacingLaw s) :
    SpacingLaw (State.holdRest mask s z) := by
  unfold State.holdRest
  split
  · exact law
  · split
    · exact State.holdOrPurge_spacing law
    · exact State.holdOrPurge_spacing law
    · exact State.holdOrPurge_spacing law
    all_goals exact law

theorem State.shutRest_spacing {s : State} {z : Nat} (law : SpacingLaw s) : SpacingLaw (s.shutRest z) := by
  unfold State.shutRest
  split
  · exact law
  · split
    · exact State.moveZone_spacing law
    · exact State.moveZone_spacing law
    · exact State.moveZone_spacing law
    · exact State.moveZone_spacing law
    · exact State.moveZone_spacing law
    all_goals exact law

theorem State.eachZone_spacing {s : State} {f : State → Nat → State} (law : SpacingLaw s)
    (hf : ∀ u z, SpacingLaw u → SpacingLaw (f u z)) : SpacingLaw (s.eachZone f) :=
  State.eachZone_induct (fun _ u => SpacingLaw u) law fun k u _ => hf u k

/-! ## The line at a hold and at a shutdown -/

/-- What queue, slots and layout are before the zones act on a hold or a shutdown. -/
theorem State.changeLine_ramp {s : State} (law : ArbiterLaw s) (new : LineState) :
    RampLaw (s.changeLine new) ∧ ∀ a ∈ (s.changeLine new).zones, a.startPending = true → a.state = .purging := by
  obtain ⟨-, store, arbiter, zones⟩ := s.changeLine_alike new
  refine ⟨law.ramp.of_alike (by rw [store]) (by rw [arbiter]) zones, fun a ha hp => ?_⟩
  obtain ⟨z, hz⟩ := List.mem_iff_getElem?.mp ha
  obtain ⟨b, hb, state, pending⟩ := getElem?_standing zones hz
  obtain ⟨-, purges, -⟩ := law.allows hb
  rw [state]
  exact purges (pending ▸ hp)

theorem State.changeLine_spacing {s : State} (law : SpacingLaw s) (new : LineState) : SpacingLaw (s.changeLine new) := by
  obtain ⟨-, store, arbiter, -⟩ := s.changeLine_alike new
  exact law.of_alike (by rw [store]) arbiter

theorem State.holdLine_keeps (s : State) (mask : BitVec 10) (o : HoldOrigin) : Keeps s (s.holdLine mask o) := by
  unfold State.holdLine
  dsimp only
  refine ⟨fun law => ?_, fun law => ?_⟩
  · obtain ⟨line, -⟩ := s.changeLine_alike .hold
    obtain ⟨ramp, pending⟩ := State.changeLine_ramp law .hold
    have ⟨_, queue, _⟩ := ramp
    rw [State.holdZones_eq (by exact queue)]
    refine .of_rests ramp rfl rfl List.length_mapIdx fun b hb => ?_
    obtain ⟨z, hz, rfl⟩ := List.mem_mapIdx.mp hb
    obtain ⟨still, rests⟩ := State.heldRest_rests _ mask z (pending _ (List.getElem_mem hz))
    exact LineState.allows_held (ls := (s.changeLine .hold).line.state) (.inl line) still (rests.imp_right (.imp_right (.imp_right (⟨·, line⟩))))
  · have changed : SpacingLaw (s.changeLine .hold) := State.changeLine_spacing law .hold
    exact State.eachZone_spacing (State.eachZone_spacing changed fun _ _ => State.holdWaiting_spacing) fun _ _ => State.holdRest_spacing

theorem State.shutLine_keeps (s : State) : Keeps s s.shutLine := by
  unfold State.shutLine
  refine ⟨fun law => ?_, fun law => ?_⟩
  · obtain ⟨line, -⟩ := s.changeLine_alike .shutdown
    obtain ⟨ramp, pending⟩ := State.changeLine_ramp law .shutdown
    have ⟨_, queue, _⟩ := ramp
    rw [State.shutZones_eq queue]
    refine .of_rests ramp rfl rfl List.length_mapIdx fun b hb => ?_
    obtain ⟨z, hz, rfl⟩ := List.mem_mapIdx.mp hb
    obtain ⟨still, rests⟩ := State.shutRested_rests _ z (pending _ (List.getElem_mem hz))
    exact LineState.allows_held (ls := (s.changeLine .shutdown).line.state) (.inr line) still (rests.imp_right (.imp_right .inl))
  · have changed : SpacingLaw (s.changeLine .shutdown) := State.changeLine_spacing law .shutdown
    rw [State.shutZones, State.shutWaiting_eq]
    exact State.eachZone_spacing (State.eachZone_spacing changed fun _ _ => State.holdWaiting_spacing) fun _ _ => State.shutRest_spacing

end Sys2Proof.Machine
end


section
/-! Every command and every step under the law of the arbiter and of its spacing timer. -/

namespace Sys2Proof.Machine

-- One theorem at a time: each thread of Lean reserves its stack, and many at once pass the memory limit of the check.
set_option Elab.async false

/-! ## Capture, shifts and the chains' events -/

theorem State.setSeq_keeps (s : State) (c : Chain) (q : Sequencer) : Keeps s (s.setSeq c q) := by cases c <;> exact .alike {}

theorem State.writeOutAttempt_keeps (s : State) : Keeps s s.writeOutAttempt := by
  unfold State.writeOutAttempt
  split
  · exact .refl s
  · split
    · obtain ⟨c, ls, q, n, h⟩ := s.scrapNoLot_frame ‹_›
      rw [h]
      exact .alike {}
    · split
      · split
        · unfold State.writeOut
          dsimp only
          refine Keeps.trans ?_ (State.wakeZone_keeps _ 0)
          obtain ⟨n, h⟩ := State.landingNotice_frame _
          rw [h]
          exact .alike {}
        · exact .refl s
      · exact .refl s

theorem State.beginRod_keeps (s : State) : Keeps s s.beginRod := by
  obtain ⟨c, ls, h⟩ := s.beginRod_frame
  rw [h]
  exact .alike {}

theorem State.endRod_keeps (s : State) (noCut : Bool) : Keeps s (s.endRod noCut) := by
  have counted : ∀ (t : State) (p : Bool) (k : NoticeKind) (d : Word32), Keeps t (if p then t.raise k d else t) := fun t p k d => by
    split
    · exact t.raise_keeps k d
    · exact .refl t
  have numbered : Keeps s (s.setCapture { s.capture with rodCounter := nextNumber s.numberGiven }) := .alike {}
  have cleared : ∀ t : State, Keeps t t.clearChannels := fun _ => .alike {}
  unfold State.endRod
  dsimp only
  have flagged := numbered.trans (counted _ ((s.capture.channels.map (·.overflow)).any id) .counterOverflow s.numberGiven)
  dsimp only at flagged ⊢
  refine Keeps.trans ?_ (cleared _)
  revert flagged
  generalize (if (s.capture.channels.map (·.overflow)).any id = true then State.raise _ .counterOverflow s.numberGiven else _) = u
  intro flagged
  refine flagged.trans ?_
  split
  · exact Keeps.trans (.alike {}) (State.writeOutAttempt_keeps _)
  · obtain ⟨ls, q, n, h⟩ := u.scrapOverrun_frame s.numberGiven s.clock
    rw [h]
    exact .alike {}

theorem State.hangEdge_keeps (s : State) : Keeps s s.hangEdge := by
  unfold State.hangEdge
  split
  · exact s.raiseNat_keeps _ _
  · exact s.beginRod_keeps
  · exact (s.endRod_keeps true).trans (State.beginRod_keeps _)

theorem State.cutEdge_keeps (s : State) : Keeps s s.cutEdge := by
  unfold State.cutEdge
  split
  · exact s.raiseNat_keeps _ _
  · exact s.raiseNat_keeps _ _
  · exact (s.endRod_keeps false).trans (.alike {})

theorem State.shift_keeps (s : State) (c : Chain) : Keeps s (s.shift c) := by
  cases c with
  | pre =>
    have moved : Keeps s s.movePre := .alike {}
    show Keeps s s.preShift
    unfold State.preShift
    dsimp only
    split
    · obtain ⟨ls, h⟩ := s.movePre.countGap_frame
      have counted : Keeps s.movePre s.movePre.countGap := by
        rw [h]
        exact .alike {}
      exact (moved.trans counted).trans (State.writeOutAttempt_keeps _)
    · exact moved.trans (State.writeOutAttempt_keeps _)
  | main =>
    obtain ⟨rs, ms, bs, d, ls, q, n, h⟩ := s.mainShift_frame
    show Keeps s s.mainShift
    rw [h]
    exact .alike {}

theorem State.adopt_keeps (c : Chain) (s : State) (z : Nat) : Keeps s (State.adopt c s z) := by
  unfold State.adopt
  split
  · split
    · split
      · exact .refl s
      · split
        · exact .refl s
        · split
          · exact s.retarget_keeps z _
          · exact .refl s
    · exact .refl s
  · exact .refl s

theorem State.line_of_notices_frame {f : State → Nat → State} (hf : ∀ s z, ∃ zs n, f s z = { s with zones := zs, notices := n }) (u : State)
    (z : Nat) : (f u z).line = u.line := by
  obtain ⟨zs, n, h⟩ := hf u z
  rw [h]

theorem State.releaseBlocked_keeps (s : State) (c : Chain) : Keeps s (s.releaseBlocked c) := by
  obtain ⟨a, b, h⟩ := s.releaseBlocked_frame c
  rw [h]
  exact .alike {}

theorem State.handOff_keeps (s : State) (c : Chain) (took : Bool) : Keeps s (s.handOff c took) := by
  have adopts : Keeps s (s.eachZone (State.adopt c)) :=
    State.eachZone_keeps _ _ (State.line_of_notices_frame (State.adopt_frame c)) fun u z _ => u.adopt_keeps c z
  have wakes := fun u : State => State.eachZone_keeps u _ (State.line_of_frame State.wakeZone_frame) fun u z _ => u.wakeZone_keeps z
  have runsOut := fun u : State => State.eachZone_keeps u _ (State.line_of_frame State.runOutZone_frame) fun u z _ => u.runOutZone_keeps z
  have zones := (adopts.trans (State.followEconomy_keeps _)).trans ((wakes _).trans (runsOut _))
  unfold State.handOff
  dsimp only
  split
  · exact zones.trans (State.releaseBlocked_keeps _ _)
  · exact zones

theorem State.applyShift_keeps (s : State) (c : Chain) : Keeps s (s.applyShift c) :=
  ((s.shift_keeps c).trans (State.handOff_keeps _ c _)).trans (State.setSeq_keeps _ c _)

theorem State.stepDone_keeps (s : State) (c : Chain) : Keeps s (s.stepDone c) := by
  unfold State.stepDone
  split
  · unfold State.afterStep
    split
    · exact (s.applyShift_keeps c).trans (State.setSeq_keeps _ c _)
    · exact (s.applyShift_keeps c).trans (State.setSeq_keeps _ c _)
  · split
    · exact s.raiseNat_keeps _ _
    · exact ((s.applyShift_keeps c).trans (State.setSeq_keeps _ c _)).trans (State.raiseNat_keeps _ _ _)
  all_goals exact s.raiseNat_keeps _ _

theorem State.intervalExpiry_keeps (s : State) (c : Chain) : Keeps s (s.intervalExpiry c) := by
  unfold State.intervalExpiry
  split
  · split
    · exact s.setSeq_keeps c _
    · split
      · exact s.setSeq_keeps c _
      · exact s.setSeq_keeps c _
  · exact .refl s

theorem State.stepTimeout_keeps (s : State) (c : Chain) : Keeps s (s.stepTimeout c) := by
  unfold State.stepTimeout
  dsimp only
  split
  · have jammed := (s.setSeq_keeps c { (s.seq c).enter s.clock .jammed with lateApplied := false }).trans
      (State.raiseNat_keeps _ .chainJam (chainCode c))
    split
    · exact jammed.trans (State.holdLine_keeps _ _ _)
    · exact jammed
  · exact .refl s

theorem State.blockLimit_keeps (s : State) (c : Chain) : Keeps s (s.blockLimit c) := by
  unfold State.blockLimit
  split
  · exact (s.setSeq_keeps c _).trans (State.raiseNat_keeps _ _ _)
  · exact .refl s

theorem State.stripReadyChange_keeps (s : State) (level : Bool) : Keeps s (s.stripReadyChange level) := by
  unfold State.stripReadyChange
  dsimp only
  split
  · exact Keeps.trans (.alike {}) (State.releaseBlocked_keeps _ _)
  · exact .alike {}

theorem chainClearOp_keeps (chain moved : Byte) (s : State) : Keeps s (chainClearOp chain moved s).1 := by
  unfold chainClearOp
  split
  · exact .refl s
  · rename_i c _
    split
    · exact .refl s
    · split
      · exact .refl s
      · refine Keeps.trans ?_ (State.settle_keeps _)
        obtain ⟨q, h, -⟩ := s.clearJam_eq c moved
        rw [h]
        refine Keeps.trans ?_ (State.setSeq_keeps _ c q)
        split
        · exact s.applyShift_keeps c
        · exact .refl s

/-! ## Requests -/

theorem lineStartOp_keeps (s : State) : Keeps s (lineStartOp s).1 := by
  unfold lineStartOp
  split
  · exact .refl s
  · exact .refl s
  · exact s.startLine_keeps _

theorem lineHoldOp_keeps (mask : BitVec 16) (s : State) : Keeps s (lineHoldOp mask s).1 := by
  unfold lineHoldOp
  split
  · exact s.holdLine_keeps _ _
  · exact .refl s

theorem State.broadcastHold_keeps (s : State) : Keeps s s.broadcastHold := by
  unfold State.broadcastHold
  split
  · exact s.holdLine_keeps _ _
  · exact .refl s

theorem lineReleaseOp_keeps (s : State) : Keeps s (lineReleaseOp s).1 := by
  unfold lineReleaseOp
  split
  · exact s.releaseLine_keeps
  · exact .refl s

theorem lineRunOutOp_keeps (s : State) : Keeps s (lineRunOutOp s).1 := by
  unfold lineRunOutOp
  split
  · exact .refl s
  · split
    · exact .refl s
    · exact s.runOutLine_keeps

theorem lineShutdownOp_keeps (s : State) : Keeps s (lineShutdownOp s).1 := by
  unfold lineShutdownOp
  split
  · exact s.shutLine_keeps
  · exact .refl s

theorem zoneRestartOp_keeps (zone : Byte) (s : State) : Keeps s (zoneRestartOp zone s).1 := by
  unfold zoneRestartOp
  split
  · exact .refl s
  · split
    · exact .refl s
    · split
      · exact (State.restartZone_keeps ‹_› ‹_›).trans (State.settle_keeps _)
      · exact .refl s

theorem lotOpenOp_keeps (id : Word32) (profile gap : Byte) (s : State) : Keeps s (lotOpenOp id profile gap s).1 := by
  unfold lotOpenOp
  split
  · exact .refl s
  · obtain ⟨ls, h⟩ := s.closeOpenLot.putLot_frame (Lot.new id profile.toNat gap.toNat)
    have put : Keeps s.closeOpenLot (s.closeOpenLot.putLot (Lot.new id profile.toNat gap.toNat)) := by
      rw [h]
      exact .alike {}
    exact s.closeOpenLot_keeps.trans put

theorem lotCloseOp_keeps (s : State) : Keeps s (lotCloseOp s).1 := by
  unfold lotCloseOp
  split
  · exact .refl s
  · exact s.closeOpenLot_keeps

theorem rodMarkOp_keeps (n : Word32) (s : State) : Keeps s (rodMarkOp n s).1 := by
  unfold rodMarkOp
  split
  · exact .refl s
  · split
    · exact .refl s
    · exact .alike {}

theorem noticeFetchOp_keeps (s : State) : Keeps s (noticeFetchOp s).1 := by
  unfold noticeFetchOp
  split
  · exact .refl s
  · exact .alike {}

theorem lineCheckOp_keeps (s : State) : Keeps s (lineCheckOp s).1 := by
  unfold lineCheckOp
  split
  · exact .refl s
  · exact .alike {}

/-! ## The probe bus (R134, R152 to R162) -/

theorem State.startRound_keeps (s : State) : Keeps s s.startRound := by
  rw [State.startRound_eq]
  exact .alike {}

theorem State.finishInit_keeps {s : State} (h : s.line.state = .init) : Keeps s s.finishInit := by
  have raised := s.raiseNat_keeps .initDone s.initResult
  have off (law : ArbiterLaw (s.raiseNat .initDone s.initResult)) : ∀ zn ∈ s.zones, zn.state = .off := fun zn hz => by
    obtain ⟨rest, -⟩ := (arbiterLaw_iff.mp law).2 zn hz
    exact rest (.inl h)
  unfold State.finishInit
  refine Keeps.trans ?_ (State.startRound_keeps _)
  split
  · exact raised.trans (State.changeLine_off off)
  · exact raised.trans (State.changeLine_off off)

theorem State.takeReading_keeps (s : State) (i : Nat) (r : Reading) : Keeps s (s.takeReading i r) := by
  have read : Keeps s (s.modProbe i fun p => p.read r) := .alike {}
  unfold State.takeReading
  dsimp only
  split
  · exact read
  · exact (read.trans (State.zoneReading_keeps _ i r)).trans ((State.followEconomy_keeps _).trans (State.tryRunning_keeps _))

theorem State.takeVerdict_keeps (s : State) (i : Nat) (v : Verdict) : Keeps s (s.takeVerdict i v) := by
  unfold State.takeVerdict
  split
  · split
    · unfold State.takeMiss
      dsimp only
      split
      · exact .alike {}
      · exact .alike {}
    · exact s.takeReading_keeps i _
  · exact .refl s

theorem State.endPoll_keeps (s : State) (i : Nat) (v : Verdict) : Keeps s (s.endPoll i v) := by
  have ended : Keeps s (s.setProbeBus { s.probeBus with inFlight := none }) := .alike {}
  have taken := ended.trans (State.takeVerdict_keeps _ i v)
  unfold State.endPoll
  dsimp only
  split
  · rename_i hs
    refine taken.trans ?_
    unfold State.scanNext
    dsimp only
    split
    · exact .alike {}
    · exact State.finishInit_keeps (State.scanning_init hs)
  · split
    · exact taken.trans (State.startRound_keeps _)
    · exact taken

theorem State.beginPoll_keeps (s : State) (i : Nat) (high : Bool) : Keeps s (s.beginPoll i high) := by
  unfold State.beginPoll
  split
  · exact .alike {}
  · exact s.endPoll_keeps i _

theorem State.nextPoll_keeps (s : State) (l : Layout) : Keeps s (s.nextPoll l) := by
  unfold State.nextPoll
  dsimp only
  split <;> exact .alike {}

theorem State.pollDue_keeps (s : State) (high : Bool) : Keeps s (s.pollDue high) := by
  have pins : Keeps s (s.setPins { s.pins with probeData := high }) := .alike {}
  unfold State.pollDue
  split
  · exact .refl s
  · dsimp only
    split
    · exact Keeps.trans (.alike {}) (State.beginPoll_keeps _ _ _)
    · split
      · exact .alike {}
      · have next := pins.trans (State.nextPoll_keeps _ ‹_›)
        split
        · exact next.trans (State.beginPoll_keeps _ _ _)
        · exact next

theorem State.pollStop_keeps (s : State) (reply : Option ProbeReply) : Keeps s (s.pollStop reply) := by
  unfold State.pollStop
  split
  · exact .refl s
  · exact s.endPoll_keeps _ _

theorem State.busFault_keeps (s : State) : Keeps s s.busFault := by
  unfold State.busFault
  split
  · have faulted (b : ProbeBus) : Keeps s (((s.setPins { s.pins with probeClk := false }).setProbeBus b).raise .probeBusFault 0) :=
      .alike {}
    dsimp only
    split
    · rename_i hs
      exact (faulted _).trans (State.finishInit_keeps (State.scanning_init hs))
    · split
      · exact (faulted _).trans (State.startRound_keeps _)
      · exact faulted _
  · exact .refl s

theorem State.recoveryAttempt_keeps (s : State) (high : Bool) : Keeps s (s.recoveryAttempt high) := by
  unfold State.recoveryAttempt
  split
  · split
    · exact .alike {}
    · dsimp only
      split
      · exact Keeps.trans (.alike {}) (State.startRound_keeps _)
      · exact .alike {}
  · exact .refl s

theorem State.endCheck_keeps (s : State) (code : CheckCode) (distance : Nat) : Keeps s (s.endCheck code distance) := .alike {}

theorem State.checkBegin_keeps (s : State) (high : Bool) : Keeps s (s.checkBegin high) := by
  unfold State.checkBegin
  split
  · dsimp only
    split
    · exact .alike {}
    · exact .alike {}
  · exact .refl s

theorem State.quietEdge_keeps (s : State) : Keeps s s.quietEdge := by
  unfold State.quietEdge
  split
  · exact s.endCheck_keeps _ _
  · exact .refl s

theorem State.quietEnd_keeps (s : State) : Keeps s s.quietEnd := by
  unfold State.quietEnd
  split
  · exact .alike {}
  · exact .refl s

theorem State.checkEnd_keeps (s : State) (r : Reflection) : Keeps s (s.checkEnd r) := by
  unfold State.checkEnd
  split
  · exact s.endCheck_keeps _ _
  · exact .refl s

/-! ## The store (R133, R137, R172 to R175) -/

/-- A new layout is set up where the line rests and its zones are OFF, so none waits (R75, R137). -/
theorem State.setupLayout_keeps {s : State} (l : Layout) (now : Word32) (rests : s.line.state.resting) : Keeps s (s.setupLayout l now) := by
  have under : s.arbiter.under l = { s.arbiter with spacing := if l.rampSpacing = 0 then none else s.arbiter.spacing } :=
    Arbiter.under_eq l s.arbiter
  refine ⟨fun law => ?_, fun ⟨first, zero⟩ => ⟨?_, fun l' hl' h0 => ?_⟩⟩
  · have empty : s.arbiter.queue = [] := List.eq_nil_iff_forall_not_mem.mpr fun z hz => by
      obtain ⟨a, ha, waits⟩ := (law.queue_iff z).mp hz
      exact nomatch waits.symm.trans ((law.allows ha).1 rests)
    have queue : (s.setupLayout l now).arbiter.queue = [] := by
      show (s.arbiter.under l).queue = []
      rw [under]
      exact empty
    have fresh : ∀ zn ∈ (s.setupLayout l now).zones, zn = Zone.fresh now := fun zn hz => List.eq_of_mem_replicate hz
    refine arbiterLaw_iff.mpr ⟨⟨by rw [queue]; exact List.nodup_nil, fun z => ?_, fun l' _ => ?_, (nomatch ·), fun l' hl' => ?_⟩,
      fun zn hz => ?_⟩
    · rw [queue]
      refine ⟨fun h => absurd h List.not_mem_nil, fun ⟨a, ha, waits⟩ => ?_⟩
      rw [fresh a (List.mem_of_getElem? ha)] at waits
      exact nomatch waits
    · have idle : (s.setupLayout l now).slotsInUse = 0 := List.countP_eq_zero.mpr fun zn hz => by
        rw [fresh zn hz]
        exact Bool.false_ne_true
      omega
    · cases hl'
      exact List.length_replicate
    · rw [fresh zn hz]
      exact LineState.allows_off _ rfl rfl
  · show (s.arbiter.under l).granted = false → (s.arbiter.under l).spacing = none
    rw [under]
    intro never
    dsimp only
    rw [first never, ite_self]
  · cases hl'
    show (s.arbiter.under l).spacing = none
    rw [under]
    exact if_pos h0

theorem State.setupPolls_keeps (s : State) (l : Layout) : Keeps s (s.setupPolls l) := by
  unfold State.setupPolls
  dsimp only
  split
  · exact .alike {}
  · exact Keeps.trans (.alike {}) (State.startRound_keeps _)

theorem State.installLayout_keeps {s : State} (l : Layout) (h : s.line.state = .cold ∨ s.line.state = .unconfigured) :
    Keeps s (s.installLayout l) := by
  have rests : s.line.state.resting := h.elim (.inr ∘ .inr) (.inr ∘ .inl)
  have installed := (State.setupLayout_keeps l s.clock rests).trans (State.setupPolls_keeps _ l)
  have line : ((s.setupLayout l s.clock).setupPolls l).line = s.line := by
    unfold State.setupPolls
    dsimp only
    split
    · rfl
    · rw [State.startRound_eq]
      rfl
  unfold State.installLayout
  dsimp only
  split
  · refine installed.trans (State.changeLine_off fun law zn hz => ?_)
    obtain ⟨rest, -⟩ := (arbiterLaw_iff.mp law).2 zn hz
    exact rest (line.symm ▸ rests)
  · exact installed

theorem State.loadBlock_keeps {s : State} (b : Nat) (bytes : Option (List Byte)) (h : s.line.state = .init) :
    Keeps s (s.loadBlock b bytes) := by
  unfold State.loadBlock
  split
  · unfold State.loadLayout
    split
    · exact State.setupLayout_keeps _ _ (.inl h)
    · exact .refl s
    · exact .refl s
  · split
    · unfold State.loadProfile
      split <;> exact .alike {}
    · unfold State.loadTable
      split <;> exact .alike {}

theorem State.loadNext_keeps (s : State) (b : Nat) : Keeps s (s.loadNext b) := by
  unfold State.loadNext
  dsimp only
  split
  · exact .alike {}
  · split
    · exact .alike {}
    · split
      · exact .alike {}
      · exact .alike {}

theorem State.setStatus_keeps (s : State) (b : Nat) (st : StoreStatus) : Keeps s (s.setStatus b st) := .alike {}

theorem State.loadEnds_keeps (s : State) (bytes : Option (List Byte)) : Keeps s (s.loadEnds bytes) := by
  unfold State.loadEnds
  split
  · rename_i loads
    have init : s.line.state = .init := by
      simp only [State.loading, Bool.and_eq_true, beq_iff_eq] at loads
      exact loads.1
    refine Keeps.trans ?_ ((State.setStatus_keeps _ _ .current).trans (State.loadNext_keeps _ _))
    split
    · exact (s.raiseNat_keeps _ _).trans (State.loadBlock_keeps _ _ init)
    · exact State.loadBlock_keeps _ _ init
  · exact .refl s

theorem State.regovern_keeps (p : Nat) (s : State) (z : Nat) : Keeps s (State.regovern p s z) := by
  unfold State.regovern
  split
  · exact .refl s
  · split
    · split
      · exact s.retarget_keeps z _
      · exact .refl s
    · exact .refl s

theorem State.regovern_line (p : Nat) (s : State) (z : Nat) : (State.regovern p s z).line = s.line := by
  unfold State.regovern
  split
  · rfl
  · split
    · split
      · obtain ⟨zs, n, h⟩ := s.retarget_frame z _
        rw [h]
      · rfl
    · rfl

theorem State.completeProfile_keeps (s : State) (b : Nat) (new : ProfileSlot) : Keeps s (s.completeProfile b new) := by
  unfold State.completeProfile
  split
  · exact s.setStatus_keeps _ _
  · exact Keeps.trans (.alike {}) (State.eachZone_keeps _ _ (State.regovern_line _) fun u z _ => u.regovern_keeps _ z)

theorem State.completeJob_keeps (s : State) (j : Job) : Keeps s (s.completeJob j) := by
  have done : Keeps s ((s.setStore { s.store with job := none }).raiseNat .storeDone j.block) := .alike {}
  unfold State.completeJob
  dsimp only
  split
  · exact done.trans (State.completeProfile_keeps _ _ _)
  · exact done.trans (State.completeProfile_keeps _ _ _)
  · exact .alike {}
  · unfold State.completeLayout
    split
    · exact (done.trans (State.setStatus_keeps _ _ _)).trans (State.installLayout_keeps _ ‹_›)
    · exact done.trans (State.setStatus_keeps _ _ _)

theorem State.pageAck_keeps (s : State) : Keeps s s.pageAck := by
  unfold State.pageAck
  split
  · exact .refl s
  · split
    · exact .alike {}
    · exact s.completeJob_keeps _

theorem State.failJob_keeps (s : State) (j : Job) (written : Bool) : Keeps s (s.failJob j written) := by
  unfold State.failJob
  dsimp only
  split <;> exact .alike {}

theorem State.pageTimeout_keeps (s : State) : Keeps s s.pageTimeout := by
  unfold State.pageTimeout
  split
  · exact .refl s
  · exact s.failJob_keeps _ _

theorem State.pageNack_keeps (s : State) : Keeps s s.pageNack := by
  unfold State.pageNack
  split
  · exact .refl s
  · exact s.failJob_keeps _ _

theorem profileWriteOp_keeps (slot : Byte) (image : List Byte) (s : State) : Keeps s (profileWriteOp slot image s).1 := by
  unfold profileWriteOp
  split
  · exact .refl s
  · split
    · exact .refl s
    · split
      · exact .refl s
      · split
        · exact .refl s
        · exact .alike {}

theorem profileEraseOp_keeps (slot : Byte) (s : State) : Keeps s (profileEraseOp slot s).1 := by
  unfold profileEraseOp
  split
  · exact .refl s
  · split
    · exact .refl s
    · split
      · exact .refl s
      · exact .alike {}

theorem tableWriteOp_keeps (row : Byte) (entries : List Nat) (s : State) : Keeps s (tableWriteOp row entries s).1 := by
  unfold tableWriteOp
  split
  · exact .refl s
  · split
    · exact .refl s
    · split
      · exact .refl s
      · exact .alike {}

theorem layoutWriteOp_keeps (image : List Byte) (s : State) : Keeps s (layoutWriteOp image s).1 := by
  unfold layoutWriteOp
  split
  · exact .refl s
  · split
    · exact .refl s
    · split
      · exact .refl s
      · exact .alike {}

/-! ## The link and both resets (R149, R150, R191 to R193) -/

theorem State.answer_keeps (s : State) (code : Byte) (a : Answer) : Keeps s (s.answer code a) := .alike {}

theorem State.serveAlways_keeps {s : State} {op : State → State × Answer} (code : Byte) (h : Keeps s (op s).1) :
    Keeps s (s.serveAlways code op) := h.trans (State.answer_keeps _ _ _)

theorem State.serve_keeps {s : State} {op : State → State × Answer} (code : Byte) (h : Keeps s (op s).1) : Keeps s (s.serve code op) := by
  rcases s.serve_cases code op with ⟨-, he⟩ | ⟨-, he⟩ <;> rw [he]
  · exact s.answer_keeps _ _
  · exact h.trans (State.answer_keeps _ _ _)

theorem State.serveSized_keeps {s : State} {op : State → State × Answer} (code : Byte) (sized : Bool) (h : Keeps s (op s).1) :
    Keeps s (s.serveSized code sized op) := by
  unfold State.serveSized
  split
  · exact s.serve_keeps code h
  · exact s.answer_keeps _ _

theorem State.setClock_keeps (s : State) (v : Word32) : Keeps s (s.setClock v) := .alike {}

theorem State.ownerServe_keeps (s : State) (code : Byte) (p : List Byte) : Keeps s (s.ownerServe code p) := by
  unfold State.ownerServe
  split
  · exact s.serveAlways_keeps _ (.refl s)
  · exact s.serveAlways_keeps _ (.refl s)
  · exact s.serve_keeps _ (s.setClock_keeps _)
  · exact s.serveAlways_keeps _ (.refl s)
  · exact s.serve_keeps _ (.alike {})
  · exact s.serve_keeps _ (lineStartOp_keeps s)
  · exact s.serve_keeps _ (lineHoldOp_keeps _ s)
  · exact s.serve_keeps _ (lineReleaseOp_keeps s)
  · exact s.serve_keeps _ (lineRunOutOp_keeps s)
  · exact s.serve_keeps _ (lineShutdownOp_keeps s)
  · exact s.serve_keeps _ (.refl s)
  · exact s.serve_keeps _ (zoneRestartOp_keeps _ s)
  · exact s.serve_keeps _ (.same (chainReadOp_same _ s))
  · exact s.serve_keeps _ (chainClearOp_keeps _ _ s)
  · exact s.serve_keeps _ (.refl s)
  · exact s.serve_keeps _ (lotOpenOp_keeps _ _ _ s)
  · exact s.serve_keeps _ (lotCloseOp_keeps s)
  · exact s.serve_keeps _ (.refl s)
  · exact s.serve_keeps _ (.refl s)
  · exact s.serve_keeps _ (rodMarkOp_keeps _ s)
  · exact s.serve_keeps _ (.refl s)
  · exact s.serve_keeps _ (.refl s)
  · exact s.serve_keeps _ (.alike {})
  · exact s.serveAlways_keeps _ (noticeFetchOp_keeps s)
  · exact s.serve_keeps _ (.alike {})
  · exact s.serve_keeps _ (.same (profileReadOp_same _ s))
  · exact s.serve_keeps _ (profileWriteOp_keeps _ _ s)
  · exact s.serve_keeps _ (profileEraseOp_keeps _ s)
  · exact s.serve_keeps _ (.same (tableReadOp_same _ s))
  · exact s.serve_keeps _ (tableWriteOp_keeps _ _ s)
  · exact s.serve_keeps _ (.refl s)
  · exact s.serve_keeps _ (layoutWriteOp_keeps _ s)
  · exact s.serve_keeps _ (.same (probeReadOp_same _ s))
  · exact s.serve_keeps _ (lineCheckOp_keeps s)
  · exact s.serve_keeps _ (.refl s)
  · exact s.answer_keeps _ _

theorem State.hunt_keeps (s : State) : Keeps s s.hunt := .alike {}

theorem State.takeFrame_keeps (s : State) (f : Frame) : Keeps s (s.takeFrame f) := by
  unfold State.takeFrame
  split
  · refine s.hunt_keeps.trans ?_
    unfold State.takeBroadcast
    split
    · exact .refl _
    · split
      · exact State.setClock_keeps _ _
      · split
        · exact State.broadcastHold_keeps _
        · exact .refl _
  · unfold State.takeRequest
    split
    · exact s.answer_keeps _ _
    · split
      · exact s.ownerServe_keeps _ _
      · exact s.answer_keeps _ _

theorem State.frameIn_keeps (s : State) (f : Frame) : Keeps s (s.frameIn f) := by
  unfold State.frameIn
  dsimp only
  split
  · exact s.hunt_keeps
  · split
    · exact s.hunt_keeps.trans (State.takeFrame_keeps _ f)
    · split
      · exact .alike {}
      · exact s.hunt_keeps
    · exact s.hunt_keeps

theorem State.linkByte_keeps (s : State) (b : Byte) : Keeps s (s.linkByte b) := by
  have collects : ∀ bytes, Keeps s (s.collect bytes) := fun bytes => by
    unfold State.collect
    split
    · exact s.hunt_keeps
    · split
      · unfold State.closeFrame
        dsimp only
        split
        · exact s.frameIn_keeps _
        · exact s.hunt_keeps
      · exact .alike {}
  unfold State.linkByte
  split
  · exact .refl s
  · split
    · split
      · exact .alike {}
      · exact .refl s
    · exact collects _

/-- Both laws hold after a reset, whatever was before. -/
theorem State.atReset_keeps (s : State) (kind : ResetKind) (now : Word32) (enabled : BitVec 20) :
    Keeps s (s.atReset kind now enabled) := by
  refine ⟨fun _ => arbiterLaw_iff.mpr ⟨⟨List.nodup_nil, fun z => ?_, (fun _ h => nomatch h), fun _ => rfl, (fun _ h => nomatch h)⟩,
    fun zn hz => ?_⟩,
    fun _ => ⟨fun _ => rfl, fun _ _ _ => rfl⟩⟩
  · exact ⟨fun h => absurd h List.not_mem_nil, fun ⟨_, ha, _⟩ => nomatch ha⟩
  · exact absurd hz List.not_mem_nil

theorem State.replyEnd_keeps (s : State) : Keeps s s.replyEnd := by
  have idle : Keeps s (s.setLink { s.link with port := .idle, receiver := .hunting, held := none }) := .alike {}
  unfold State.replyEnd
  split
  · exact .refl s
  · split
    · exact s.atReset_keeps _ _ _
    · dsimp only
      split
      · exact idle
      · exact idle.trans (State.takeFrame_keeps _ _)

/-! ## Commands and steps -/

theorem Keeps.of_next {s t u : State} (k : Keeps s u) (h : (Host.Outcome.next u : Host.Outcome State Fault Refusal) = .next t) :
    Keeps s t := by
  cases h
  exact k

theorem Keeps.of_guarded {p : Prop} [Decidable p] {s t u : State} {r : Refusal} (k : Keeps s u)
    (h : (if p then Host.Outcome.next u else Host.Outcome.refused r : Host.Outcome State Fault Refusal) = .next t) : Keeps s t := by
  split at h
  · exact k.of_next h
  · cases h

/-- Every command that answers a next state keeps both laws. -/
theorem exec_keeps (c : Instr) (s t : State) (h : exec c s = .next t) : Keeps s t := by
  cases c with
  | identify => exact (s.serveAlways_keeps _ (.refl s)).of_next h
  | status => exact (s.serveAlways_keeps _ (.refl s)).of_next h
  | timeSet value => exact (s.serve_keeps _ (s.setClock_keeps _)).of_next h
  | broadcastTimeSet value =>
    refine Keeps.of_next (u := if s.line.state = .init then s.hunt else s.hunt.setClock value) ?_ h
    split
    · exact s.hunt_keeps
    · exact s.hunt_keeps.trans (State.setClock_keeps _ _)
  | timeRead => exact (s.serveAlways_keeps _ (.refl s)).of_next h
  | reset => exact (s.serve_keeps _ (.alike {})).of_next h
  | softReset addr baud => exact (Keeps.trans (t := s.strap addr baud) (.alike {}) (State.atReset_keeps _ _ _ _)).of_next h
  | powerOnReset addr baud => exact (Keeps.trans (t := s.strap addr baud) (.alike {}) (State.atReset_keeps _ _ _ _)).of_next h
  | lineStart => exact (s.serve_keeps _ (lineStartOp_keeps s)).of_next h
  | lineHold mask => exact (s.serve_keeps _ (lineHoldOp_keeps mask s)).of_next h
  | broadcastLineHold mask => exact (s.hunt_keeps.trans (State.broadcastHold_keeps _)).of_next h
  | lineRelease => exact (s.serve_keeps _ (lineReleaseOp_keeps s)).of_next h
  | lineRunOut => exact (s.serve_keeps _ (lineRunOutOp_keeps s)).of_next h
  | lineShutdown => exact (s.serve_keeps _ (lineShutdownOp_keeps s)).of_next h
  | zoneRead zone => exact (s.serve_keeps _ (.refl s)).of_next h
  | zoneRestart zone => exact (s.serve_keeps _ (zoneRestartOp_keeps zone s)).of_next h
  | chainRead chain => exact (s.serve_keeps _ (.same (chainReadOp_same chain s))).of_next h
  | chainClear chain moved => exact (s.serve_keeps _ (chainClearOp_keeps chain moved s)).of_next h
  | captureRead => exact (s.serve_keeps _ (.refl s)).of_next h
  | lotOpen id profile gap => exact (s.serve_keeps _ (lotOpenOp_keeps id profile gap s)).of_next h
  | lotClose => exact (s.serve_keeps _ (lotCloseOp_keeps s)).of_next h
  | lotRead id => exact (s.serve_keeps _ (.refl s)).of_next h
  | rodRead number => exact (s.serve_keeps _ (.refl s)).of_next h
  | rodMark number => exact (s.serve_keeps _ (rodMarkOp_keeps number s)).of_next h
  | trainRead part first count => exact (s.serve_keeps _ (.refl s)).of_next h
  | reportRead => exact (s.serve_keeps _ (.refl s)).of_next h
  | reportRelease count => exact (s.serve_keeps _ (.alike {})).of_next h
  | noticeFetch => exact (s.serveAlways_keeps _ (noticeFetchOp_keeps s)).of_next h
  | noticeEnable kinds => exact (s.serve_keeps _ (.alike {})).of_next h
  | profileRead slot => exact (s.serve_keeps _ (.same (profileReadOp_same slot s))).of_next h
  | profileWrite slot image => exact (s.serveSized_keeps _ _ (profileWriteOp_keeps slot image s)).of_next h
  | profileErase slot => exact (s.serve_keeps _ (profileEraseOp_keeps slot s)).of_next h
  | tableRead row => exact (s.serve_keeps _ (.same (tableReadOp_same row s))).of_next h
  | tableWrite row entries => exact (s.serveSized_keeps _ _ (tableWriteOp_keeps row _ s)).of_next h
  | layoutRead => exact (s.serve_keeps _ (.refl s)).of_next h
  | layoutWrite image => exact (s.serveSized_keeps _ _ (layoutWriteOp_keeps image s)).of_next h
  | probeRead address => exact (s.serve_keeps _ (.same (probeReadOp_same address s))).of_next h
  | lineCheck => exact (s.serve_keeps _ (lineCheckOp_keeps s)).of_next h
  | lineCheckResult => exact (s.serve_keeps _ (.refl s)).of_next h
  | unknownRequest code => exact (s.answer_keeps code _).of_guarded h
  | frameDiscarded => exact s.hunt_keeps.of_next h
  | byteGap => exact s.hunt_keeps.of_next h
  | replyEnd => exact s.replyEnd_keeps.of_next h
  | hang => exact (s.hangEdge_keeps.trans (State.settle_keeps _)).of_next h
  | cut => exact (s.cutEdge_keeps.trans (State.settle_keeps _)).of_next h
  | curtainPulse channel => exact (Keeps.alike (t := s.curtainPulse channel) {}).of_guarded h
  | stepDone chain => exact ((s.stepDone_keeps chain).trans (State.settle_keeps _)).of_next h
  | stripReadyChange level => exact (s.stripReadyChange_keeps level).of_next h
  | intervalExpiry chain => exact ((s.intervalExpiry_keeps chain).trans (State.settle_keeps _)).of_next h
  | stepTimeout chain => exact (s.stepTimeout_keeps chain).of_next h
  | blockLimit chain => exact (s.blockLimit_keeps chain).of_next h
  | zoneTick zone => exact (s.zoneTick_keeps zone).of_guarded h
  | economyTimerExpiry zone => exact (s.economyExpiry_keeps zone).of_guarded h
  | rampLimitExpiry zone => exact ((s.rampExpiry_keeps zone).trans (State.settle_keeps _)).of_guarded h
  | purgeTimerExpiry zone => exact ((s.purgeExpiry_keeps zone).trans (State.settle_keeps _)).of_guarded h
  | spacingTimerExpiry => exact s.spacingExpiry_keeps.of_next h
  | poll dataHigh => exact (s.pollDue_keeps dataHigh).of_next h
  | pollStop reply => exact (s.pollStop_keeps reply).of_next h
  | busFault => exact s.busFault_keeps.of_next h
  | recoveryAttempt clkHigh => exact (s.recoveryAttempt_keeps clkHigh).of_next h
  | lineCheckBegin clkHigh => exact (s.checkBegin_keeps clkHigh).of_next h
  | quietWindowEdge => exact s.quietEdge_keeps.of_next h
  | quietWindowEnd => exact s.quietEnd_keeps.of_next h
  | lineCheckEnd reflection => exact (s.checkEnd_keeps reflection).of_guarded h
  | storePollAck => exact s.pageAck_keeps.of_next h
  | storePollTimeout => exact s.pageTimeout_keeps.of_next h
  | storeTransferNack => exact s.pageNack_keeps.of_next h
  | loadBlockRead bytes => exact (s.loadEnds_keeps (some bytes)).of_guarded h
  | loadPollTimeout => exact (s.loadEnds_keeps none).of_next h
  | linkByte byte => exact (s.linkByte_keeps byte).of_next h
  | frameHeldPending frame => exact (s.frameIn_keeps frame).of_guarded h
  | quietCommandFailed => exact s.quietEdge_keeps.of_next h
  | loadTransferNack => exact (s.loadEnds_keeps none).of_next h

/-- A tick counts the spacing timer down and moves no zone (R75, R197). -/
theorem State.tick_keeps (s : State) : Keeps s s.tick := by
  have zones : s.tick.zones.map Zone.standing = s.zones.map Zone.standing := by
    show (s.zones.map Zone.tick).map Zone.standing = _
    rw [List.map_map]
    rfl
  refine ⟨fun law => .of_alike law.ramp rfl rfl zones (arbiterLaw_iff.mp law).2, fun ⟨first, zero⟩ => ⟨fun h => ?_, fun l hl h0 => ?_⟩⟩
  · show timerTick s.arbiter.spacing = none
    rw [first h]
    rfl
  · show timerTick s.arbiter.spacing = none
    rw [zero l hl h0]
    rfl

theorem step_keeps {s t : State} (h : step s = .next t) : Keeps s t := by
  unfold step at h
  split at h
  · exact (Keeps.alike {}).trans (exec_keeps _ _ t h)
  · unfold State.idleStep at h
    split at h
    · exact exec_keeps _ s t h
    · exact s.tick_keeps.of_next h

/-- Settles O58: every command and every tick keeps both laws. -/
theorem stepKeepsTheArbiterLaw : Obligations.StepKeepsTheArbiterLaw := fun _ _ h => ⟨(step_keeps h).arbiter, (step_keeps h).spacing⟩

end Sys2Proof.Machine
end


section
/-! LINE HOLD, the broadcast hold and LINE SHUTDOWN (R83, R85, R142, R143, R148). -/

namespace Sys2Proof.Machine

-- One theorem at a time: each thread of Lean reserves its stack, and many at once pass the memory limit of the check.
set_option Elab.async false

/-! ## Holds (R142, R143) -/

/-- A line hold says nothing of the link port. -/
theorem HeldBy.relinked {s t : State} {l : Layout} {mask : BitVec 10} {origin : HoldOrigin} (h : HeldBy s t l mask origin) (k : Link) :
    HeldBy s (t.setLink k) l mask origin := by
  obtain ⟨frame, zones⟩ := h
  refine ⟨?_, zones⟩
  conv_lhs => rw [frame]
  rfl

theorem LineState.holdable_of_taken {ls : LineState} (h : ls = .starting ∨ ls = .running ∨ ls = .runOut) : ls.holdable = true := by
  rcases h with rfl | rfl | rfl <;> rfl

/-- What a line request that is taken answers (R138). -/
theorem State.serve_taken {s t : State} {code : Byte} {op : State → State × Answer} (h : s.line.state ≠ .init) (taken : op s = lineTaken t)
    (link : t.link = s.link) : s.serve code op = t.setLink (s.link.prepared code .ok t.lineCodeByte) := by
  rw [s.serve_ready code op h, taken]
  show (t.answer code (.ok t.lineCodeByte)) = _
  rw [State.answer_link, link]
  rfl

/-- Settles O16: the hold of `State.holdLine_heldBy` with the request's mask, and with the default mask after the hunt. -/
theorem holdsMoveTheZonesByTheMask : Obligations.HoldsMoveTheZonesByTheMask := by
  intro s mask l law hl taken
  have holdable := LineState.holdable_of_taken taken
  have ready : s.line.state ≠ .init := by rcases taken with h | h | h <;> simp [h]
  constructor
  · obtain ⟨held, link⟩ := State.holdLine_heldBy hl law holdable (mask.setWidth 10) .host
    have line : (s.holdLine (mask.setWidth 10) .host).lineCodeByte = [5] := by
      obtain ⟨frame, -⟩ := held
      rw [frame]
      rfl
    refine ⟨_, congrArg Host.Outcome.next (State.serve_taken (code := 0x11) ready (if_pos holdable) link), held.relinked _, ?_⟩
    rw [line]
    rfl
  · obtain ⟨held, link⟩ := State.holdLine_heldBy (s := s.hunt) hl law holdable s.hunt.defaultMask .broadcast
    refine ⟨s.hunt.broadcastHold, rfl, ?_, ?_⟩
    · rw [State.broadcastHold, if_pos (by exact holdable), ← State.defaultMask_eq (s := s.hunt) hl]
      exact held
    · rw [State.broadcastHold, if_pos (by exact holdable), link]
      rfl

/-! ## A shutdown at one zone (R85) -/

theorem Zone.enterPurge_twice (now : Word32) (ticks : Nat) (a : Zone) :
    ((a.enterPurge now ticks).enterPurge now ticks).governing = a.governing ∧
      ((a.enterPurge now ticks).enterPurge now ticks).latch = a.latch ∧
      ((a.enterPurge now ticks).enterPurge now ticks).tickTimer = a.tickTimer := by
  obtain ⟨governing, latch, tick, -⟩ := a.enterPurge_keeps now ticks
  obtain ⟨governing', latch', tick', -⟩ := (a.enterPurge now ticks).enterPurge_keeps now ticks
  exact ⟨governing'.trans governing, latch'.trans latch, tick'.trans tick⟩

/-- A zone that both rounds of a shutdown have purged. -/
def State.ShutFrom (s : State) (a b : Zone) : Prop :=
  b.purged s.clock s.purgeTicks ∧ b.governing = a.governing ∧ b.latch = a.latch ∧ b.tickTimer = a.tickTimer ∧ b.economyTimer = none

theorem State.shutFrom_enterPurge (s : State) (a : Zone) : s.ShutFrom a (a.enterPurge s.clock s.purgeTicks) :=
  ⟨a.enterPurge_purged .., a.enterPurge_keeps ..⟩

/-- A WAITING zone purges in the first round; the second leaves it PURGING, or purges it once more to the same OFF. -/
theorem State.shutRested_waiting (s : State) (z : Nat) {a : Zone} (h : a.state = .waiting) :
    s.ShutFrom a (s.shutRested (s.heldWaiting 0 z a)) := by
  have first : s.heldWaiting 0 z a = a.enterPurge s.clock s.purgeTicks := by simp [State.heldWaiting, h, State.heldZone]
  rw [first, State.shutRested]
  obtain ⟨still, rests⟩ := a.enterPurge_rests s.clock s.purgeTicks
  rcases rests with off | purging
  · rw [off]
    obtain ⟨governing, latch, tick⟩ := a.enterPurge_twice s.clock s.purgeTicks
    obtain ⟨purged, -, -, -, economy⟩ := s.shutFrom_enterPurge (a.enterPurge s.clock s.purgeTicks)
    exact ⟨purged, governing, latch, tick, economy⟩
  · rw [purging]
    have same : (a.enterPurge s.clock s.purgeTicks).unstarted = a.enterPurge s.clock s.purgeTicks := by
      rw [Zone.unstarted, ← still]
    exact same ▸ s.shutFrom_enterPurge a

/-- What a shutdown makes of one zone (R85, R148). -/
theorem State.shutRested_shut (s : State) (z : Nat) (a : Zone) :
    (a.state.moving ∨ a.state = .holding ∨ a.state = .off → s.ShutFrom a (s.shutRested (s.heldWaiting 0 z a))) ∧
    (a.state = .purging → s.shutRested (s.heldWaiting 0 z a) = a.unstarted) ∧
    (a.state = .failed → s.shutRested (s.heldWaiting 0 z a) = a) := by
  by_cases waits : a.state = .waiting
  · exact ⟨fun _ => s.shutRested_waiting z waits, fun h => by simp [h] at waits, fun h => by simp [h] at waits⟩
  · have first : s.heldWaiting 0 z a = a := if_neg waits
    rw [first, State.shutRested]
    cases hst : a.state with
    | waiting => exact absurd hst waits
    | failed => exact ⟨by simp [ZoneState.moving], by simp, fun _ => rfl⟩
    | purging => exact ⟨by simp [ZoneState.moving], fun _ => rfl, by simp⟩
    | _ => exact ⟨fun _ => s.shutFrom_enterPurge a, by simp, by simp⟩

/-! ## The line goes to SHUTDOWN (R148) -/

/-- The tick timers run on and the economy timers stop where the line enters a state other than RUNNING in which zones tick, with a layout
or without one (R73, R80). -/
theorem State.follow_timers {s : State} (ticks : s.line.state.ticks = true) (still : s.line.state ≠ .running) :
    s.followTicks.followEconomy = { s with zones := s.zones.map (Zone.ticking s.tickTicks) } := by
  rw [State.followEconomy_stopped _ (by exact still), State.followTicks]
  simp only [ticks, if_true, State.setZones, List.map_map]
  rfl

theorem State.tickTicks_eq {s : State} {l : Layout} (h : s.store.layout = some l) : s.tickTicks = l.tickPeriod * 100 := by
  rw [State.tickTicks, h]
  rfl

/-- The capture unit where the line leaves a state in which a shutdown is taken (R24). -/
theorem State.followCapture_shutdown {s : State} {old : LineState} (taken : old.shuttable = true) (shut : s.line.state = .shutdown) :
    s.followCapture old = s.setCapture (if old = .starting then s.capture else s.capture.disarmed s.prescale) := by
  by_cases h : old = .starting
  · rw [if_pos h]
    exact s.followCapture_rest old (by rw [h]; rfl) (by rw [shut]; rfl)
  · rw [if_neg h]
    have arms : old.arms = true := by cases old <;> simp_all [LineState.arms, LineState.shuttable]
    exact s.followCapture_disarms old arms (by rw [shut]; rfl)

theorem State.changeLine_shutdown {s : State} (taken : s.line.state.shuttable = true) :
    s.changeLine .shutdown = { s with
      line := LineState.entered .shutdown s.clock
      capture := if s.line.state = .starting then s.capture else s.capture.disarmed s.prescale
      preSeq := s.preSeq.held s.clock
      mainSeq := s.mainSeq.held s.clock
      zones := s.zones.map (Zone.ticking s.tickTicks)
      notices := s.notices.occurred .lineState s.clock 7 } := by
  unfold State.changeLine
  dsimp only
  rw [State.followCapture_shutdown taken rfl, State.followChain_held _ .pre rfl, State.followChain_held _ .main rfl,
    State.follow_timers rfl LineState.noConfusion]
  rfl

theorem State.shutLine_eq {s : State} (law : ArbiterLaw s) (taken : s.line.state.shuttable = true) :
    s.shutLine = { s.changeLine .shutdown with
      zones := (s.zones.map (Zone.ticking s.tickTicks)).mapIdx fun z a => s.shutRested (s.heldWaiting 0 z a)
      arbiter := { s.arbiter with queue := [] } } := by
  have waiting (z : Nat) : z ∈ s.arbiter.queue ↔
      ∃ a, (s.zones.map (Zone.ticking s.tickTicks))[z]? = some a ∧ a.state = .waiting := by
    rw [law.queue_iff, List.getElem?_map]
    cases s.zones[z]? <;> simp
  rw [State.shutLine, State.changeLine_shutdown taken, State.shutZones_eq (by exact waiting)]
  rfl

/-- Settles O19: the change of the line state, then both rounds of the shutdown at the zones. -/
theorem lineShutdownPurgesTheZones : Obligations.LineShutdownPurgesTheZones := by
  intro s law taken
  have ready : s.line.state ≠ .init := by rcases taken with h | h | h | h <;> simp [h]
  have shuttable : s.line.state.shuttable = true := by rcases taken with h | h | h | h <;> rw [h] <;> rfl
  have shut := State.shutLine_eq law shuttable
  rw [State.changeLine_shutdown shuttable] at shut
  have link : s.shutLine.link = s.link := by rw [shut]
  have line : s.shutLine.lineCodeByte = [7] := by
    rw [shut]
    rfl
  refine ⟨s.shutLine.zones, ?_, ?_⟩
  · show Host.Outcome.next (s.serve 0x14 lineShutdownOp) = _
    rw [State.serve_taken ready (if_pos shuttable) link, line, shut]
    rfl
  · rw [shut]
    refine ⟨by rw [List.length_mapIdx, List.length_map], fun z a b ha hb => ?_⟩
    rw [List.getElem?_mapIdx, List.getElem?_map, ha] at hb
    cases hb
    obtain ⟨l, hl⟩ : ∃ l, s.store.layout = some l := by
      obtain ⟨-, -, -, bare, -⟩ := law.ramp
      refine Option.ne_none_iff_exists'.mp fun hn => ?_
      rw [bare hn] at ha
      cases ha
    refine ⟨l, hl, ?_⟩
    rw [← State.tickTicks_eq hl, ← State.purgeTicks_eq hl]
    exact s.shutRested_shut z (a.ticking s.tickTicks)

end Sys2Proof.Machine
end


section
/-! The expiries of the ramp limit and of the spacing timer (R75, R76, R78, R79). -/

namespace Sys2Proof.Machine

-- One theorem at a time: each thread of Lean reserves its stack, and many at once pass the memory limit of the check.
set_option Elab.async false

/-! ## A slot released (R76) -/

theorem slotsInUse_release {zones : List Zone} {z : Nat} {a b : Zone} (h : zones[z]? = some a) (ha : a.state = .ramping)
    (hb : b.state ≠ .ramping) :
    (zones.set z b).countP (fun zn => zn.state == .ramping) = zones.countP (fun zn => zn.state == .ramping) - 1 := by
  obtain ⟨hlt, rfl⟩ := List.getElem?_eq_some_iff.mp h
  rw [List.countP_set hlt, if_pos (by simpa using ha), if_neg (by simpa using hb)]
  rfl

/-- A RAMPING zone leaves its state, and the heads of the queue take the slot as slots and spacing allow (R75, R76). -/
theorem State.moveZone_releases {s : State} {l : Layout} (hl : s.store.layout = some l) (hq : s.QueueWaits) {z : Nat} {a : Zone}
    (h : s.zones[z]? = some a) (ha : a.state = .ramping) {f : Zone → Zone} (hf : (f a).state ≠ .ramping) {k : Nat}
    (hk : k = s.arbiter.grants l (l.rampSlots - (s.slotsInUse - 1)) s.arbiter.queue.length) :
    ∃ zs, s.moveZone z f = { s with zones := zs, arbiter := s.arbiter.granting l s.clock s.arbiter.queue k } ∧
      EachZone s.zones zs fun y x b => (y = z → b = f a) ∧ (y ≠ z → s.AfterGrants l s.arbiter.queue k y x b) := by
  have waits : a.state ≠ .waiting := by simp [ha]
  have fresh : z ∉ s.arbiter.queue := fun hz => hq.ne h waits hz rfl
  have replaced := State.set_moved (b := f a) hq h waits
  have slots : (s.setZones (s.zones.set z (f a))).slotsInUse = s.slotsInUse - 1 := slotsInUse_release h ha hf
  obtain ⟨zs, loop, zones⟩ := State.grantLoop_spec (s := s.setZones (s.zones.set z (f a))) hl (replaced.queueWaits hq) (Nat.le_refl _)
    (k := k) (by rw [slots]; exact hk)
  refine ⟨zs, by rw [State.moveZone_ramping h ha]; exact loop, ?_⟩
  refine (EachZone.of_set_eq h).trans zones fun y x x' b _ set after => ?_
  obtain ⟨here, there⟩ := set
  have after : s.AfterGrants l s.arbiter.queue k y x' b := after
  refine ⟨fun hy => ?_, fun hy => there hy ▸ after⟩
  subst hy
  exact (after.kept fresh).trans (here rfl).2

/-! ## The ramp limit (R79) -/

theorem State.settled_other {s : State} (h : s.line.state ≠ .runOut) : s.settled = s := if_neg fun ⟨runOut, _⟩ => h runOut

/-- A zone that is not OFF keeps the run-out from its completion (R147). -/
theorem State.settled_of_zone {s : State} {z : Nat} {a : Zone} (h : s.zones[z]? = some a) (ha : a.state ≠ .off) : s.settled = s :=
  if_neg fun ⟨_, _, _, _, off⟩ => ha (off a (List.mem_of_getElem? h))

theorem exec_rampLimitExpiry {s : State} {z : Nat} (hz : z < 10) :
    exec (.rampLimitExpiry z) s = .next (s.rampExpiry z).settled := by
  rw [← State.settle_eq]
  exact if_pos hz

theorem State.rampExpiry_other {s : State} {z : Nat} {a : Zone} (h : s.zones[z]? = some a) (ha : a.state ≠ .ramping) :
    s.rampExpiry z = s := by
  rw [State.rampExpiry, h]
  exact if_neg ha

theorem State.rampExpiry_ramping {s : State} {z : Nat} {a : Zone} (h : s.zones[z]? = some a) (ha : a.state = .ramping) :
    s.rampExpiry z = (s.moveZone z (Zone.enterCold s.clock .failed)).raiseNat .zoneFailed z := by
  rw [State.rampExpiry, h]
  exact if_pos ha

/-- Settles O24: the zone leaves RAMPING for FAILED, its slot goes to the queue, and the FAILED zone keeps a run-out from completing. -/
theorem rampLimitFailsTheZone : Obligations.RampLimitFailsTheZone := by
  intro s z zn hz h
  refine ⟨fun other line => ?_, fun other => ?_, fun l law hl ramping => ?_⟩
  · rw [exec_rampLimitExpiry hz, State.rampExpiry_other h other, State.settled_other line]
  · rw [exec_rampLimitExpiry hz, State.rampExpiry_other h other]
  · obtain ⟨zs, moved, zones⟩ := State.moveZone_releases (f := Zone.enterCold s.clock .failed) hl law.queueWaits h ramping
      ZoneState.noConfusion rfl
    have failed : zs[z]? = some (zn.enterCold s.clock .failed) := by
      obtain ⟨a, b, ha, hb, here, -⟩ := zones.of_lt (List.getElem?_eq_some_iff.mp h).1
      rw [hb, here rfl]
    refine ⟨zs, ?_, zones.1, fun y a b ha hb => ?_⟩
    · rw [exec_rampLimitExpiry hz, State.rampExpiry_ramping h ramping, moved]
      exact congrArg Host.Outcome.next (State.settled_of_zone (z := z) (by exact failed) ZoneState.noConfusion)
    · obtain ⟨here, there⟩ := zones.2 y a b ha hb
      refine ⟨fun hy => ?_, there⟩
      subst hy
      cases h.symm.trans ha
      exact here rfl

/-! ## The spacing timer (R75) -/

theorem exec_spacingTimerExpiry (s : State) : exec .spacingTimerExpiry s = .next s.spacingExpiry := rfl

/-- The ramp arbiter with its spacing timer stopped. -/
def State.unspaced (s : State) : State := s.setArbiter { s.arbiter with spacing := none }

theorem State.spacingExpiry_running {s : State} (h : s.arbiter.spacing.isSome = true) : s.spacingExpiry = s.unspaced.grantTest := if_pos h

/-- The outputs of a zone that a grant moves to RAMPING, from whatever state (R68, R69, R78). -/
theorem State.evaluated_ramped (s : State) (z : Nat) (limit : Nat) (a : Zone) :
    let b := s.evaluated z (a.ramped s.clock limit)
    b = { a.ramped s.clock limit with heat := b.heat, vent := b.vent } ∧
    (s.blind z = true → b.heat = a.heat ∧ b.vent = a.vent) ∧
    (∀ g r, a.governing = some g → s.blind z = false → (s.probe z).reading = some r →
      g.entry.Regulates .ramping r a.heat a.vent b.heat b.vent) := by
  refine ⟨?_, fun blind => ?_, fun g r hg seen hr => ?_⟩
  · obtain ⟨heat, vent, h⟩ := s.evaluated_frame z (a.ramped s.clock limit)
    rw [h]
  · rw [State.evaluated_unseen (.inl blind)]
    exact ⟨rfl, rfl⟩
  · rw [State.evaluated_seen seen hr, Zone.evaluate_ramping rfl (by exact hg)]
    exact ⟨heatLevel_follows .., ventLevel_follows ..⟩

/-- Settles O26: the grant test with the timer stopped, where a grant with a spacing above 0 starts it again. -/
theorem spacingExpiryGrantsOneHead : Obligations.SpacingExpiryGrantsOneHead := by
  intro s l hl
  rw [exec_spacingTimerExpiry]
  have can (h : s.arbiter.queue ≠ []) (free : s.slotsInUse < l.rampSlots) : s.unspaced.canGrant = true :=
    (State.canGrant_iff (s := s.unspaced) hl).mpr ⟨h, free, rfl⟩
  refine ⟨fun stopped => ?_, fun running none => ?_, fun z rest zn running hq free spaced hz => ?_, fun law running h0 hq free => ?_⟩
  · rw [State.spacingExpiry, stopped]
    rfl
  · have cannot : s.unspaced.canGrant = false := by
      by_contra hc
      obtain ⟨nonempty, free, -⟩ := (State.canGrant_iff (s := s.unspaced) hl).mp (by simpa using hc)
      rcases none with empty | full
      · exact nonempty empty
      · exact absurd (show s.slotsInUse < l.rampSlots from free) (Nat.not_lt.mpr full)
    rw [State.spacingExpiry_running running, State.grantTest, State.grantLoop_still cannot]
    rfl
  · have one : s.unspaced.grantTest = s.unspaced.grant l z := by
      have queue : s.unspaced.arbiter.queue = z :: rest := hq
      have again : (s.unspaced.grant l z).canGrant = false := by
        by_contra hc
        have layout : (s.unspaced.grant l z).store.layout = some l := by
          rw [State.grant_eq (by exact hz)]
          exact hl
        obtain ⟨-, -, waits⟩ := (State.canGrant_iff layout).mp (by simpa using hc)
        rw [State.grant_arbiter, Layout.spacingStart, if_neg (Nat.ne_of_gt spaced)] at waits
        exact absurd waits (Nat.ne_of_gt (Nat.mul_pos spaced (by decide)))
      rw [State.grantTest, queue, List.length_cons, State.grantLoop_grants (can (by simp [hq]) free) hl queue,
        State.grantLoop_still again]
    obtain ⟨frame, blind, seen⟩ := s.evaluated_ramped z (minuteTicks l.rampLimit) zn
    refine ⟨s.evaluated z (zn.ramped s.clock (minuteTicks l.rampLimit)), ?_, ?_, ?_, ?_, ?_, ?_, ?_, blind, seen⟩
    · rw [State.spacingExpiry_running running, one, State.grant_eq (by exact hz), Layout.spacingStart, if_neg (Nat.ne_of_gt spaced)]
      show Host.Outcome.next { s with zones := _, arbiter := { queue := s.arbiter.queue.tail, .. } } = _
      rw [hq]
      rfl
    all_goals rw [frame]; rfl
  · have count : min s.arbiter.queue.length (l.rampSlots - s.slotsInUse) ≠ 0 := by
      have := List.length_pos_iff.mpr hq
      omega
    obtain ⟨zs, loop, zones⟩ := State.grantLoop_spec (s := s.unspaced) hl law.queueWaits (Nat.le_refl _)
      (k := min s.arbiter.queue.length (l.rampSlots - s.slotsInUse)) (by
        show _ = Arbiter.grants { s.arbiter with spacing := none } l (l.rampSlots - s.slotsInUse) s.arbiter.queue.length
        rw [Arbiter.grants, if_pos h0]
        rfl)
    refine ⟨zs, ?_, zones.imp fun y a b after => ?_⟩
    · rw [State.spacingExpiry_running running, State.grantTest, loop, Arbiter.granting, if_neg count, if_pos h0]
      rfl
    · obtain ⟨stays, moves⟩ := after
      refine ⟨stays, fun hy => ?_⟩
      have granted : s.Granted l y a b := moves hy
      obtain ⟨-, -, -, follows⟩ := granted
      exact ⟨moves hy, follows⟩

end Sys2Proof.Machine
end


section
/-! LINE START and LINE RELEASE: the zones that enter WAITING in one event, and the grants that follow (R74, R75, R77, R84, R140, R145). -/

namespace Sys2Proof.Machine

-- One theorem at a time: each thread of Lean reserves its stack, and many at once pass the memory limit of the check.
set_option Elab.async false

/-! ## A zone put in place with more of the queue -/

/-- One controller replaced and zones put at the queue's tail, before any grant. -/
def State.placed (s : State) (z : Nat) (b : Zone) (tail : List Nat) : State :=
  { s with zones := s.zones.set z b, arbiter := { s.arbiter with queue := s.arbiter.queue ++ tail } }

theorem State.placed_canGrant {s : State} {l : Layout} {z : Nat} {a b : Zone} {tail : List Nat} (hl : s.store.layout = some l)
    (hz : s.zones[z]? = some a) (ha : a.state ≠ .ramping) (hb : b.state ≠ .ramping) (h : s.canGrant = true) :
    (s.placed z b tail).canGrant = true := by
  obtain ⟨nonempty, free, spacing⟩ := (State.canGrant_iff hl).mp h
  obtain ⟨hlt, rfl⟩ := List.getElem?_eq_some_iff.mp hz
  have slots : (s.placed z b tail).slotsInUse = s.slotsInUse := by
    show (s.zones.set z b).countP _ = _
    rw [List.countP_set hlt, if_neg (by simpa using ha), if_neg (by simpa using hb)]
    rfl
  refine (State.canGrant_iff (by exact hl)).mpr ⟨fun he => nonempty (List.append_eq_nil_iff.mp he).1, ?_, spacing⟩
  rw [slots]
  exact free

/-- The head of the queue is granted alike whether or not another controller is replaced. -/
theorem State.placed_grant {s : State} {l : Layout} {z y : Nat} {b c : Zone} {tail : List Nat} (hy : s.zones[y]? = some c) (ne : y ≠ z)
    (nonempty : s.arbiter.queue ≠ []) : (s.placed z b tail).grant l y = (s.grant l y).placed z b tail := by
  have hy' : (s.placed z b tail).zones[y]? = some c := (List.getElem?_set_ne ne.symm).trans hy
  rw [State.grant_eq hy, State.grant_eq hy']
  unfold State.placed
  dsimp only
  rw [List.set_comm _ _ ne, List.tail_append_of_ne_nil nonempty]
  rfl

/-- The grants of one event do not depend on how often the condition is tested (R75): a test before a zone that neither waits nor ramps is
replaced is lost in the one after it. -/
theorem State.grantTest_placed {l : Layout} {z : Nat} {a b : Zone} {tail : List Nat} (hw : a.state ≠ .waiting) (ha : a.state ≠ .ramping)
    (hb : b.state ≠ .ramping) {n : Nat} {s : State} (hn : s.arbiter.queue.length = n) (hl : s.store.layout = some l)
    (hq : s.QueueWaits) (hz : s.zones[z]? = some a) : (s.grantTest.placed z b tail).grantTest = (s.placed z b tail).grantTest := by
  induction n generalizing s with
  | zero => rw [State.grantTest_empty (List.length_eq_zero_iff.mp hn)]
  | succ n ih =>
    cases can : s.canGrant with
    | false => rw [State.grantTest_still can]
    | true =>
      obtain ⟨y, rest, hqueue⟩ := List.exists_cons_of_length_eq_add_one hn
      obtain ⟨c, hy, -⟩ := State.zoneState_eq_some (hq.zoneState (hqueue ▸ List.mem_cons_self : y ∈ s.arbiter.queue))
      have ne : y ≠ z := (hq.ne hz hw (hqueue ▸ List.mem_cons_self)).symm
      have next : (s.grant l y).arbiter.queue.length = n := by
        rw [State.grant_queue, List.length_tail, hn]
        rfl
      have store : (s.grant l y).store = s.store := by rw [State.grant_eq hy]
      have here : (s.grant l y).zones[z]? = some a := by
        rw [State.grant_eq hy]
        exact (List.getElem?_set_ne ne).trans hz
      have queue : (s.placed z b tail).arbiter.queue = y :: (rest ++ tail) := by
        show s.arbiter.queue ++ tail = _
        rw [hqueue, List.cons_append]
      rw [State.grantTest_grants can hl hqueue, ih next (by rw [store]; exact hl) (State.grant_queueWaits hq hqueue) here,
        State.grantTest_grants (State.placed_canGrant hl hz ha hb can) (by exact hl) queue,
        State.placed_grant hy ne (by rw [hqueue]; exact List.cons_ne_nil _ _)]

/-- After the grants of an event the condition does not hold (R75). -/
theorem State.grantTest_ends {n : Nat} {s : State} (hn : s.arbiter.queue.length = n) : s.grantTest.canGrant = false := by
  induction n generalizing s with
  | zero =>
    have empty : s.arbiter.queue = [] := List.length_eq_zero_iff.mp hn
    rw [State.grantTest_empty empty]
    by_contra hc
    obtain ⟨l, z, rest, -, queue⟩ := State.canGrant_head (by simpa using hc)
    exact nomatch empty.symm.trans queue
  | succ n ih =>
    cases can : s.canGrant with
    | false =>
      rw [State.grantTest_still can]
      exact can
    | true =>
      obtain ⟨l, z, rest, hl, queue⟩ := State.canGrant_head can
      rw [State.grantTest_grants can hl queue]
      refine ih ?_
      rw [State.grant_queue, List.length_tail, hn]
      rfl

/-- A replaced controller leaves the queue without a grant to make. -/
theorem State.grantTest_replaced {s : State} {l : Layout} {z : Nat} {a b : Zone} (hl : s.store.layout = some l) (hq : s.QueueWaits)
    (hz : s.zones[z]? = some a) (hw : a.state ≠ .waiting) (ha : a.state ≠ .ramping) (hb : b.state ≠ .ramping) :
    s.grantTest.placed z b [] = (s.placed z b []).grantTest := by
  rw [← State.grantTest_placed hw ha hb rfl hl hq hz]
  refine (State.grantTest_still ?_).symm
  by_contra hc
  obtain ⟨zs, ar, granted⟩ := s.grantTest_frame
  have layout : s.grantTest.store.layout = some l := by rw [granted]; exact hl
  obtain ⟨len, zones⟩ := (State.grantTest_moved hl hq).2.1
  have here : s.grantTest.zones[z]? = some a := by
    have hb := List.getElem?_eq_getElem (len ▸ (List.getElem?_eq_some_iff.mp hz).1 : z < s.grantTest.zones.length)
    rcases zones z a _ hz hb with same | ⟨waits, -⟩
    · rw [hb, same]
    · exact absurd waits hw
  have again : s.grantTest.canGrant = true := by
    have same : (s.grantTest.placed z b []).placed z a [] = s.grantTest := by
      unfold State.placed
      simp only [List.set_set, List.append_nil, set_of_getElem? here]
    rw [← same]
    exact State.placed_canGrant (a := b) (by exact layout) (getElem?_set_same here) hb ha (by simpa using hc)
  exact nomatch again.symm.trans (State.grantTest_ends rfl)

/-! ## The zones that enter WAITING in one event -/

/-- A zone at the line's entry to STARTING: one in a state of `joins` enters WAITING, one in PURGING has start pending set (R77, R84). -/
def Zone.risen (joins : ZoneState → Bool) (now : Word32) (a : Zone) : Zone :=
  if joins a.state then a.waits now else if a.state = .purging then { a with startPending := true } else a

/-- Those of the first `k` zones that enter WAITING, in index order. -/
def State.risers (s : State) (joins : ZoneState → Bool) (k : Nat) : List Nat :=
  (List.range k).filter fun z => (s.zoneState z).any joins

/-- The state with the first `k` zones done and no grant made. -/
def State.risen (s : State) (joins : ZoneState → Bool) (k : Nat) : State :=
  { s with
    zones := zonesUpTo k (fun _ => Zone.risen joins s.clock) s.zones
    arbiter := { s.arbiter with queue := s.risers joins k } }

theorem State.risers_succ {s : State} {joins : ZoneState → Bool} {k : Nat} {a : Zone} (h : s.zones[k]? = some a) :
    s.risers joins (k + 1) = s.risers joins k ++ if joins a.state then [k] else [] := by
  have state : s.zoneState k = some a.state := by rw [State.zoneState, h, Option.map_some]
  rw [State.risers, List.range_succ, List.filter_append, List.filter_singleton, state, Option.any_some]
  cases joins a.state <;> rfl

theorem State.risen_succ {s : State} {joins : ZoneState → Bool} {k : Nat} {a : Zone} (h : s.zones[k]? = some a) :
    s.risen joins (k + 1) = (s.risen joins k).placed k (a.risen joins s.clock) (if joins a.state then [k] else []) := by
  rw [State.risen, zonesUpTo_succ h, State.risers_succ h]
  rfl

theorem State.risen_queueWaits (s : State) (joins : ZoneState → Bool) {k : Nat} : (s.risen joins k).QueueWaits := by
  refine ⟨List.nodup_range.filter _, fun z hz => ?_⟩
  obtain ⟨below, any⟩ := List.mem_filter.mp hz
  obtain ⟨st, hst, joined⟩ := (Option.any_eq_true _ _).mp any
  obtain ⟨a, ha, rfl⟩ := State.zoneState_eq_some hst
  refine ⟨a.waits s.clock, ?_, rfl⟩
  show (zonesUpTo k _ s.zones)[z]? = _
  rw [getElem?_zonesUpTo, ha, Option.map_some, if_pos (List.mem_range.mp below), Zone.risen, if_pos joined]

/-- An operation that lets the zones in a state of `joins` enter WAITING, sets start pending in PURGING and does nothing else, over all
zones of a line in which none waits or ramps: all of them join, then the grants of the event are made (R75). -/
theorem State.rise_round {s : State} {l : Layout} (hl : s.store.layout = some l) (line : s.line.state ≠ .runOut)
    (empty : s.arbiter.queue = []) (still : ∀ a ∈ s.zones, a.state ≠ .waiting ∧ a.state ≠ .ramping) {joins : ZoneState → Bool}
    {f : State → Nat → State} (hf : ∀ u z a, u.zones[z]? = some a → f u z =
      if joins a.state then u.waitZone z
      else if a.state = .purging then u.modZone z fun x => { x with startPending := true } else u) :
    s.eachZone f = (s.risen joins s.zones.length).grantTest := by
  refine State.eachZone_induct (fun k x => x = (s.risen joins k).grantTest) ?zero fun k x hk hx => ?succ
  case zero =>
    have none : s.risen joins 0 = s := by
      unfold State.risen
      rw [zonesUpTo_zero, State.risers, List.range_zero, List.filter_nil, ← empty]
    rw [none, State.grantTest_empty empty]
  case succ =>
    have here := List.getElem?_eq_getElem hk
    obtain ⟨waits, ramps⟩ := still _ (List.getElem_mem hk)
    generalize s.zones[k] = a at here waits ramps
    have before : (s.risen joins k).zones[k]? = some a := zonesUpTo_next here _
    have queue := s.risen_queueWaits joins (k := k)
    obtain ⟨zs, ar, granted⟩ := (s.risen joins k).grantTest_frame
    have now : x.zones[k]? = some a := by
      obtain ⟨len, zones⟩ := (State.grantTest_moved (s := s.risen joins k) hl queue).2.1
      have hb := List.getElem?_eq_getElem (len ▸ (List.getElem?_eq_some_iff.mp before).1 : k < (s.risen joins k).grantTest.zones.length)
      rcases zones k a _ before hb with same | ⟨waiting, -⟩
      · rw [hx, hb, same]
      · exact absurd waiting waits
    rw [hf x k a now, State.risen_succ here]
    by_cases joined : joins a.state = true
    · have rose : a.risen joins s.clock = a.waits s.clock := if_pos joined
      have asleep : ¬ (State.grantTest (x.joined k a)).line.state = .runOut := by
        obtain ⟨zs', ar', h⟩ := (x.joined k a).grantTest_frame
        rw [h, hx, granted]
        exact line
      have placed : x.joined k a = x.placed k (a.waits s.clock) [k] := by
        rw [hx, granted]
        rfl
      rw [if_pos joined, if_pos joined, State.waitZone, State.joins_eq now, State.runOutZone_still (.inl asleep), placed, rose, hx,
        State.grantTest_placed (s := s.risen joins k) waits ramps ZoneState.noConfusion rfl hl queue before]
    · have changed : a.risen joins s.clock = if a.state = .purging then { a with startPending := true } else a := if_neg joined
      rw [if_neg joined, if_neg joined, ← State.grantTest_replaced (s := s.risen joins k) hl queue before waits ramps ?_, ← hx, changed]
      · split
        · rw [State.modZone_eq now, State.placed, List.append_nil]
          rfl
        · rw [State.placed, List.append_nil, set_of_getElem? now]
      · rw [changed]
        split <;> exact ramps

/-- What all zones of such a line have become after the grants of the event (R75). -/
theorem State.risen_spec {s : State} {l : Layout} (hl : s.store.layout = some l) (joins : ZoneState → Bool)
    (still : ∀ a ∈ s.zones, a.state ≠ .ramping) {k : Nat}
    (hk : k = s.arbiter.grants l l.rampSlots (s.risers joins s.zones.length).length) :
    ∃ zs, (s.risen joins s.zones.length).grantTest = { s with
        zones := zs, arbiter := s.arbiter.granting l s.clock (s.risers joins s.zones.length) k } ∧
      EachZone s.zones zs fun z a b => s.AfterGrants l (s.risers joins s.zones.length) k z (a.risen joins s.clock) b := by
  have slots : (s.risen joins s.zones.length).slotsInUse = 0 := by
    refine List.countP_eq_zero.mpr fun b hb => ?_
    have all : (s.risen joins s.zones.length).zones = s.zones.mapIdx fun _ => Zone.risen joins s.clock := zonesUpTo_all _ _
    rw [all] at hb
    obtain ⟨z, hz, rfl⟩ := List.mem_mapIdx.mp hb
    have ramps := still _ (List.getElem_mem hz)
    unfold Zone.risen
    split
    · simp
    · split <;> simpa using ramps
  obtain ⟨zs, loop, zones⟩ := State.grantLoop_spec (s := s.risen joins s.zones.length) hl (s.risen_queueWaits joins) (Nat.le_refl _)
    (k := k) (by rw [slots]; exact hk)
  refine ⟨zs, ?_, ?_⟩
  · have moved : (s.risen joins s.zones.length).arbiter.granting l s.clock (s.risers joins s.zones.length) k =
        s.arbiter.granting l s.clock (s.risers joins s.zones.length) k := by cases k <;> rfl
    rw [State.grantTest]
    exact loop.trans (congrArg (fun ar => ({ s with zones := zs, arbiter := ar } : State)) moved)
  · obtain ⟨len, each⟩ := zones
    have count : (s.risen joins s.zones.length).zones.length = s.zones.length := List.length_mapIdx
    refine ⟨len.trans count, fun z a b ha hb => each z _ b ?_ hb⟩
    show (zonesUpTo _ _ s.zones)[z]? = _
    rw [getElem?_zonesUpTo, ha, Option.map_some, if_pos (List.getElem?_eq_some_iff.mp ha).1]

end Sys2Proof.Machine
end


section
/-! LINE START and LINE RELEASE: the change of the line to STARTING, and the round over the zones (R77, R84, R139, R140, R145). -/

namespace Sys2Proof.Machine

-- One theorem at a time: each thread of Lean reserves its stack, and many at once pass the memory limit of the check.
set_option Elab.async false

/-! ## The line goes to STARTING -/

/-- A chain in a line state that allows no steps waits for none (R46). -/
theorem ModeLaw.held {s : State} (law : ModeLaw s) (still : s.line.state.steps = false) (c : Chain) : (s.seq c).held s.clock = s.seq c := by
  obtain ⟨-, -, -, -, waits⟩ := law
  refine if_neg fun h => ?_
  exact nomatch still.symm.trans (waits c h)

/-- The capture unit where the line enters STARTING (R24, R145). -/
theorem State.followCapture_starting {s : State} {old : LineState} (from' : old = .cold ∨ old = .shutdown ∨ old = .hold)
    (line : s.line.state = .starting) :
    s.followCapture old = s.setCapture (if old = .hold then s.capture.disarmed s.prescale else s.capture) := by
  rcases from' with rfl | rfl | rfl
  · exact s.followCapture_rest .cold rfl (by rw [line]; rfl)
  · exact s.followCapture_rest .shutdown rfl (by rw [line]; rfl)
  · exact s.followCapture_disarms .hold rfl (by rw [line]; rfl)

theorem State.changeLine_starting {s : State} (law : ModeLaw s)
    (from' : s.line.state = .cold ∨ s.line.state = .shutdown ∨ s.line.state = .hold) :
    s.changeLine .starting = { s with
      line := LineState.entered .starting s.clock
      capture := if s.line.state = .hold then s.capture.disarmed s.prescale else s.capture
      zones := s.zones.map (Zone.ticking s.tickTicks)
      notices := s.notices.occurred .lineState s.clock 3 } := by
  have still : s.line.state.steps = false := by rcases from' with h | h | h <;> rw [h] <;> rfl
  have pre : s.preSeq.held s.clock = s.preSeq := law.held still .pre
  have main : s.mainSeq.held s.clock = s.mainSeq := law.held still .main
  unfold State.changeLine
  dsimp only
  rw [State.followCapture_starting from' rfl, State.followChain_held _ .pre rfl, State.followChain_held _ .main rfl,
    State.follow_timers rfl LineState.noConfusion]
  conv_rhs => rw [← pre, ← main]
  rfl

/-! ## The round over the zones, and no passage to RUNNING -/

/-- In a line at rest, held or shut down no zone waits, ramps or dries. -/
theorem ArbiterLaw.quiet {s : State} (law : ArbiterLaw s)
    (from' : s.line.state = .cold ∨ s.line.state = .shutdown ∨ s.line.state = .hold) {a : Zone} (ha : a ∈ s.zones) :
    ¬ a.state.moving := by
  intro moves
  have free : s.line.state.free := ((arbiterLaw_iff.mp law).2 a ha).free (.inl moves)
  rcases from' with h | h | h <;> simp [h, LineState.free] at free

theorem ArbiterLaw.queue_empty {s : State} (law : ArbiterLaw s)
    (from' : s.line.state = .cold ∨ s.line.state = .shutdown ∨ s.line.state = .hold) : s.arbiter.queue = [] := by
  refine List.eq_nil_iff_forall_not_mem.mpr fun z hz => ?_
  obtain ⟨a, ha, waits⟩ := law.queue_iff z |>.mp hz
  exact law.quiet from' (List.mem_of_getElem? ha) (.inl waits)

theorem ArbiterLaw.layout {s : State} (law : ArbiterLaw s) (nonempty : s.zones ≠ []) : ∃ l, s.store.layout = some l := by
  obtain ⟨-, -, -, bare, -⟩ := law.ramp
  exact Option.ne_none_iff_exists'.mp fun hn => nonempty (bare hn)

/-- A zone that has risen and may have been granted is CONDITIONED only where it was. -/
theorem State.AfterGrants.not_conditioned {s : State} {l : Layout} {queue : List Nat} {k z : Nat} {joins : ZoneState → Bool} {now : Word32}
    {a b : Zone} (h : s.AfterGrants l queue k z (a.risen joins now) b) (ha : a.state ≠ .conditioned) : b.state ≠ .conditioned := by
  obtain ⟨stays, granted⟩ := h
  by_cases hz : z ∈ queue.take k
  · rw [(granted hz).state]
    exact ZoneState.noConfusion
  · rw [stays hz]
    unfold Zone.risen
    split
    · exact ZoneState.noConfusion
    · split <;> exact ha

/-- The zones of a line in STARTING in which none is in motion yet rise, and none is CONDITIONED after it, so that the line stays (R141). -/
theorem State.rise_starting {u : State} {l : Layout} (hl : u.store.layout = some l) (line : u.line.state = .starting)
    (nonempty : u.zones ≠ []) (empty : u.arbiter.queue = []) (quiet : ∀ a ∈ u.zones, ¬ a.state.moving) {joins : ZoneState → Bool}
    {f : State → Nat → State} (hf : ∀ v z a, v.zones[z]? = some a → f v z =
      if joins a.state then v.waitZone z
      else if a.state = .purging then v.modZone z fun x => { x with startPending := true } else v)
    {queue : List Nat} (hq : queue = u.risers joins u.zones.length) {k : Nat} (hk : k = u.arbiter.grants l l.rampSlots queue.length) :
    ∃ zs, (u.eachZone f).tryRunning = { u with zones := zs, arbiter := u.arbiter.granting l u.clock queue k } ∧
      EachZone u.zones zs fun z a b => u.AfterGrants l queue k z (a.risen joins u.clock) b := by
  subst hq
  obtain ⟨zs, rises, zones⟩ := State.risen_spec hl joins (fun a ha ramps => quiet a ha (.inr (.inl ramps))) hk
  refine ⟨zs, ?_, zones⟩
  rw [State.rise_round hl (by rw [line]; exact LineState.noConfusion) empty
    (fun a ha => ⟨fun waits => quiet a ha (.inl waits), fun ramps => quiet a ha (.inr (.inl ramps))⟩) hf, rises]
  refine if_neg fun ⟨_, all⟩ => ?_
  obtain ⟨len, each⟩ := zones
  have first : 0 < u.zones.length := List.length_pos_iff.mpr nonempty
  have here := List.getElem?_eq_getElem first
  have after := List.getElem?_eq_getElem (len ▸ first : 0 < zs.length)
  refine (each 0 _ _ here after).not_conditioned (fun dries => quiet _ (List.getElem_mem first) (.inr (.inr (.inl dries)))) ?_
  simpa using List.all_eq_true.mp all _ (List.getElem_mem (len ▸ first : 0 < zs.length))

/-- The zones in a state of `joins`, in index order. -/
def State.joiners (s : State) (joins : ZoneState → Bool) : List Nat :=
  (List.range s.zones.length).filter fun z => (s.zoneState z).any joins

theorem State.joiners_eq {s u : State} {joins : ZoneState → Bool} (states : u.zones.map (·.state) = s.zones.map (·.state)) :
    u.joiners joins = s.joiners joins := by
  have len : u.zones.length = s.zones.length := by simpa using congrArg List.length states
  have state (z : Nat) : u.zoneState z = s.zoneState z := by
    have := congrArg (·[z]?) states
    simpa [State.zoneState] using this
  simp only [State.joiners, len, state]

/-- The joiners of two states, spelt as the statements do. -/
theorem State.joiners_either (s : State) (x y : ZoneState) : s.joiners (fun st => st == x || st == y) =
    (List.range s.zones.length).filter fun z => s.zoneState z == some x || s.zoneState z == some y := by
  refine List.filter_congr fun z _ => ?_
  cases s.zoneState z <;> rfl

/-- The line has entered STARTING, and each controller has been changed but not its state. -/
def State.starts (s : State) (g : Nat → Zone → Zone) : State :=
  { s with
    line := LineState.entered .starting s.clock
    capture := if s.line.state = .hold then s.capture.disarmed s.prescale else s.capture
    zones := s.zones.mapIdx g
    notices := s.notices.occurred .lineState s.clock 3 }

/-- What LINE START and LINE RELEASE make of the line and its zones, by the states that join the ramp queue (R77, R84). -/
theorem State.starts_rise {s : State} {l : Layout} (hl : s.store.layout = some l) (law : ArbiterLaw s) (nonempty : s.zones ≠ [])
    (from' : s.line.state = .cold ∨ s.line.state = .shutdown ∨ s.line.state = .hold) {joins : ZoneState → Bool}
    {f : State → Nat → State} (hf : ∀ v z a, v.zones[z]? = some a → f v z =
      if joins a.state then v.waitZone z
      else if a.state = .purging then v.modZone z fun x => { x with startPending := true } else v)
    {g : Nat → Zone → Zone} (states : ∀ z a, (g z a).state = a.state) {k : Nat}
    (hk : k = s.arbiter.grants l l.rampSlots (s.joiners joins).length) :
    ∃ zs, ((s.starts g).eachZone f).tryRunning =
        { s.starts g with zones := zs, arbiter := s.arbiter.granting l s.clock (s.joiners joins) k } ∧
      EachZone s.zones zs fun z a b => s.AfterGrants l (s.joiners joins) k z ((g z a).risen joins s.clock) b ∧
        (joins a.state = false → b = (g z a).risen joins s.clock) := by
  have same : (s.starts g).zones.map (·.state) = s.zones.map (·.state) := by
    show (s.zones.mapIdx g).map _ = _
    refine List.ext_getElem? fun z => ?_
    simp only [List.getElem?_map, List.getElem?_mapIdx, Option.map_map]
    exact congrArg (Option.map · _) (funext fun a => states z a)
  have queue : s.joiners joins = (s.starts g).risers joins (s.starts g).zones.length := (State.joiners_eq same).symm
  have quiet : ∀ a ∈ (s.starts g).zones, ¬ a.state.moving := fun a ha => by
    obtain ⟨z, hz, rfl⟩ := List.mem_mapIdx.mp ha
    rw [states]
    exact law.quiet from' (List.getElem_mem hz)
  obtain ⟨zs, rises, len, zones⟩ := State.rise_starting (u := s.starts g) hl rfl (by simpa [State.starts] using nonempty)
    (law.queue_empty from') quiet hf queue hk
  refine ⟨zs, rises, len.trans List.length_mapIdx, fun z a b ha hb => ?_⟩
  have after : s.AfterGrants l (s.joiners joins) k z ((g z a).risen joins s.clock) b := zones z (g z a) b
    (by rw [State.starts, List.getElem?_mapIdx, ha, Option.map_some]) hb
  refine ⟨after, fun stays => ?_⟩
  obtain ⟨outside, -⟩ := after
  refine outside fun hz => ?_
  have joined := (List.mem_filter.mp (List.mem_of_mem_take hz)).2
  rw [State.zoneState, ha] at joined
  exact nomatch stays.symm.trans joined

/-- The answer of LINE START and LINE RELEASE. -/
theorem State.serve_starts {s t : State} {code : Byte} {op : State → State × Answer} {g : Nat → Zone → Zone} {zs : List Zone}
    {ar : Arbiter} (ready : s.line.state ≠ .init) (taken : op s = lineTaken t)
    (ht : t = { s.starts g with zones := zs, arbiter := ar }) :
    s.serve code op = { s.starts g with zones := zs, arbiter := ar, link := s.link.prepared code .ok [3] } := by
  have line : t.lineCodeByte = [3] := by
    rw [ht]
    rfl
  rw [State.serve_taken ready taken (by rw [ht]; rfl), line, ht]
  rfl

/-! ## LINE RELEASE (R84, R145) -/

/-- The zone states that LINE RELEASE lets join the ramp queue (R84). -/
def ZoneState.released (st : ZoneState) : Bool := st == .holding || st == .off

theorem State.releaseZone_eq {v : State} {z : Nat} {a : Zone} (h : v.zones[z]? = some a) : v.releaseZone z =
    if a.state.released then v.waitZone z
    else if a.state = .purging then v.modZone z fun x => { x with startPending := true } else v := by
  unfold State.releaseZone
  rw [h]
  dsimp only
  cases a.state <;> rfl

theorem State.changeLine_starts {s : State} {l : Layout} (hl : s.store.layout = some l) (law : ModeLaw s)
    (from' : s.line.state = .cold ∨ s.line.state = .shutdown ∨ s.line.state = .hold) :
    s.changeLine .starting = s.starts fun _ => Zone.ticking (l.tickPeriod * 100) := by
  have zones : (s.zones.mapIdx fun _ => Zone.ticking (l.tickPeriod * 100)) = s.zones.map (Zone.ticking (l.tickPeriod * 100)) := by
    exact List.ext_getElem? fun z => by rw [List.getElem?_mapIdx, List.getElem?_map]
  rw [State.changeLine_starting law from', State.tickTicks_eq hl, State.starts, zones]

/-- Settles O17: the change of the line to STARTING, then the round over the zones. -/
theorem lineReleaseRampsTheZonesAgain : Obligations.LineReleaseRampsTheZonesAgain := by
  intro s modes law nonempty hold
  obtain ⟨l, hl⟩ := law.layout nonempty
  refine ⟨l, hl, ?_⟩
  rw [← State.joiners_either]
  have from' : s.line.state = .cold ∨ s.line.state = .shutdown ∨ s.line.state = .hold := .inr (.inr hold)
  obtain ⟨zs, rises, zones⟩ := State.starts_rise hl law nonempty from' (f := State.releaseZone) (joins := ZoneState.released)
    (fun v z a h => State.releaseZone_eq h) (g := fun _ => Zone.ticking (l.tickPeriod * 100)) (fun _ _ => rfl) rfl
  have entered := State.changeLine_starts hl modes from'
  rw [← entered] at rises
  refine ⟨zs, ?_, zones.imp fun z a b ⟨after, stays⟩ => ⟨fun joins => ?_, fun purging => ?_, fun failed => ?_⟩⟩
  · show Host.Outcome.next (s.serve 0x12 lineReleaseOp) = _
    rw [State.serve_starts (by rw [hold]; exact LineState.noConfusion) (if_pos hold) (rises.trans (by rw [entered])), State.starts,
      if_pos hold]
    rfl
  · have joined : (a.ticking (l.tickPeriod * 100)).state.released = true := by
      rcases joins with h | h <;> simp [Zone.ticking, h, ZoneState.released]
    rwa [Zone.risen, if_pos joined] at after
  · have rests : a.state.released = false := by rw [purging]; rfl
    rw [stays rests, Zone.risen, if_neg (by simp [Zone.ticking, rests]), if_pos (by exact purging)]
  · have rests : a.state.released = false := by rw [failed]; rfl
    rw [stays rests, Zone.risen, if_neg (by simp [Zone.ticking, rests]), if_neg (by simp [Zone.ticking, failed])]

/-! ## LINE START (R77, R139, R140) -/

/-- The zone states that LINE START lets join the ramp queue (R77). -/
def ZoneState.started (st : ZoneState) : Bool := st == .off || st == .failed

theorem State.startZone_eq {v : State} {z : Nat} {a : Zone} (h : v.zones[z]? = some a) : v.startZone z =
    if a.state.started then v.waitZone z
    else if a.state = .purging then v.modZone z fun x => { x with startPending := true } else v := by
  unfold State.startZone
  rw [h]
  dsimp only
  cases a.state <;> rfl

/-- Zone z with its copy of a profile's entry, where the profile has one for it (R77). -/
def Profile.governed (prof : Profile) (p z : Nat) (a : Zone) : Zone :=
  match prof.zones[z]? with
  | some e => { a with governing := some { profile := p, entry := e } }
  | none => a

theorem Profile.governed_eq (prof : Profile) (p z : Nat) (a : Zone) :
    prof.governed p z a = { a with governing := (prof.governed p z a).governing } := by
  unfold Profile.governed
  split <;> rfl

theorem State.starts_zones (s : State) (g g' : Nat → Zone → Zone) :
    (s.starts g).setZones ((s.starts g).zones.mapIdx g') = s.starts fun z a => g' z (g z a) := by
  unfold State.starts State.setZones
  dsimp only
  rw [List.mapIdx_mapIdx]
  rfl

theorem State.governAll_starts {s : State} {g : Nat → Zone → Zone} {p : Nat} {prof : Profile} (hp : s.profile p = some prof) :
    (s.starts g).governAll p = s.starts fun z a => prof.governed p z (g z a) := by
  have entry (z : Nat) : (s.starts g).entryOf p z = prof.zones[z]? := by
    show (s.profile p).bind _ = _
    rw [hp, Option.bind_some]
  have govern : (fun z zn => match (s.starts g).entryOf p z with
      | some e => { zn with governing := some { profile := p, entry := e } }
      | none => zn) = prof.governed p := by
    funext z zn
    rw [entry]
    rfl
  exact (congrArg (fun f => (s.starts g).setZones ((s.starts g).zones.mapIdx f)) govern).trans (s.starts_zones g _)

/-- Neither entering WAITING nor a grant changes what governs a zone. -/
theorem State.AfterGrants.governing_risen {s : State} {l : Layout} {queue : List Nat} {k z : Nat} {joins : ZoneState → Bool} {now : Word32}
    {a b : Zone} (h : s.AfterGrants l queue k z (a.risen joins now) b) : b.governing = a.governing := by
  have risen : (a.risen joins now).governing = a.governing := by
    unfold Zone.risen
    split
    · rfl
    · split <;> rfl
  obtain ⟨stays, granted⟩ := h
  by_cases hz : z ∈ queue.take k
  · obtain ⟨-, ramped, -⟩ := granted hz
    rw [ramped, ← risen]
  · rw [stays hz, risen]

theorem lineStartOp_taken {s : State} {lot : Lot} {prof : Profile} (line : s.line.state = .cold ∨ s.line.state = .shutdown)
    (hlot : s.openLot = some lot) (hp : s.profile lot.profile = some prof) (table : ∃ e ∈ s.table, e ≠ 0) :
    lineStartOp s = lineTaken (s.startLine lot.profile) := by
  have used : (s.table.all (· == 0)) = false := by
    obtain ⟨e, he, hne⟩ := table
    exact List.all_eq_false.mpr ⟨e, he, by simpa using hne⟩
  have none : s.lineStartRefusal = none := by
    unfold State.lineStartRefusal
    rw [if_neg (by rcases line with h | h <;> simp [h]), hlot]
    dsimp only
    rw [hp, used]
    rfl
  rw [lineStartOp, none, hlot]

/-- Settles O14: the change of the line to STARTING, every zone's copy of the profile's entry, then the round over the zones. -/
theorem lineStartStartsEveryZone : Obligations.LineStartStartsEveryZone := by
  intro s lot prof modes law nonempty line hlot hp table
  obtain ⟨l, hl⟩ := law.layout nonempty
  refine ⟨l, hl, ?_⟩
  rw [← State.joiners_either]
  have from' : s.line.state = .cold ∨ s.line.state = .shutdown ∨ s.line.state = .hold := line.imp_right .inl
  have ready : s.line.state ≠ .init := by rcases line with h | h <;> simp [h]
  have moves : s.line.state ≠ .hold := by rcases line with h | h <;> simp [h]
  have state (z : Nat) (a : Zone) : (prof.governed lot.profile z (a.ticking (l.tickPeriod * 100))).state = a.state := by
    rw [Profile.governed_eq]
    rfl
  obtain ⟨zs, rises, zones⟩ := State.starts_rise hl law nonempty from' (f := State.startZone) (joins := ZoneState.started)
    (fun v z a h => State.startZone_eq h) state rfl
  have governed : (s.changeLine .starting).governAll lot.profile =
      s.starts fun z a => prof.governed lot.profile z (a.ticking (l.tickPeriod * 100)) := by
    rw [State.changeLine_starts hl modes from', State.governAll_starts hp]
  have started := (congrArg (fun t => (State.eachZone t State.startZone).tryRunning) governed).trans rises
  refine ⟨zs, ?_, zones.imp fun z a b ⟨after, stays⟩ => ?_⟩
  · show Host.Outcome.next (s.serve 0x10 lineStartOp) = _
    rw [State.serve_starts ready (lineStartOp_taken line hlot hp table) started, State.starts, if_neg moves]
    rfl
  · have governing := after.governing_risen
    have same := prof.governed_eq lot.profile z (a.ticking (l.tickPeriod * 100))
    rw [← governing] at same
    rw [same] at after stays
    refine ⟨fun e he => ?_, fun none => ?_, fun joins => ?_, fun purging => ?_⟩
    · rw [governing, Profile.governed, he]
    · rw [governing, Profile.governed, none]
      rfl
    · have joined : a.state.started = true := by rcases joins with h | h <;> rw [h] <;> rfl
      rwa [Zone.risen, if_pos (by exact joined)] at after
    · have rests : a.state.started = false := by rw [purging]; rfl
      have b_eq := stays rests
      rwa [Zone.risen, if_neg (by simp [Zone.ticking, rests]), if_pos (by exact purging)] at b_eq

end Sys2Proof.Machine
end


section
/-! A valid reading of a probe: what it makes of its zone, of the queue, of the other zones and of the line (R67 to R72, R141, R155). -/

namespace Sys2Proof.Machine

-- One theorem at a time: each thread of Lean reserves its stack, and many at once pass the memory limit of the check.
set_option Elab.async false

/-! ## The zone of the probe (R71) -/

/-- A reading that takes its zone to CONDITIONED (R71). -/
def Zone.arrives (a : Zone) (r : Reading) : Bool := a.state == .ramping && a.inBand r

/-- A RAMPING zone that a reading takes to CONDITIONED (R71). -/
def Zone.conditioned (now : Word32) (a : Zone) : Zone := { a.enter now .conditioned with latch := true }

/-- The zone of a probe after it acted on a reading (R68, R69, R71, R72). -/
def Zone.acted (now : Word32) (r : Reading) (a : Zone) : Zone :=
  if a.arrives r then (a.evaluate r).conditioned now else (a.evaluate r).bandTested r

/-- The notices after a zone acted on a reading (R71, R72). -/
def NoticeUnit.acted (n : NoticeUnit) (now : Word32) (z : Nat) (r : Reading) (a : Zone) : NoticeUnit :=
  if a.arrives r then n.occurred .zoneConditioned now (BitVec.ofNat 32 z) else n.bandLost now z a (a.acted now r)

/-- The arbiter after a zone acted on a reading (R75, R76). -/
def State.actedArbiter (s : State) (l : Layout) (r : Reading) (a : Zone) : Arbiter :=
  if a.arrives r then
    s.arbiter.granting l s.clock s.arbiter.queue (s.arbiter.grants l (l.rampSlots - (s.slotsInUse - 1)) s.arbiter.queue.length)
  else s.arbiter

theorem Zone.evaluate_still {a : Zone} (h : a.state.regulates = false) (r : Reading) : a.evaluate r = a := by
  rw [Zone.evaluate, h]
  rfl

/-- The evaluation of the outputs reads and leaves what the band is about. -/
theorem Zone.evaluate_inBand (a : Zone) (r x : Reading) : (a.evaluate x).inBand r = a.inBand r := by
  obtain ⟨heat, vent, h⟩ := a.evaluate_frame x
  rw [h]
  rfl

theorem Zone.evaluate_state (a : Zone) (r : Reading) : (a.evaluate r).state = a.state := by
  obtain ⟨heat, vent, h⟩ := a.evaluate_frame r
  rw [h]

/-- A reading that takes its zone nowhere changes its latch and its outputs at most. -/
theorem Zone.acted_stays {a : Zone} {r : Reading} (h : a.arrives r = false) (now : Word32) :
    a.acted now r = { a with
      latch := a.latch && !(a.state.latches && !a.inBand r), heat := (a.evaluate r).heat, vent := (a.evaluate r).vent } := by
  have frame : a.evaluate r = { a with heat := (a.evaluate r).heat, vent := (a.evaluate r).vent } := by
    obtain ⟨heat, vent, h⟩ := a.evaluate_frame r
    rw [h]
  have band := a.evaluate_inBand r r
  rw [Zone.acted, if_neg (by simp [h]), Zone.bandTested, band, a.evaluate_state]
  generalize a.evaluate r = e at frame ⊢
  rw [frame]
  cases a.state.latches && !a.inBand r <;> simp

theorem State.modZone_moveZone {s : State} {z : Nat} {a : Zone} (h : s.zones[z]? = some a) (ramping : a.state = .ramping)
    {g : Zone → Zone} (same : (g a).state = a.state) (f : Zone → Zone) : (s.modZone z g).moveZone z f = s.moveZone z (f ∘ g) := by
  have here : (s.modZone z g).zones[z]? = some (g a) := by
    rw [State.modZone_eq h]
    exact getElem?_set_same h
  rw [State.moveZone_ramping here (same.trans ramping), State.moveZone_ramping h ramping, State.modZone_eq h]
  show ((s.setZones ((s.zones.set z (g a)).set z (f (g a))))).grantTest = _
  rw [List.set_set]
  rfl

theorem Zone.evaluate_latch (a : Zone) (r : Reading) : (a.evaluate r).latch = a.latch := by
  obtain ⟨heat, vent, h⟩ := a.evaluate_frame r
  rw [h]

/-- A reading that takes its zone nowhere is an evaluation of the outputs and a band test (R68, R72). -/
theorem State.zoneReading_stays {s : State} {z : Nat} {a : Zone} (h : s.zones[z]? = some a) {r : Reading} (stays : a.arrives r = false) :
    s.zoneReading z r = (s.modZone z fun x => x.evaluate r).bandTest z r := by
  have here : (s.modZone z fun x => x.evaluate r).zones[z]? = some (a.evaluate r) := by
    rw [State.modZone_eq h]
    exact getElem?_set_same h
  have untested (latches : a.state.latches = false) :
      (s.modZone z fun x => x.evaluate r).bandTest z r = s.modZone z fun x => x.evaluate r := by
    rw [State.bandTest, here]
    exact if_neg (by simp [a.evaluate_state, latches])
  have unregulated (regulates : a.state.regulates = false) : (s.modZone z fun x => x.evaluate r) = s := by
    rw [State.modZone_eq h, Zone.evaluate_still regulates, set_of_getElem? h]
    rfl
  rw [State.zoneReading, h]
  dsimp only
  cases hst : a.state with
  | ramping =>
    have out : ¬ a.inBand r = true := by simpa [Zone.arrives, hst] using stays
    rw [untested (by rw [hst]; rfl)]
    exact if_neg out
  | conditioned | holding => rfl
  | economy => exact (untested (by rw [hst]; rfl)).symm
  | waiting | off | purging | failed => rw [untested (by rw [hst]; rfl), unregulated (by rw [hst]; rfl)]

theorem State.AfterGrants.either {s : State} {l : Layout} {queue : List Nat} {k z : Nat} {w b : Zone} (h : s.AfterGrants l queue k z w b) :
    b = w ∨ s.Granted l z w b := by
  obtain ⟨stays, granted⟩ := h
  by_cases hz : z ∈ queue.take k
  · exact .inr (granted hz)
  · exact .inl (stays hz)

/-- The controller of a probe that acts on a reading, in any state of the line: the zone, the notices, and the arbiter where the
zone releases its slot. -/
theorem State.zoneReading_spec {s : State} {l : Layout} (hl : s.store.layout = some l) (hq : s.QueueWaits) {z : Nat} {a : Zone}
    (h : s.zones[z]? = some a) (r : Reading) :
    ∃ zs, s.zoneReading z r =
        { s with zones := zs, arbiter := s.actedArbiter l r a, notices := s.notices.acted s.clock z r a } ∧
      EachZone s.zones zs fun y x b => (y = z → b = a.acted s.clock r) ∧ (y ≠ z → b = x ∨ s.Granted l y x b) := by
  have here : (s.modZone z fun x => x.evaluate r).zones[z]? = some (a.evaluate r) := by
    rw [State.modZone_eq h]
    exact getElem?_set_same h
  cases arrives : a.arrives r with
  | true =>
    have ⟨ramping, inBand⟩ : a.state = .ramping ∧ a.inBand r = true := by simpa [Zone.arrives] using arrives
    obtain ⟨zs, moves, zones⟩ := State.moveZone_releases (f := Zone.conditioned s.clock ∘ fun x => x.evaluate r) hl hq h ramping
      ZoneState.noConfusion rfl
    refine ⟨zs, ?_, zones.imp fun y x b ⟨at_, others⟩ => ⟨fun hy => ?_, fun hy => ?_⟩⟩
    · have acts : s.zoneReading z r = ((s.modZone z fun x => x.evaluate r).moveZone z (Zone.conditioned s.clock)).raiseNat .zoneConditioned z := by
        rw [State.zoneReading, h]
        dsimp only
        rw [ramping]
        exact if_pos inBand
      rw [acts, State.modZone_moveZone (g := fun x => x.evaluate r) h ramping (a.evaluate_state r), moves, NoticeUnit.acted, arrives,
        State.actedArbiter, arrives]
      rfl
    · rw [at_ hy, Zone.acted, arrives]
      rfl
    · exact (others hy).either
  | false =>
    refine ⟨s.zones.set z (a.acted s.clock r), ?_, ?_⟩
    · rw [NoticeUnit.acted, arrives, State.actedArbiter, arrives]
      rw [State.zoneReading_stays h arrives, State.bandTest_eq here, State.modZone_eq h, Zone.acted, arrives, NoticeUnit.bandLost,
        NoticeUnit.bandLost, a.evaluate_latch]
      simp only [State.setZones_zones, List.set_set]
      rfl
    · exact .of_set (fun x hx => ⟨fun _ => rfl, fun hy => absurd rfl hy⟩) fun y x hy => ⟨fun h => absurd h hy, fun _ => .inl rfl⟩

/-! ## What a reading leaves of its zone -/

theorem Zone.acted_keeps (now : Word32) (r : Reading) (a : Zone) :
    (a.acted now r).governing = a.governing ∧ (a.acted now r).tickTimer = a.tickTimer ∧
      (a.acted now r).heat = (a.evaluate r).heat ∧ (a.acted now r).vent = (a.evaluate r).vent := by
  cases arrives : a.arrives r with
  | true =>
    rw [Zone.acted, if_pos arrives]
    obtain ⟨heat, vent, h⟩ := a.evaluate_frame r
    rw [h]
    exact ⟨rfl, rfl, rfl, rfl⟩
  | false =>
    rw [Zone.acted_stays arrives]
    exact ⟨rfl, rfl, rfl, rfl⟩

/-- The economy timer of a zone that acted on a reading (R80). -/
theorem State.economyAfter_acted (s : State) (l : Layout) (z : Nat) (r : Reading) (a : Zone) :
    s.economyAfter l z (a.acted s.clock r) = s.economyAfter l z { a with
      state := (a.acted s.clock r).state, economyTimer := if a.state = .conditioned then a.economyTimer else none } := by
  cases arrives : a.arrives r with
  | true =>
    have ramping : a.state = .ramping := by
      have both : a.state = .ramping ∧ a.inBand r = true := by simpa [Zone.arrives] using arrives
      exact both.1
    rw [Zone.acted, if_pos arrives, if_neg (by simp [ramping])]
    rfl
  | false =>
    rw [Zone.acted_stays arrives]
    by_cases dries : a.state = .conditioned
    · rw [if_pos dries]
      rfl
    · rw [State.economyAfter_other (by exact dries), State.economyAfter_other (by exact dries)]

theorem Zone.arrives_iff {a : Zone} {g : Governing} (hg : a.governing = some g) (ramping : a.state = .ramping) (r : Reading) :
    a.arrives r = true ↔ g.entry.InBand .ramping r := by
  have targets : a.targets = some (g.entry.workTemp, some g.entry.workHum) := by rw [Zone.targets, hg, ramping]
  rw [Zone.arrives, ramping, Zone.inBand, hg, targets]
  simp only [inBandOf, ZoneEntry.InBand, ZoneEntry.About, BEq.rfl, Bool.true_and, Bool.and_eq_true, decide_eq_true_eq]
  omega

theorem Zone.arrives_other {a : Zone} (h : a.state ≠ .ramping) (r : Reading) : a.arrives r = false := by
  simp [Zone.arrives, h]

/-! ## The poll's end (R155) -/

/-- The probe bus master after a valid reading. -/
def State.recorded (s : State) (i : Nat) (p : Probe) (r : Reading) : State :=
  { s with probeBus := { s.probeBus with
      inFlight := none, records := s.probeBus.records.set i { p with reading := some r, misses := 0 } } }

/-- A reading of one probe leaves what another zone's grant reads. -/
theorem State.recorded_granted {s : State} {i y : Nat} {p : Probe} {r : Reading} {l : Layout} {a b : Zone} (hy : y ≠ i)
    (h : (s.recorded i p r).Granted l y a b) : s.Granted l y a b := by
  have probe : (s.recorded i p r).probe y = s.probe y := by
    show (s.probeBus.records.set i _).getD y _ = s.probeBus.records.getD y _
    rw [List.getD_eq_getElem?_getD, List.getD_eq_getElem?_getD, List.getElem?_set_ne hy.symm]
  have blind : (s.recorded i p r).blind y = s.blind y := by
    unfold State.blind State.probeFresh
    rw [probe]
    rfl
  unfold State.Granted at h ⊢
  rwa [probe, blind] at h

/-- A valid reading is taken, then comes what follows every poll (R154, R155). -/
theorem exec_pollStop_valid {s : State} {i : Nat} {p : Probe} {reply : Option ProbeReply} {t : Int} {h : Nat} {clamped : Bool}
    (flies : s.probeBus.inFlight = some i) (conf : s.configured.contains i = true) (hp : s.probeBus.records[i]? = some p)
    (verdict : judgePoll reply = .valid t h clamped) :
    let r : Reading := { temp := t, hum := h, clamped := clamped, time := s.clock }
    exec (.pollStop reply) s = .next (if i = 10 then s.recorded i p r
      else ((s.recorded i p r).zoneReading i r).followEconomy.tryRunning).pollEnded := by
  intro r
  have taken : (s.setProbeBus { s.probeBus with inFlight := none }).takeReading i r =
      if i = 10 then s.recorded i p r else ((s.recorded i p r).zoneReading i r).followEconomy.tryRunning := by
    have bus : ((s.setProbeBus { s.probeBus with inFlight := none }).modProbe i fun p => p.read r) = s.recorded i p r := by
      unfold State.modProbe
      rw [modify_of_getElem? (by exact hp)]
      rfl
    rw [State.takeReading, bus]
    rfl
  show Host.Outcome.next (s.pollStop reply) = _
  rw [State.pollStop, flies]
  dsimp only
  rw [State.endPoll_eq, verdict, State.takeVerdict, if_pos (by exact conf)]
  exact congrArg (fun u => Host.Outcome.next u.pollEnded) taken

/-- The state after a zone probe's reading, before the line and the poll go on, by the zones that the reading left. -/
def State.afterReading (s : State) (l : Layout) (i : Nat) (p : Probe) (r : Reading) (zn : Zone) (zs : List Zone) : State :=
  { s.recorded i p r with
    zones := zs.mapIdx fun z a => { a with economyTimer := s.economyAfter l z a }
    arbiter := s.actedArbiter l r zn
    notices := s.notices.acted s.clock i r zn }

/-- What the zone's copy of a profile's entry makes of a reading: outputs, latch and state (R67 to R72). -/
theorem Zone.acted_governed {s : State} {l : Layout} {z : Nat} {a : Zone} {g : Governing} (hg : a.governing = some g) (r : Reading) :
    let b := a.acted s.clock r
    g.entry.Regulates a.state r a.heat a.vent b.heat b.vent ∧
    (a.state = .ramping → g.entry.InBand .ramping r →
      b.state = .conditioned ∧ b.latch = true ∧ b.rampTimer = none ∧ b.entered = s.clock ∧
      s.notices.acted s.clock z r a = s.notices.occurred .zoneConditioned s.clock (BitVec.ofNat 32 z) ∧
      s.actedArbiter l r a = s.arbiter.granting l s.clock s.arbiter.queue
        (s.arbiter.grants l (l.rampSlots - (s.slotsInUse - 1)) s.arbiter.queue.length)) ∧
    (a.state = .ramping → ¬ g.entry.InBand .ramping r →
      b.state = .ramping ∧ b.entered = a.entered ∧ b.latch = a.latch ∧ b.rampTimer = a.rampTimer ∧
      s.notices.acted s.clock z r a = s.notices ∧ s.actedArbiter l r a = s.arbiter) ∧
    (a.state = .conditioned ∨ a.state = .holding →
      b.state = a.state ∧ b.entered = a.entered ∧ s.actedArbiter l r a = s.arbiter ∧
      (g.entry.InBand a.state r → b.latch = a.latch ∧ s.notices.acted s.clock z r a = s.notices) ∧
      (¬ g.entry.InBand a.state r → b.latch = false ∧ s.notices.acted s.clock z r a =
        if a.latch then s.notices.occurred .bandLost s.clock (BitVec.ofNat 32 z) else s.notices)) := by
  intro b
  obtain ⟨-, -, heat, vent⟩ := a.acted_keeps s.clock r
  have regulates := Zone.evaluate_regulates hg r
  rw [← heat, ← vent] at regulates
  refine ⟨regulates, fun ramping inBand => ?_, fun ramping out => ?_, fun latches => ?_⟩
  · have arrives : a.arrives r = true := (Zone.arrives_iff hg ramping r).mpr inBand
    have eq : b = (a.evaluate r).conditioned s.clock := if_pos arrives
    rw [eq]
    exact ⟨rfl, rfl, rfl, rfl, if_pos arrives, if_pos arrives⟩
  · have stays : a.arrives r = false := by simpa using mt (Zone.arrives_iff hg ramping r).mp out
    have eq : b = _ := Zone.acted_stays stays s.clock
    have latch : b.latch = a.latch := by
      rw [eq, ramping]
      exact Bool.and_true _
    refine ⟨by rw [eq]; exact ramping, by rw [eq], latch, by rw [eq], ?_, if_neg (by simp [stays])⟩
    rw [NoticeUnit.acted, if_neg (by simp [stays]), NoticeUnit.bandLost, latch]
    simp
  · have stays : a.arrives r = false := Zone.arrives_other (by rcases latches with h | h <;> simp [h]) r
    have eq : b = _ := Zone.acted_stays stays s.clock
    have kept : a.state.latches = true := by rcases latches with h | h <;> rw [h] <;> rfl
    have latch : b.latch = (a.latch && a.inBand r) := by
      rw [eq, kept]
      simp
    have notices : s.notices.acted s.clock z r a = s.notices.bandLost s.clock z a b := if_neg (by simp [stays])
    have inBand := Zone.inBand_iff hg latches r
    refine ⟨by rw [eq], by rw [eq], if_neg (by simp [stays]), fun within => ?_, fun out => ?_⟩
    · rw [notices, NoticeUnit.bandLost, latch, inBand.mpr within]
      simp
    · have out : a.inBand r = false := by simpa using mt inBand.mp out
      rw [notices, NoticeUnit.bandLost, latch, out]
      simp

/-- A reading in a state without a latch to drop or a band to reach (R71). -/
theorem Zone.acted_rests {s : State} {l : Layout} {z : Nat} {a : Zone}
    (h : a.state = .economy ∨ a.state = .waiting ∨ a.state = .off ∨ a.state = .purging ∨ a.state = .failed) (r : Reading) :
    let b := a.acted s.clock r
    b.state = a.state ∧ b.entered = a.entered ∧ b.latch = a.latch ∧ s.notices.acted s.clock z r a = s.notices ∧
      s.actedArbiter l r a = s.arbiter := by
  intro b
  have stays : a.arrives r = false := Zone.arrives_other (by rcases h with h | h | h | h | h <;> simp [h]) r
  have latches : a.state.latches = false := by rcases h with h | h | h | h | h <;> rw [h] <;> rfl
  have eq : b = _ := Zone.acted_stays stays s.clock
  have latch : b.latch = a.latch := by
    rw [eq, latches]
    exact Bool.and_true _
  refine ⟨by rw [eq], by rw [eq], latch, ?_, if_neg (by simp [stays])⟩
  rw [NoticeUnit.acted, if_neg (by simp [stays]), NoticeUnit.bandLost, latch]
  simp

/-- A grant whatever the economy timer, which only a CONDITIONED zone has (R80). -/
theorem State.Granted.dry {s : State} {l : Layout} {z : Nat} {a b : Zone} (h : s.Granted l z a b) :
    s.Granted l z { a with economyTimer := none } { b with economyTimer := none } := by
  obtain ⟨waits, frame, unseen, seen⟩ := h
  exact ⟨waits, by rw [frame], unseen, seen⟩

/-- Settles O28: the record, the probe's zone with the slot it may release, the economy timers, then the line. -/
theorem readingsMoveTheZone : Obligations.ReadingsMoveTheZone := by
  intro s i p reply t h clamped law flies conf hp verdict r recorded
  have runs := exec_pollStop_valid flies conf hp verdict
  refine ⟨fun hall => ?_, fun l zn zone hl hz => ?_⟩
  · rw [runs, if_pos hall]
    rfl
  · obtain ⟨zs, reads, zones⟩ := State.zoneReading_spec (s := s.recorded i p r) hl law.queueWaits hz r
    have after : ((s.recorded i p r).zoneReading i r).followEconomy = s.afterReading l i p r zn zs := by
      rw [State.followEconomy_eq (l := l) (by rw [reads]; exact hl), reads]
      rfl
    obtain ⟨len, each⟩ := zones
    have here : zs[i]? = some (zn.acted s.clock r) := by
      have hb := List.getElem?_eq_getElem (len ▸ (List.getElem?_eq_some_iff.mp hz).1 : i < zs.length)
      rw [hb, (each i zn _ hz hb).1 rfl]
      rfl
    obtain ⟨governing, tick, heat, vent⟩ := zn.acted_keeps s.clock r
    refine ⟨s.afterReading l i p r zn zs, { zn.acted s.clock r with economyTimer := s.economyAfter l i (zn.acted s.clock r) },
      ?_, rfl, ?_, governing, tick, s.economyAfter_acted l i r zn, ?_, fun bare => ?_, fun g hg => ?_, fun rests => ?_⟩
    · rw [runs, if_neg (by omega), after, State.tryRunning_eq _ l (by exact hl)]
    · show (zs.mapIdx _)[i]? = _
      rw [List.getElem?_mapIdx, here, Option.map_some]
    · refine ⟨List.length_mapIdx.trans len, fun y a c ha hc hy => ?_⟩
      rw [State.afterReading, List.getElem?_mapIdx] at hc
      obtain ⟨x, hx, rfl⟩ := Option.map_eq_some_iff.mp hc
      rcases (each y a x ha hx).2 hy with rfl | granted
      · exact .inl rfl
      · rw [State.economyAfter_other (by rw [granted.state]; exact ZoneState.noConfusion)]
        exact .inr (State.recorded_granted hy granted).dry
    · show (zn.acted s.clock r).heat = _ ∧ (zn.acted s.clock r).vent = _
      rw [heat, vent, Zone.evaluate_ungoverned bare]
      exact ⟨rfl, rfl⟩
    · exact Zone.acted_governed hg r
    · exact Zone.acted_rests rests r

end Sys2Proof.Machine
end


section
/-! A zone that enters WAITING by itself: ZONE RESTART and the end of a purge with a start pending (R74, R75, R86, R87, R89). -/

namespace Sys2Proof.Machine

-- One theorem at a time: each thread of Lean reserves its stack, and many at once pass the memory limit of the check.
set_option Elab.async false

/-! ## A zone joins the queue and the grants follow, under the law of the arbiter -/

/-- The zones after zone z joined the ramp queue and the grants of the event were made (R74, R75). -/
def State.JoinsQueue (s : State) (l : Layout) (z y : Nat) (a b : Zone) : Prop :=
  s.Woken l z y a b ∧ (y = z → b.startPending = false)

/-- The zones after zone z entered WAITING and its run-out condition was tested (R74, R75, R86). -/
def State.EntersWaiting (s : State) (l : Layout) (z y : Nat) (a b : Zone) : Prop :=
  b.governing = a.governing ∧ b.latch = a.latch ∧ (y ≠ z → b = a ∨ s.Granted l y a b) ∧ (y = z → b.startPending = false) ∧
  (y = z → s.line.state = .runOut → s.runOutCondition y = true → b.purged s.clock s.purgeTicks) ∧
  (y = z → s.line.state ≠ .runOut ∨ s.runOutCondition y = false → b.queued s.clock)

theorem State.JoinsQueue.of_set {s : State} {l : Layout} {z y : Nat} {a x x' b : Zone}
    (set : (y = z → x = a ∧ x' = a.enterCold s.clock .waiting) ∧ (y ≠ z → x' = x)) (after : b = x' ∨ s.Granted l y x' b) :
    s.JoinsQueue l z y x b := by
  obtain ⟨here, there⟩ := set
  by_cases hy : y = z
  · obtain ⟨rfl, rfl⟩ := here hy
    rcases after with rfl | granted
    · exact ⟨⟨rfl, rfl, fun _ => ⟨rfl, .inl ⟨rfl, rfl, rfl⟩⟩, fun ne => absurd hy ne⟩, fun _ => rfl⟩
    · obtain ⟨governing, latch, queued⟩ := granted.kept
      obtain ⟨-, frame, -⟩ := granted
      exact ⟨⟨governing, latch, fun _ => queued, fun ne => absurd hy ne⟩, fun _ => by rw [frame]; rfl⟩
  · cases there hy
    refine ⟨⟨?_, ?_, fun he => absurd he hy, fun _ => after⟩, fun he => absurd he hy⟩
    all_goals
      rcases after with rfl | granted
      · rfl
      · obtain ⟨governing, latch, -⟩ := granted.kept
        assumption

theorem State.JoinsQueue.stays {s : State} {l : Layout} {z y : Nat} {a b : Zone} (h : s.JoinsQueue l z y a b)
    (still : s.line.state ≠ .runOut ∨ s.runOutCondition z = false) : s.EntersWaiting l z y a b := by
  obtain ⟨⟨governing, latch, queued, others⟩, unstarted⟩ := h
  refine ⟨governing, latch, others, unstarted, fun hy runOut due => ?_, fun hy _ => queued hy⟩
  rcases still with still | still
  · exact absurd runOut still
  · exact nomatch (hy ▸ still).symm.trans due

theorem State.JoinsQueue.purges {s : State} {l : Layout} {z y : Nat} {a b b' c : Zone} (h : s.JoinsQueue l z y a b)
    (due : s.line.state = .runOut ∧ s.runOutCondition z = true) (left : s.Left l z b' (b'.enterPurge s.clock s.purgeTicks) y b c) :
    s.EntersWaiting l z y a c := by
  obtain ⟨⟨governing, latch, -, others⟩, -⟩ := h
  obtain ⟨here, there⟩ := left
  by_cases hy : y = z
  · obtain ⟨rfl, rfl⟩ := here hy
    obtain ⟨governing', latch', -⟩ := b.enterPurge_keeps s.clock s.purgeTicks
    have purged := b.enterPurge_purged s.clock s.purgeTicks
    have ⟨_, unstarted, _⟩ := purged
    refine ⟨governing'.trans governing, latch'.trans latch, fun ne => absurd hy ne, fun _ => unstarted, fun _ _ _ => purged, fun _ still => ?_⟩
    rcases still with still | still
    · exact absurd due.1 still
    · exact nomatch (hy ▸ still).symm.trans due.2
  · have after : c = a ∨ s.Granted l y a c := by
      rcases others hy with rfl | granted
      · exact there hy
      · rcases there hy with rfl | again
        · exact .inr granted
        · exact nomatch granted.state.symm.trans again.1
    have kept : c.governing = a.governing ∧ c.latch = a.latch := by
      rcases after with rfl | granted
      · exact ⟨rfl, rfl⟩
      · obtain ⟨governing, latch, -⟩ := granted.kept
        exact ⟨governing, latch⟩
    exact ⟨kept.1, kept.2, fun _ => after, fun he => absurd he hy, fun he => absurd he hy, fun he => absurd he hy⟩

theorem State.joined_slots {s : State} {z : Nat} {a : Zone} (h : s.zones[z]? = some a) (ha : a.state ≠ .ramping) :
    (s.joined z a).slotsInUse = s.slotsInUse := by
  obtain ⟨hlt, rfl⟩ := List.getElem?_eq_some_iff.mp h
  show (s.zones.set z _).countP _ = _
  rw [List.countP_set hlt, if_neg (by simpa using ha)]
  rfl

/-- In RUN_OUT a zone that joined the queue purges at once where its run-out condition holds (R86). -/
theorem State.waitZone_due {s : State} {l : Layout} (hl : s.store.layout = some l) {z : Nat} {a : Zone}
    (h : s.zones[z]? = some a) (queue : (s.joined z a).QueueWaits) (due : s.line.state = .runOut ∧ s.runOutCondition z = true) :
    (s.joined z a).Moved (s.waitZone z) fun y x c => ∃ b b', (b = x ∨ s.Granted l y x b) ∧
      s.Left l z b' (b'.enterPurge s.clock s.purgeTicks) y b c := by
  have moved := State.grantTest_moved (s := s.joined z a) hl queue
  have ⟨frame, zones, _⟩ := moved
  have reads : (s.joined z a).grantTest.line = s.line ∧ (s.joined z a).grantTest.runOutCondition z = s.runOutCondition z := by
    rw [frame]
    exact ⟨rfl, rfl⟩
  obtain ⟨x, b, hx, hb, grants⟩ := zones.of_lt (z := z) (by
    show z < (s.zones.set z _).length
    rw [List.length_set]
    exact (List.getElem?_eq_some_iff.mp h).1)
  have waits : x.state = .waiting := by
    cases (getElem?_set_same h).symm.trans hx
    rfl
  have moving : b.state.moving := by
    rcases grants with rfl | granted
    · exact .inl waits
    · exact granted.moving.2
  have purge : s.waitZone z = (s.joined z a).grantTest.moveZone z (Zone.enterPurge s.clock s.purgeTicks) := by
    rw [State.waitZone, State.joins_eq h, State.runOutZone_due hb (by rw [reads.1]; exact due.1) moving (by rw [reads.2]; exact due.2),
      frame]
    rfl
  have left := State.moveZone_moved (s := (s.joined z a).grantTest) (l := l) (by rw [frame]; exact hl) (moved.queueWaits queue) hb
    (b.enterPurge_not_waiting s.clock s.purgeTicks)
  rw [purge]
  refine moved.trans left (fun y x b' c grants left => ⟨b', b, grants, ?_⟩) fun y x c left waiting => ?_
  · rw [frame] at left
    exact left
  · obtain ⟨here, there⟩ := left
    by_cases hy : y = z
    · obtain ⟨-, rfl⟩ := here hy
      exact absurd waiting (Zone.enterPurge_not_waiting s.clock s.purgeTicks b)
    · rcases there hy with rfl | granted
      · exact waiting
      · exact granted.1

/-- A zone enters WAITING under the law of the arbiter: the zones, the queue, and the grants where no run-out purges it again. -/
theorem State.waitZone_spec {s : State} {l : Layout} (hl : s.store.layout = some l) (law : ArbiterLaw s) (free : s.line.state.free) {z : Nat}
    {a : Zone} (h : s.zones[z]? = some a) (hw : a.state ≠ .waiting) (hr : a.state ≠ .ramping) :
    s.waitZone z = { s with zones := (s.waitZone z).zones, arbiter := (s.waitZone z).arbiter } ∧
    (s.waitZone z).arbiter.queue = (s.arbiter.queue ++ [z]).filter (fun y => (s.waitZone z).zoneState y == some .waiting) ∧
    (s.line.state ≠ .runOut ∨ s.runOutCondition z = false →
      (s.waitZone z).arbiter = s.arbiter.granting l s.clock (s.arbiter.queue ++ [z])
        (s.arbiter.grants l (l.rampSlots - s.slotsInUse) (s.arbiter.queue.length + 1))) ∧
    EachZone s.zones (s.waitZone z).zones (s.EntersWaiting l z) := by
  have queue : (s.joined z a).QueueWaits := (law.join free h hw).queueWaits
  by_cases due : s.line.state = .runOut ∧ s.runOutCondition z = true
  · obtain ⟨frame, zones, left⟩ := State.waitZone_due hl h queue due
    refine ⟨frame, left, fun still => ?_, ?_⟩
    · rcases still with still | still
      · exact absurd due.1 still
      · exact nomatch still.symm.trans due.2
    · exact (EachZone.of_set_eq h).trans zones fun y x x' c _ set ⟨b, b', grants, left⟩ =>
        (State.JoinsQueue.of_set set grants).purges due left
  · have still : s.line.state ≠ .runOut ∨ s.runOutCondition z = false := by simpa [Classical.or_iff_not_imp_left] using due
    obtain ⟨frame, zones, left⟩ := State.grantTest_moved (s := s.joined z a) hl queue
    obtain ⟨zs, loop, -⟩ := State.grantLoop_spec (s := s.joined z a) hl queue (Nat.le_refl _) rfl
    have waits : s.waitZone z = (s.joined z a).grantTest := by
      rw [State.waitZone, State.joins_eq h]
      refine State.runOutZone_still ?_
      rw [frame]
      exact still
    rw [waits]
    refine ⟨frame, left, fun _ => ?_, 
      (EachZone.of_set_eq h).trans zones fun y x x' b _ set grants => (State.JoinsQueue.of_set set grants).stays still⟩
    rw [State.grantTest, loop, State.joined_slots h hr]
    show Arbiter.granting _ _ _ _ (Arbiter.grants _ _ _ (s.arbiter.queue ++ [z]).length) = _
    rw [List.length_append]
    rfl

/-! ## A zone joins the queue in any state -/

/-- A zone that waits or ramps since `now`, with its copy of a profile kept and no start pending. -/
def Zone.Queues (now : Word32) (a b : Zone) : Prop := b.queued now ∧ b.governing = a.governing ∧ b.startPending = false

theorem State.grant_queues {s : State} (l : Layout) {z y : Nat} {a b : Zone} (hb : s.zones[z]? = some b) (queues : Zone.Queues s.clock a b) :
    ∃ c, (s.grant l y).zones[z]? = some c ∧ Zone.Queues s.clock a c := by
  cases hy : s.zones[y]? with
  | none =>
    have ne : y ≠ z := by
      rintro rfl
      exact nomatch hb.symm.trans hy
    have modified (u : State) (f : Zone → Zone) : (u.modZone y f).zones[z]? = u.zones[z]? := by
      simp [State.modZone, ne]
    refine ⟨b, ?_, queues⟩
    unfold State.grant State.regulate
    dsimp only
    split
    · rw [modified, modified]
      exact hb
    · exact (modified _ _).trans hb
    · exact (modified _ _).trans hb
  | some x =>
    rw [State.grant_eq hy]
    by_cases he : z = y
    · subst he
      cases hb.symm.trans hy
      obtain ⟨heat, vent, frame⟩ := s.evaluated_frame z (b.ramped s.clock (minuteTicks l.rampLimit))
      obtain ⟨-, governing, unstarted⟩ := queues
      refine ⟨_, getElem?_set_same hy, ?_⟩
      rw [frame]
      exact ⟨⟨rfl, .inr ⟨rfl, rfl⟩⟩, governing, unstarted⟩
    · exact ⟨b, (List.getElem?_set_ne (Ne.symm he)).trans hb, queues⟩

theorem State.grantLoop_queues {fuel : Nat} {s : State} {z : Nat} {a b : Zone} (hb : s.zones[z]? = some b)
    (queues : Zone.Queues s.clock a b) : ∃ c, (State.grantLoop fuel s).zones[z]? = some c ∧ Zone.Queues s.clock a c := by
  induction fuel generalizing s b with
  | zero => exact ⟨b, hb, queues⟩
  | succ fuel ih =>
    cases can : s.canGrant with
    | false =>
      rw [State.grantLoop_still can]
      exact ⟨b, hb, queues⟩
    | true =>
      obtain ⟨l, y, rest, hl, hq⟩ := State.canGrant_head can
      obtain ⟨zs, ar, frame⟩ := s.grant_frame l y
      have clock : (s.grant l y).clock = s.clock := by rw [frame]
      obtain ⟨c, hc, queues⟩ := State.grant_queues l (y := y) hb queues
      rw [State.grantLoop_grants can hl hq, ← clock]
      exact ih hc (clock.symm ▸ queues)

/-- A zone enters WAITING where no run-out purges it again, in any state of the other zones and the queue. -/
theorem State.waitZone_queues {s : State} {z : Nat} {a : Zone} (h : s.zones[z]? = some a)
    (still : s.line.state ≠ .runOut ∨ s.runOutCondition z = false) :
    ∃ zs ar, s.waitZone z = { s with zones := zs, arbiter := ar } ∧ ∃ b, zs[z]? = some b ∧ Zone.Queues s.clock a b := by
  obtain ⟨zs, ar, frame⟩ := (s.joined z a).grantTest_frame
  have waits : s.waitZone z = (s.joined z a).grantTest := by
    rw [State.waitZone, State.joins_eq h]
    refine State.runOutZone_still ?_
    rw [frame]
    exact still
  obtain ⟨b, hb, queues⟩ := State.grantLoop_queues (fuel := (s.joined z a).arbiter.queue.length) (s := s.joined z a) (a := a)
    (getElem?_set_same h) ⟨⟨rfl, .inl ⟨rfl, rfl, rfl⟩⟩, rfl, rfl⟩
  refine ⟨zs, ar, waits.trans frame, b, ?_, queues⟩
  have after : (s.joined z a).grantTest.zones[z]? = some b := hb
  rwa [frame] at after

/-! ## ZONE RESTART (R89) -/

theorem Zone.Queues.not_off {now : Word32} {a b : Zone} (h : Zone.Queues now a b) : b.state ≠ .off := by
  obtain ⟨⟨-, states⟩, -⟩ := h
  rcases states with ⟨h, -⟩ | ⟨h, -⟩ <;> rw [h] <;> exact ZoneState.noConfusion

/-- ZONE RESTART of a FAILED zone is taken (R89). -/
theorem exec_zoneRestart_taken {s : State} {zone : Byte} {a : Zone} (ready : s.line.state ≠ .init) (conf : s.line.state ≠ .unconfigured)
    (h : s.zones[zone.toNat]? = some a) (failed : a.state = .failed) : exec (.zoneRestart zone) s =
      .next { (s.restartZone zone.toNat).settled with link := (s.restartZone zone.toNat).link.prepared 0x21 .ok [] } := by
  have op : zoneRestartOp zone s = ((s.restartZone zone.toNat).settle, .ok []) := by
    rw [zoneRestartOp, if_neg conf, h]
    exact if_pos failed
  show Host.Outcome.next (s.serve 0x21 (zoneRestartOp zone)) = _
  rw [s.serve_ready 0x21 _ ready, op, State.settle_eq]
  show Host.Outcome.next ((s.restartZone zone.toNat).settled.answer 0x21 (.ok [])) = _
  rw [State.answer_link, State.settled_link]
  rfl

theorem State.restartZone_free {s : State} (free : s.line.state.free) (z : Nat) : s.restartZone z = s.waitZone z := by
  unfold State.restartZone
  rcases free with h | h | h <;> rw [h]

/-- Settles O20: the refusals, then the restart to OFF, or into WAITING with and without the law of the arbiter. -/
theorem zoneRestartLeavesFailed : Obligations.ZoneRestartLeavesFailed := by
  intro s zone ready
  have refused {a : Answer} (op : zoneRestartOp zone s = (s, a)) : Refuses s (.zoneRestart zone) 0x21 a.status a.payload :=
    refuses_of_serve ready rfl op
  refine ⟨fun bare => refused (if_pos bare), fun conf beyond => ?_, fun zn conf hz ok => ?_, fun zn line hz failed => ?_,
    fun zn line hz failed => ?_, fun zn l law hl free hz failed => ?_⟩
  · refine refused (a := .badValue 0) ?_
    rw [zoneRestartOp, if_neg conf, List.getElem?_eq_none beyond]
  · refine refused (a := .refuse .notNow) ?_
    rw [zoneRestartOp, if_neg conf, hz]
    exact if_neg ok
  · have conf : s.line.state ≠ .unconfigured := by rcases line with h | h <;> simp [h]
    have still : s.line.state ≠ .runOut := by rcases line with h | h <;> simp [h]
    have restart : s.restartZone zone.toNat = s.setZones (s.zones.set zone.toNat (zn.enterCold s.clock .off)) := by
      rw [← State.modZone_eq hz]
      unfold State.restartZone
      rcases line with h | h <;> rw [h]
    rw [exec_zoneRestart_taken ready conf hz failed, restart, State.settled_other (by exact still)]
    rfl
  · have free : s.line.state.free := line.imp_right (Or.imp_right And.left)
    have conf : s.line.state ≠ .unconfigured := by rcases free with h | h | h <;> simp [h]
    have still : s.line.state ≠ .runOut ∨ s.runOutCondition zone.toNat = false := by
      rcases line with h | h | ⟨-, h, -⟩
      · exact .inl (by simp [h])
      · exact .inl (by simp [h])
      · exact .inr h
    obtain ⟨zs, ar, waits, b, hb, queues⟩ := State.waitZone_queues hz still
    have ⟨queued, governing, _⟩ := queues
    refine ⟨zs, ar, ?_, b, hb, queued, governing⟩
    rw [exec_zoneRestart_taken ready conf hz failed, State.restartZone_free free, waits, State.settled_of_zone (by exact hb) queues.not_off]
  · have conf : s.line.state ≠ .unconfigured := by rcases free with h | h | h <;> simp [h]
    obtain ⟨frame, queue, arbiter, zones⟩ := State.waitZone_spec hl law free hz (by simp [failed]) (by simp [failed])
    refine ⟨s.waitZone zone.toNat, ?_, frame, queue, arbiter, zones.imp fun y a b waits => ?_⟩
    · have link : (s.waitZone zone.toNat).link = s.link := by rw [frame]
      rw [exec_zoneRestart_taken ready conf hz failed, State.restartZone_free free, link]
    · obtain ⟨governing, latch, others, -, purged, queued⟩ := waits
      exact ⟨governing, latch, others, purged, queued⟩

/-! ## The purge timer (R87) -/

theorem exec_purgeTimerExpiry {s : State} {z : Nat} (hz : z < 10) : exec (.purgeTimerExpiry z) s = .next (s.purgeExpiry z).settled := by
  rw [← State.settle_eq]
  exact if_pos hz

/-- A zone after its purge without a start pending (R87). -/
theorem State.purgeExpiry_off {s : State} {z : Nat} {a : Zone} (h : s.zones[z]? = some a) (purging : a.state = .purging)
    (unstarted : a.startPending = false) : s.purgeExpiry z = s.setZones (s.zones.set z { a with
      state := .off, entered := s.clock, economyTimer := none, rampTimer := none, purgeTimer := none, heat := false, vent := false }) := by
  have off : s.purgeExpiry z = s.modZone z (Zone.enterCold s.clock .off) := by
    rw [State.purgeExpiry, h]
    dsimp only
    rw [if_pos purging, if_neg (by simp [unstarted])]
  rw [off, State.modZone_eq h]
  refine congrArg (fun b => s.setZones (s.zones.set z b)) ?_
  rw [Zone.enterCold, Zone.enter, ← unstarted]

theorem State.purgeExpiry_started {s : State} {z : Nat} {a : Zone} (h : s.zones[z]? = some a) (purging : a.state = .purging)
    (started : a.startPending = true) : s.purgeExpiry z = s.waitZone z := by
  rw [State.purgeExpiry, h]
  dsimp only
  rw [if_pos purging, if_pos started]

/-- Settles O25: the zone to OFF or into WAITING, and the completion of a run-out where the line was emptied. -/
theorem purgeTimerEndsThePurge : Obligations.PurgeTimerEndsThePurge := by
  intro s z zn below hz
  rw [exec_purgeTimerExpiry below]
  have other (h : zn.state ≠ .purging) : s.purgeExpiry z = s := by
    rw [State.purgeExpiry, hz]
    exact if_neg h
  refine ⟨fun h still => ?_, fun h => by rw [other h], fun purging unstarted => ?_, fun l law hl purging started => ?_,
    fun purging unstarted still => ?_, fun purging started still => ?_, fun purging unstarted runOut empty stopped off => ?_⟩
  · rw [other h, State.settled_other still]
  · rw [State.purgeExpiry_off hz purging unstarted]
    rfl
  · have free : s.line.state.free := (law.allows hz).free (.inr started)
    rw [State.purgeExpiry_started hz purging started]
    obtain ⟨frame, queue, arbiter, zones⟩ := State.waitZone_spec hl law free hz (by simp [purging]) (by simp [purging])
    exact ⟨s.waitZone z, rfl, frame, queue, arbiter, zones⟩
  · rw [State.purgeExpiry_off hz purging unstarted, State.settled_other (by exact still)]
    rfl
  · rw [State.purgeExpiry_started hz purging started]
    obtain ⟨zs, ar, waits, b, hb, queued, governing, unstarted⟩ := State.waitZone_queues hz (.inl still)
    rw [waits, State.settled_other (by exact still)]
    exact ⟨zs, ar, rfl, b, hb, queued, unstarted, governing⟩
  · rw [State.purgeExpiry_off hz purging unstarted]
    generalize hb : ({ zn with
      state := .off, entered := s.clock, economyTimer := none, rampTimer := none, purgeTimer := none, heat := false, vent := false } : Zone) = b
    have rests : ∀ a ∈ s.zones.set z b, a.state = .off := fun a ha => by
      obtain ⟨y, hy⟩ := List.mem_iff_getElem?.mp ha
      by_cases he : y = z
      · subst he
        cases (getElem?_set_same hz).symm.trans hy
        rw [← hb]
      · exact off y a ((List.getElem?_set_ne (Ne.symm he)).symm.trans hy) he
    have complete : (s.setZones (s.zones.set z b)).RunOutComplete := ⟨runOut, empty, stopped .pre, stopped .main, rests⟩
    refine ⟨(s.zones.set z b).map fun a => { a with tickTimer := none, economyTimer := none }, ?_, ?_, fun a ha => ?_⟩
    · rw [State.settled, if_pos complete]
      rfl
    · rw [List.length_map, List.length_set]
    · obtain ⟨c, hc, rfl⟩ := List.mem_map.mp ha
      exact ⟨rests c hc, rfl, rfl⟩

end Sys2Proof.Machine
end


section
/-! A zone's tick, its economy timer, and the climate of its accountings (R70, R73, R81, R82, R95, R96, R105). -/

namespace Sys2Proof.Machine

-- One theorem at a time: each thread of Lean reserves its stack, and many at once pass the memory limit of the check.
set_option Elab.async false

/-! ## The working climate (R95, R96) -/

/-- A probe is trusted exactly while its record and the bus allow it (R70, R95). -/
theorem State.probeFresh_iff (s : State) (i : Nat) :
    s.probeFresh i = true ↔ (s.probe i).misses < 3 ∧ s.probeBus.fault = none ∧ (s.probe i).reading.isSome = true := by
  simp [State.probeFresh, and_assoc]

theorem State.blind_iff (s : State) (z : Nat) :
    s.blind z = true ↔ 3 ≤ (s.probe z).misses ∨ s.probeBus.fault.isSome = true ∨ (s.probe z).reading = none := by
  rw [State.blind, Bool.not_eq_true', ← Bool.not_eq_true, State.probeFresh_iff]
  simp only [Classical.not_and_iff_not_or_not, Nat.not_lt, ← Option.isSome_iff_ne_none, Bool.not_eq_true, Option.isSome_eq_false_iff,
    Option.isNone_iff_eq_none]

theorem State.probe_of_record {s : State} {i : Nat} {p : Probe} (h : s.probeBus.records[i]? = some p) : s.probe i = p := by
  rw [State.probe, List.getD_eq_getElem?_getD, h, Option.getD_some]

theorem State.workingClimate_seen {s : State} {l : Layout} {z : Nat} {st : ZoneState} {e : ZoneEntry} {r : Reading}
    (seen : s.blind z = false) (hr : (s.probe z).reading = some r) : s.workingClimate l z st e = (r.temp, r.hum) := by
  have fresh : s.probeFresh z = true := by simpa [State.blind] using seen
  rw [State.workingClimate, fresh, hr]

theorem State.workingClimate_blind {s : State} {l : Layout} {z : Nat} {st : ZoneState} {e : ZoneEntry} (blind : s.blind z = true) :
    s.workingClimate l z st e = s.blindClimate l st e := by
  have stale : s.probeFresh z = false := by simpa [State.blind] using blind
  rw [State.workingClimate, stale]

/-- Settles O48: the table of R96 row by row. -/
theorem workingClimateTable : Obligations.WorkingClimateTable := by
  intro s l z st e
  refine ⟨fun p hp => ?_, fun r seen hr => State.workingClimate_seen seen hr, fun blind => ?_⟩
  · have probe := State.probe_of_record hp
    have blind := s.blind_iff z
    have fresh := s.probeFresh_iff z
    rw [probe] at blind fresh
    exact ⟨probe, blind, fresh⟩
  · rw [State.workingClimate_blind blind]
    refine ⟨fun works => ?_, fun holds => by rw [holds]; rfl, fun rests => by rw [rests]; rfl, fun hall => ?_⟩
    · rcases works with rfl | rfl | rfl <;> rfl
    · have climate : s.blindClimate l st e = s.hallClimate l := by rcases hall with rfl | rfl | rfl <;> rfl
      rw [climate, State.hallClimate]
      refine ⟨fun r fresh hr => ?_, fun stale => ?_⟩
      · rw [show hallIndex = 10 from rfl, fresh, hr]
      · rw [show hallIndex = 10 from rfl, stale]

/-! ## The accounting tick (R73, R105) -/

theorem exec_zoneTick {s : State} {z : Nat} (hz : z < 10) : exec (.zoneTick z) s = .next (s.zoneTick z) := if_pos hz

theorem State.rearmed_blind {s : State} {z : Nat} (blind : s.blind z = true) (a : Zone) : s.rearmed z a = a.latch := by
  have stale : s.probeFresh z = false := by simpa [State.blind] using blind
  rw [State.rearmed, stale]

theorem State.rearmed_seen {s : State} {z : Nat} {r : Reading} (seen : s.blind z = false) (hr : (s.probe z).reading = some r) (a : Zone) :
    s.rearmed z a = (a.latch || (a.state.latches && a.inBand r)) := by
  have fresh : s.probeFresh z = true := by simpa [State.blind] using seen
  rw [State.rearmed, fresh, hr]

/-- Only a zone that keeps an in-band latch can have it set high (R72, R73). -/
theorem State.rearmed_other (s : State) (z : Nat) {a : Zone} (h : a.state.latches = false) : s.rearmed z a = a.latch := by
  unfold State.rearmed
  split <;> simp [h]

theorem State.zoneTick_eq {s : State} {l : Layout} {z : Nat} {a : Zone} (hl : s.store.layout = some l) (h : s.zones[z]? = some a)
    (runs : a.tickTimer.isSome = true) : s.zoneTick z = { s with
      rods := (s.accountPass z a.latch).rods
      zones := s.zones.set z { a with latch := s.rearmed z a, tickTimer := some (l.tickPeriod * 100) } } := by
  have tick : s.zoneTick z = (s.accountPass z a.latch).modZone z fun x =>
      { x with latch := s.rearmed z x, tickTimer := some s.tickTicks } := by
    rw [State.zoneTick, h]
    exact if_pos runs
  rw [tick, State.modZone_eq (by exact h), State.tickTicks_eq hl]
  rfl

/-- The rods after a pass of a governed zone (R92, R105). -/
theorem State.accountPass_rods {s : State} {l : Layout} {z : Nat} {a : Zone} {g : Governing} (hl : s.store.layout = some l)
    (h : s.zones[z]? = some a) (hg : a.governing = some g) : (s.accountPass z a.latch).rods = s.rods.map (fun r =>
      if l.zoneHas z r.location then
        accountRod s.table
          { state := a.state, latch := a.latch, profile := g.profile, coefficient := g.entry.coefficient,
            gradientLimit := g.entry.gradientLimit, temp := (s.workingClimate l z a.state g.entry).1,
            hum := (s.workingClimate l z a.state g.entry).2, estimated := s.blind z }
          s.clock (s.rodProfileNumber r) ((s.rodProfile r).map (·.heatThreshold)) r
      else r) := by
  refine List.map_congr_left fun r _ => ?_
  rw [State.rodInZone, hl, State.accounted, State.zoneAir, hl, h]
  dsimp only
  rw [hg]

/-- Settles O22: the accounting pass with the latch as it stood, then the latch and the timer. -/
theorem zoneTickAccountsTheZonesRods : Obligations.ZoneTickAccountsTheZonesRods := by
  intro s z below
  rw [exec_zoneTick below]
  refine ⟨fun none => ?_, fun zn hz stopped => ?_, fun zn l g hz runs hl hg => ?_⟩
  · rw [State.zoneTick, none]
  · rw [State.zoneTick, hz]
    exact congrArg _ (if_neg (by simp [stopped]))
  · refine ⟨(s.accountPass z zn.latch).rods, s.rearmed z zn, ?_, ?_, fun blind => ?_, fun dry hold => ?_, fun rd seen hr latches => ?_⟩
    · rw [State.zoneTick_eq hl hz runs]
    · exact State.accountPass_rods hl hz hg
    · exact State.rearmed_blind blind zn
    · refine s.rearmed_other z ?_
      cases hst : zn.state <;> simp_all [ZoneState.latches]
    · have kept : zn.state.latches = true := by rcases latches with h | h <;> rw [h] <;> rfl
      have inBand := Zone.inBand_iff hg latches rd
      rw [State.rearmed_seen seen hr, kept]
      refine ⟨fun within => ?_, fun out => ?_⟩
      · rw [inBand.mpr within]
        exact Bool.or_true _
      · have out : zn.inBand rd = false := by simpa using mt inBand.mp out
        rw [out]
        exact Bool.or_false _

/-! ## The economy timer (R81, R82) -/

/-- A rod stands in a stretch of positions. -/
theorem allGaps_drop_take {ps : List (Option Word32)} {first size : Nat} :
    allGaps ((ps.drop first).take size) = false ↔ ∃ p m, ps[p]? = some (some m) ∧ first ≤ p ∧ p < first + size := by
  have stretch (i : Nat) : ((ps.drop first).take size)[i]? = if i < size then ps[first + i]? else none := by
    rw [List.getElem?_take, List.getElem?_drop]
  rw [← Bool.not_eq_true, allGaps_iff]
  constructor
  · intro found
    obtain ⟨x, hx, taken⟩ : ∃ x ∈ (ps.drop first).take size, x ≠ none := by simpa using found
    obtain ⟨m, rfl⟩ := Option.ne_none_iff_exists'.mp taken
    obtain ⟨i, hi⟩ := List.mem_iff_getElem?.mp hx
    rw [stretch] at hi
    split at hi
    · exact ⟨first + i, m, hi, by omega, by omega⟩
    · cases hi
  · rintro ⟨p, m, here, low, high⟩ gaps
    have found : ((ps.drop first).take size)[p - first]? = some (some m) := by
      rw [stretch, if_pos (by omega), show first + (p - first) = p by omega, here]
    exact nomatch gaps _ (List.mem_of_getElem? found)

/-- The wake condition of a zone (R82). -/
theorem State.wakeCondition_iff {s : State} {l : Layout} (hl : s.store.layout = some l) (z : Nat) : s.wakeCondition z = true ↔
    (∃ p n, (s.positions (l.zoneChain z))[p]? = some (some n) ∧ l.zoneFirst z ≤ p + l.wakeLead ∧ p < l.zoneFirst z + l.zoneSize z) ∨
    (z = l.preZones ∧ s.buffer ≠ []) ∨ (z = 0 ∧ s.landing ≠ []) := by
  have ahead : s.lookAhead l z = ((s.positions (l.zoneChain z)).drop (l.zoneFirst z - l.wakeLead)).take
      (l.zoneFirst z - (l.zoneFirst z - l.wakeLead)) := List.drop_take
  rw [State.wakeCondition, hl]
  simp only [Bool.or_eq_true, Bool.not_eq_true', Bool.and_eq_true, decide_eq_true_eq, List.isEmpty_eq_false_iff, ahead, State.zonePositions,
    allGaps_drop_take]
  constructor
  · rintro (((⟨p, n, here, low, high⟩ | buffer) | landing) | ⟨p, n, here, low, high⟩)
    · exact .inl ⟨p, n, here, by omega, by omega⟩
    · exact .inr (.inl buffer)
    · exact .inr (.inr landing)
    · exact .inl ⟨p, n, here, by omega, high⟩
  · rintro (⟨p, n, here, low, high⟩ | buffer | landing)
    · by_cases before : p < l.zoneFirst z
      · exact .inl (.inl (.inl ⟨p, n, here, by omega, by omega⟩))
      · exact .inr ⟨p, n, here, by omega, high⟩
    · exact .inl (.inl (.inr buffer))
    · exact .inl (.inr landing)

theorem exec_economyTimerExpiry {s : State} {z : Nat} (hz : z < 10) : exec (.economyTimerExpiry z) s = .next (s.economyExpiry z) :=
  if_pos hz

theorem State.economyExpiry_runs {s : State} {z : Nat} {a : Zone} (h : s.zones[z]? = some a) (dries : a.state = .conditioned)
    (runs : a.economyTimer.isSome = true) : s.economyExpiry z =
      if s.wakeCondition z then s.modZone z fun x => { x with economyTimer := some s.economyTicks } else s.economyZone z := by
  rw [State.economyExpiry, h]
  exact if_pos ⟨dries, runs⟩

/-- A zone as it enters ECONOMY, before its outputs are evaluated (R81). -/
def Zone.economized (now : Word32) (a : Zone) : Zone := { a.enter now .economy with vent := false }

/-- The evaluation of a zone that enters ECONOMY is of its heat alone (R68, R69, R81). -/
theorem Zone.evaluate_economized {a : Zone} {g : Governing} (hg : a.governing = some g) (now : Word32) (r : Reading) :
    (a.economized now).evaluate r = { a.economized now with
      heat := heatLevel (g.entry.workTemp - g.entry.economyOffset) r.temp a.heat } := by
  have targets : (a.economized now).targets = some (g.entry.workTemp - g.entry.economyOffset, none) := by
    rw [Zone.targets]
    show (match a.governing with | none => none | some g => _) = _
    rw [hg]
    rfl
  rw [Zone.evaluate, targets]
  rfl

/-- Settles O23: the wake condition, then the timer again or ECONOMY. -/
theorem economyTimerExpiry : Obligations.EconomyTimerExpiry := by
  intro s z zn l g below hz hl hg
  rw [exec_economyTimerExpiry below]
  refine ⟨State.wakeCondition_iff hl z, fun still => ?_, fun dries runs wakes => ?_, fun dries runs asleep => ?_⟩
  · rw [State.economyExpiry, hz]
    refine congrArg _ (if_neg fun ⟨dries, runs⟩ => ?_)
    rcases still with stopped | other
    · simp [stopped] at runs
    · exact other dries
  · have ticks : s.economyTicks = l.economyDelay * 6000 := by
      rw [State.economyTicks, hl]
      rfl
    rw [State.economyExpiry_runs hz dries runs, if_pos wakes, State.modZone_eq hz, ticks]
    rfl
  · have enters : s.economyExpiry z = s.setZones (s.zones.set z (s.evaluated z (zn.economized s.clock))) := by
      rw [State.economyExpiry_runs hz dries runs, if_neg (by simp [asleep]), State.economyZone, State.modZone_eq hz,
        State.regulate_eq (a := zn.economized s.clock) (by exact getElem?_set_same hz)]
      simp only [State.setZones_zones, List.set_set]
      rfl
    rw [enters]
    refine ⟨(s.evaluated z (zn.economized s.clock)).heat, ?_, fun blind => ?_, fun r seen hr => ?_⟩
    · have frame : s.evaluated z (zn.economized s.clock) =
          { zn.economized s.clock with heat := (s.evaluated z (zn.economized s.clock)).heat } := by
        unfold State.evaluated
        cases s.seenReading z with
        | none => rfl
        | some r => rw [Option.elim_some, Zone.evaluate_economized hg]
      conv_lhs => rw [frame]
      rfl
    · rw [State.evaluated_unseen (.inl blind)]
      rfl
    · rw [State.evaluated_seen seen hr, Zone.evaluate_economized hg]
      exact heatLevel_follows ..

end Sys2Proof.Machine
end


section
/-! The pages of a store job, its completion and its failure (R66, R72, R171 to R174). -/

namespace Sys2Proof.Machine

-- One theorem at a time: each thread of Lean reserves its stack, and many at once pass the memory limit of the check.
set_option Elab.async false

/-! ## The zones that a new profile governs (R66, R174) -/

/-- An operation on each zone in index order that replaces its controller and raises BAND_LOST where its latch drops (R72). -/
theorem State.latch_round {s : State} {f : State → Nat → State} {g : Nat → Zone → Zone}
    (hf : ∀ u z a, u = { s with zones := u.zones, notices := u.notices } → u.zones[z]? = some a →
      f u z = { u with zones := u.zones.set z (g z a), notices := u.notices.bandLost s.clock z a (g z a) }) :
    s.eachZone f = { s with zones := s.zones.mapIdx g, notices := s.notices.bandLosts s.clock s.zones (s.zones.mapIdx g) } := by
  have round := State.eachZone_induct (s := s) (f := f) (fun k x => x = { s with
      zones := zonesUpTo k g s.zones
      notices := (List.range k).foldl (NoticeUnit.lostAt s.clock s.zones (s.zones.mapIdx g)) s.notices }) ?zero ?succ
  case zero => simp [zonesUpTo_zero]
  case succ =>
    intro k x hk hx
    have here := List.getElem?_eq_getElem hk
    have next : x.zones[k]? = some s.zones[k] := by
      rw [hx]
      exact zonesUpTo_next here _
    have after : (s.zones.mapIdx g)[k]? = some (g k s.zones[k]) := by
      rw [List.getElem?_mapIdx, here]
      rfl
    rw [hf x k _ (by rw [hx]) next, zonesUpTo_succ here, List.range_succ, List.foldl_append, List.foldl_cons, List.foldl_nil,
      NoticeUnit.lostAt, here, after, hx]
  rw [round, zonesUpTo_all, NoticeUnit.bandLosts_eq]
  simp

/-- A zone after its slot took a new profile: its copy of the entry for it, where the slot governs it and has one (R66). -/
def State.regoverned (s : State) (p z : Nat) (a : Zone) : Zone :=
  if a.governing.map (·.profile) = some p then (s.entryOf p z).elim a fun e => s.retargeted z { profile := p, entry := e } a else a

theorem State.regovern_eq {s : State} (p : Nat) {z : Nat} {a : Zone} (h : s.zones[z]? = some a) : State.regovern p s z = { s with
    zones := s.zones.set z (s.regoverned p z a), notices := s.notices.bandLost s.clock z a (s.regoverned p z a) } := by
  have same : s = { s with zones := s.zones.set z a, notices := s.notices.bandLost s.clock z a a } := by
    rw [set_of_getElem? h, NoticeUnit.bandLost_same]
  rw [State.regovern, h, State.regoverned]
  dsimp only
  split
  · cases s.entryOf p z with
    | none => exact same
    | some e => exact State.retarget_eq h _
  · exact same

theorem State.regovern_round (s : State) (p : Nat) : s.eachZone (State.regovern p) = { s with
    zones := s.zones.mapIdx (s.regoverned p)
    notices := s.notices.bandLosts s.clock s.zones (s.zones.mapIdx (s.regoverned p)) } := by
  refine State.latch_round fun u z a frame h => ?_
  rw [State.regovern_eq p h]
  rw [frame]
  rfl

/-! ## The end of a job (R172 to R174) -/

/-- The state after a completed job, before its block's working copy is replaced. -/
def State.jobDone (s : State) (j : Job) (st : StoreStatus) : State :=
  { s with
    store := { s.store with job := none, status := s.store.status.set j.block st }
    notices := s.notices.occurred .storeDone s.clock (BitVec.ofNat 32 j.block) }

theorem State.pageAck_completes {s : State} {j : Job} (hj : s.store.job = some j) (last : 7 ≤ j.page) : s.pageAck = s.completeJob j := by
  rw [State.pageAck, hj]
  exact if_neg (Nat.not_lt.mpr last)

/-- A profile job completes for a slot that no live lot names (R174). -/
theorem State.completeProfile_eq {s : State} {j : Job} (free : s.profileNamed (j.block - 1) = false) (new : ProfileSlot) :
    ((s.setStore { s.store with job := none }).raiseNat .storeDone j.block).completeProfile j.block new =
      ((s.jobDone j .current).setSlot (j.block - 1) new).eachZone (State.regovern (j.block - 1)) := by
  rw [State.completeProfile, if_neg (by rw [Bool.not_eq_true]; exact free)]
  rfl

theorem State.slot_setSlot {s : State} {i : Nat} (below : i < s.store.slots.length) (new : ProfileSlot) :
    (s.setSlot i new).store.slots.getD i .empty = new := by
  show (s.store.slots.set i new).getD i .empty = new
  rw [List.getD_eq_getElem?_getD, List.getElem?_set_self below, Option.getD_some]

/-- The entry that a zone takes from a slot just written. -/
theorem State.entryOf_written {s : State} {i : Nat} (below : i < s.store.slots.length) (prof : Profile) (z : Nat) :
    (s.setSlot i (.valid prof)).entryOf i z = prof.zones[z]? := by
  rw [State.entryOf, State.profile, State.slot_setSlot below, Option.bind_some]

theorem State.entryOf_erased {s : State} {i : Nat} (below : i < s.store.slots.length) (z : Nat) :
    (s.setSlot i .empty).entryOf i z = none := by
  rw [State.entryOf, State.profile, State.slot_setSlot below, Option.bind_none]

/-- The zones after their slot was written or erased (R66, R72, R174). -/
theorem State.regoverned_takes {s u : State} {p z : Nat} {a : Zone} (same : u.TakesCopy = s.TakesCopy) :
    (∀ e, a.governing.map Governing.profile = some p → u.entryOf p z = some e →
      s.TakesCopy z { profile := p, entry := e } a (u.regoverned p z a)) ∧
    (a.governing.map Governing.profile ≠ some p ∨ u.entryOf p z = none → u.regoverned p z a = a) := by
  unfold State.regoverned
  refine ⟨fun e governs entry => ?_, fun stays => ?_⟩
  · rw [if_pos governs, entry, ← same]
    exact u.retargeted_takesCopy z _ a
  · rcases stays with other | none
    · exact if_neg other
    · rw [none]
      exact ite_self a

/-- The page in progress on the store bus (R171, R172). -/
theorem Job.pageWrite_eq (j : Job) : j.pageWrite = [.start 0x52 .write] ++ ([BitVec.ofNat 8 ((512 * j.block + 64 * j.page) / 256),
    BitVec.ofNat 8 (512 * j.block + 64 * j.page)] ++ (j.image.drop (64 * j.page)).take 64).map .sent ++ [.stop] := rfl

/-- What a profile job leaves in its slot (R174). -/
def Job.slot (j : Job) : ProfileSlot := if j.kind = .profileErase then .empty else .valid (readProfile j.image)

theorem State.completeJob_profile {s : State} {j : Job} (profile : j.kind = .profileWrite ∨ j.kind = .profileErase) :
    s.completeJob j = ((s.setStore { s.store with job := none }).raiseNat .storeDone j.block).completeProfile j.block j.slot := by
  unfold State.completeJob Job.slot
  rcases profile with h | h <;> rw [h] <;> rfl

/-- The state after a profile job for a slot that no live lot names (R174). -/
def State.slotDone (s : State) (j : Job) : State := (s.jobDone j .current).setSlot (j.block - 1) j.slot

/-- The zones after a profile job for a slot that no live lot names (R66, R72, R174). -/
theorem State.slotDone_zones {s : State} {j : Job} (below : j.block - 1 < s.store.slots.length)
    (profile : j.kind = .profileWrite ∨ j.kind = .profileErase) (z : Nat) (a : Zone) :
    (∀ e, j.kind = .profileWrite → a.governing.map Governing.profile = some (j.block - 1) →
      (readProfile j.image).zones[z]? = some e →
        s.TakesCopy z { profile := j.block - 1, entry := e } a ((s.slotDone j).regoverned (j.block - 1) z a)) ∧
    (j.kind = .profileErase ∨ a.governing.map Governing.profile ≠ some (j.block - 1) ∨ (readProfile j.image).zones[z]? = none →
      (s.slotDone j).regoverned (j.block - 1) z a = a) := by
  obtain ⟨takes, stays⟩ := State.regoverned_takes (s := s) (u := s.slotDone j) (p := j.block - 1) (z := z) (a := a) rfl
  have below : j.block - 1 < (s.jobDone j .current).store.slots.length := below
  rcases profile with write | erase
  · have entry : (s.slotDone j).entryOf (j.block - 1) z = (readProfile j.image).zones[z]? := by
      rw [State.slotDone, Job.slot, if_neg (by simp [write]), State.entryOf_written below]
    refine ⟨fun e _ governs he => takes e governs (entry.trans he), fun why => stays ?_⟩
    rcases why with erase | other | none
    · exact nomatch write.symm.trans erase
    · exact .inl other
    · exact .inr (entry.trans none)
  · have entry : (s.slotDone j).entryOf (j.block - 1) z = none := by
      rw [State.slotDone, Job.slot, if_pos erase, State.entryOf_erased below]
    exact ⟨fun e write => absurd (erase.symm.trans write) JobKind.noConfusion, fun _ => stays (.inr entry)⟩

/-- Settles O50: a page, the completion of each kind of job, and the failure. -/
theorem storeJobsCompleteOrFailWhole : Obligations.StoreJobsCompleteOrFailWhole := by
  intro s
  refine ⟨fun idle => ?_, ?_⟩
  · have ack : s.pageAck = s := by rw [State.pageAck, idle]
    have timeout : s.pageTimeout = s := by rw [State.pageTimeout, idle]
    have nack : s.pageNack = s := by rw [State.pageNack, idle]
    exact ⟨congrArg _ ack, congrArg _ timeout, congrArg _ nack⟩
  intro j hj done fault
  have ends (last : 7 ≤ j.page) : exec .storePollAck s = .next (s.completeJob j) := congrArg _ (State.pageAck_completes hj last)
  have timeout : s.pageTimeout = s.failJob j true := by rw [State.pageTimeout, hj]
  have nack : s.pageNack = s.failJob j (decide (0 < j.page)) := by rw [State.pageNack, hj]
  refine ⟨?_, fun more => ?_, fun last table => ?_, fun last profile named => ?_, fun last profile unnamed below => ?_,
    fun last layout cold bare => ?_, congrArg _ timeout, fun written => ?_, fun first => ?_⟩
  · rw [State.storeTransfer, hj]
    exact j.pageWrite_eq
  · have ack : s.pageAck = s.setStore { s.store with job := some { j with page := j.page + 1 } } := by
      rw [State.pageAck, hj]
      exact if_pos more
    exact congrArg _ ack
  · rw [ends last, State.completeJob, table]
    rfl
  · rw [ends last, State.completeJob_profile profile, State.completeProfile, if_pos (by exact named)]
    rfl
  · rw [ends last, State.completeJob_profile profile, State.completeProfile_eq unnamed]
    refine ⟨s.zones.mapIdx ((s.slotDone j).regoverned (j.block - 1)), congrArg _ ((s.slotDone j).regovern_round (j.block - 1)), ?_⟩
    refine ⟨List.length_mapIdx, fun z a b ha hb => ?_⟩
    rw [List.getElem?_mapIdx, ha] at hb
    cases hb
    exact State.slotDone_zones below profile z a
  · rw [ends last, State.completeJob, layout]
    dsimp only
    rw [State.completeLayout, if_neg (by simpa using ⟨cold, bare⟩)]
    rfl
  · have fails : s.pageNack = s.failJob j true := by rw [nack, decide_eq_true written]
    exact congrArg _ fails
  · have fails : s.pageNack = s.failJob j false := by rw [nack, decide_eq_false (by omega)]
    exact congrArg _ fails

end Sys2Proof.Machine
end


section
/-! A layout job that completes in COLD or UNCONFIGURED (R75, R136, R137, R158, R160, R174). -/

namespace Sys2Proof.Machine

-- One theorem at a time: each thread of Lean reserves its stack, and many at once pass the memory limit of the check.
set_option Elab.async false

/-- The probe bus master under a new layout (R158, R160). -/
def ProbeBus.under (b : ProbeBus) (l : Layout) (now : Word32) : ProbeBus :=
  { b with
    records := dropProbes l.zoneCount b.records
    pollTimer := if b.inFlight = none then some 0 else none
    nextSlot := 0
    roundStart := if b.inFlight = none then now else b.roundStart
    roundOnStop := b.inFlight.isSome
    recovery := if b.fault.isSome then some (l.pollPeriod * 100 - b.faultAge % (l.pollPeriod * 100)) else none }

theorem State.setupPolls_eq {s : State} {l : Layout} (hl : s.store.layout = some l) :
    s.setupPolls l = { s with probeBus := s.probeBus.under l s.clock } := by
  unfold State.setupPolls ProbeBus.under
  dsimp only
  cases s.probeBus.inFlight with
  | none =>
    rw [if_neg (by simp), State.startRound_eq]
    show ({ s with probeBus := ProbeBus.newRound _ s.store.layout s.clock } : State) = _
    rw [hl]
    rfl
  | some i => rfl

theorem dropProbes_getElem? {n : Nat} {records : List Probe} {i : Nat} {p : Probe} (h : records[i]? = some p) :
    (dropProbes n records)[i]? = some (if n ≤ i ∧ i < 10 then { reading := none, misses := 0, lastMiss := none } else p) := by
  rw [dropProbes, List.getElem?_mapIdx, h]
  rfl

/-- The part set up for a new layout, the line where it was. -/
def State.laidOut (s : State) (l : Layout) : State :=
  { s with
    store := { s.store with layout := some l }
    arbiter := { s.arbiter with spacing := if l.rampSpacing = 0 then none else s.arbiter.spacing }
    zones := List.replicate l.zoneCount (Zone.fresh s.clock)
    preChain := List.replicate l.preCount none
    mainChain := List.replicate l.mainCount none
    probeBus := s.probeBus.under l s.clock }

theorem State.setup_laidOut (s : State) (l : Layout) : (s.setupLayout l s.clock).setupPolls l = s.laidOut l := by
  rw [State.setupPolls_eq rfl, State.setupLayout, Arbiter.under_eq]
  rfl

/-- The line goes from UNCONFIGURED to COLD (R137). -/
theorem State.laidOut_cold {s : State} (law : ModeLaw s) (line : s.line.state = .unconfigured) (l : Layout) :
    (s.laidOut l).changeLine .cold = { s.laidOut l with
      line := LineState.entered .cold s.clock, notices := s.notices.occurred .lineState s.clock 2 } := by
  have still : s.line.state.steps = false := by rw [line]; rfl
  have pre : (s.laidOut l).preSeq.held (s.laidOut l).clock = (s.laidOut l).preSeq := law.held still .pre
  have main : (s.laidOut l).mainSeq.held (s.laidOut l).clock = (s.laidOut l).mainSeq := law.held still .main
  have rest : (s.laidOut l).line.state.arms = false := by
    show s.line.state.arms = false
    rw [line]
    rfl
  have zones : ((s.laidOut l).zones.map fun zn => { zn with tickTimer := none, economyTimer := none }) = (s.laidOut l).zones :=
    List.map_replicate
  rw [State.changeLine_still _ .cold _ rfl rfl LineState.noConfusion (State.followCapture_rest _ _ rest rfl), zones, pre, main]
  rfl

/-- Settles O51: zones, chains, arbiter and polls of the new layout, then the line. -/
theorem layoutCompletionSetsUpTheLine : Obligations.LayoutCompletionSetsUpTheLine := by
  intro s j modes line hj last layout l done
  have ends : exec .storePollAck s = .next (s.completeJob j) := congrArg _ (State.pageAck_completes hj last)
  have installs : s.completeJob j = (s.jobDone j .current).installLayout l := by
    rw [State.completeJob, layout]
    exact if_pos line
  refine ⟨dropProbes l.zoneCount s.probeBus.records, ?_, fun i p hp => dropProbes_getElem? hp⟩
  rw [ends, installs, State.installLayout]
  dsimp only
  rw [State.setup_laidOut]
  rcases line with cold | bare
  · rw [if_neg (by show s.line.state ≠ _; simp [cold]), if_pos cold, if_pos cold]
    rfl
  · have law : ModeLaw (s.jobDone j .current) := modes
    have warm : s.line.state ≠ .cold := by simp [bare]
    rw [if_pos (by exact bare), State.laidOut_cold law (by exact bare), if_neg warm, if_neg warm]
    rfl

end Sys2Proof.Machine
end


section
/-! Start-up loading of the layout, profile and table blocks (R75, R133, R171, R175). -/

namespace Sys2Proof.Machine

-- One theorem at a time: each thread of Lean reserves its stack, and many at once pass the memory limit of the check.
set_option Elab.async false

/-! ## What is found in a block (R175) -/

/-- A block reads as blank. -/
def BlankBlock (bytes : List Byte) : Prop := ∀ x ∈ bytes, x = 0xFF

/-- A block carries the CRC of its first 510 bytes. -/
def BlockCrc (bytes : List Byte) : Prop :=
  [(crc16 (bytes.take 510) >>> 8).setWidth 8, (crc16 (bytes.take 510)).setWidth 8] = bytes.drop 510

theorem blankBlock_iff {bytes : List Byte} (length : bytes.length = 512) : BlankBlock bytes ↔ bytes = blankImage := by
  rw [blankImage, List.eq_replicate_iff]
  exact (and_iff_right length).symm

theorem crcBytes_eq (bytes : List Byte) : crcBytes bytes = [(crc16 bytes >>> 8).setWidth 8, (crc16 bytes).setWidth 8] := by
  have high : BitVec.ofNat 8 ((crc16 bytes).toNat / 256) = (crc16 bytes >>> 8).setWidth 8 := by
    refine BitVec.eq_of_toNat_eq ?_
    simp [BitVec.toNat_ushiftRight, Nat.shiftRight_eq_div_pow]
  have low : BitVec.ofNat 8 (crc16 bytes).toNat = (crc16 bytes).setWidth 8 := by
    refine BitVec.eq_of_toNat_eq ?_
    simp
  rw [← high, ← low]
  rfl

theorem blockCrc_iff {bytes : List Byte} (length : bytes.length = 512) :
    BlockCrc bytes ↔ crcBytes (bytes.take 510) = (bytes.drop 510).take 2 := by
  have rest : (bytes.drop 510).take 2 = bytes.drop 510 := List.take_of_length_le (by rw [List.length_drop, length])
  rw [BlockCrc, crcBytes_eq, rest]

section
variable {α : Type} {content : List Byte → Option α} {bytes : List Byte}

theorem judgeRead_blank (length : bytes.length = 512) (blank : BlankBlock bytes) : judgeRead content (some bytes) = .blank :=
  if_pos ((blankBlock_iff length).mp blank)

theorem judgeRead_broken (length : bytes.length = 512) (written : ¬ BlankBlock bytes) (broken : ¬ BlockCrc bytes) :
    judgeRead content (some bytes) = .invalid := by
  rw [judgeRead, judgeBlock, if_neg (mt (blankBlock_iff length).mpr written), if_pos (mt (blockCrc_iff length).mpr broken)]

theorem judgeRead_sound (length : bytes.length = 512) (written : ¬ BlankBlock bytes) (sound : BlockCrc bytes) :
    judgeRead content (some bytes) = (content bytes).elim .invalid .valid := by
  rw [judgeRead, judgeBlock, if_neg (mt (blankBlock_iff length).mpr written),
    if_neg (not_not_intro ((blockCrc_iff length).mp sound))]
  cases content bytes <;> rfl

/-- A block that is not valid is blank or invalid. -/
theorem judgeRead_unsound (length : bytes.length = 512) (h : BlankBlock bytes ∨ ¬ BlockCrc bytes ∨ content bytes = none) :
    judgeRead content (some bytes) = .blank ∨ judgeRead content (some bytes) = .invalid := by
  by_cases blank : BlankBlock bytes
  · exact .inl (judgeRead_blank length blank)
  · by_cases sound : BlockCrc bytes
    · have none : content bytes = none := (h.resolve_left blank).resolve_left (not_not_intro sound)
      rw [judgeRead_sound length blank sound, none]
      exact .inr rfl
    · exact .inr (judgeRead_broken length blank sound)

end

theorem profileContent_eq_none {bytes : List Byte} (fault : profileFault (readProfile bytes) ≠ none) : profileContent bytes = none :=
  if_neg (by simpa using fault)

theorem profileContent_eq_some {bytes : List Byte} (sound : profileFault (readProfile bytes) = none) :
    profileContent bytes = some (readProfile bytes) := if_pos (by simp [sound])

theorem layoutContent_eq_none {bytes : List Byte} (fault : layoutFault (readLayout bytes) ≠ none) : layoutContent bytes = none :=
  if_neg (by simpa using fault)

theorem layoutContent_eq_some {bytes : List Byte} (sound : layoutFault (readLayout bytes) = none) :
    layoutContent bytes = some (readLayout bytes) := if_pos (by simp [sound])

theorem tableEntryOk_iff (n : Nat) : tableEntryOk n = true ↔ n ≤ 10000 := by simp [tableEntryOk, inRange]

theorem tableContent_eq_some {bytes : List Byte} (sound : ∀ x ∈ readTable bytes, x ≤ 10000) :
    tableContent bytes = some (readTable bytes) :=
  if_pos (List.all_eq_true.mpr fun x hx => (tableEntryOk_iff x).mpr (sound x hx))

theorem tableContent_eq_none {bytes : List Byte} (fault : ∃ x ∈ readTable bytes, 10000 < x) : tableContent bytes = none := by
  obtain ⟨x, hx, above⟩ := fault
  exact if_neg fun all => Nat.not_le.mpr above ((tableEntryOk_iff x).mp (List.all_eq_true.mp all x hx))

/-! ## The end of a block's read (R133, R175) -/

/-- The state after a block was taken, its status and the start-up phase moved on. -/
def State.blockLoaded (s : State) (b : Nat) (bytes : Option (List Byte)) : State := ((s.loadBlock b bytes).setStatus b .current).loadNext b

theorem State.loading_iff (s : State) : s.loading = true ↔ s.line.state = .init ∧ s.line.phase ≠ some .probeScan := by
  unfold State.loading State.scanning
  cases s.line.state <;> simp

theorem State.loadEnds_still {s : State} (h : s.line.state ≠ .init) (bytes : Option (List Byte)) : s.loadEnds bytes = s :=
  if_neg fun loading => h (s.loading_iff.mp loading).1

theorem exec_loadBlockRead {s : State} {bytes : List Byte} (length : bytes.length = 512) (loading : s.loading = true) :
    exec (.loadBlockRead bytes) s = .next (s.blockLoaded s.store.loadBlock (some bytes)) := by
  have ends : exec (.loadBlockRead bytes) s = .next (s.loadEnds (some bytes)) := if_pos length
  rw [ends]
  exact congrArg _ (if_pos loading)

theorem exec_loadPollTimeout {s : State} (loading : s.loading = true) :
    exec .loadPollTimeout s = .next ((s.raiseNat .storeFault s.store.loadBlock).blockLoaded s.store.loadBlock none) :=
  congrArg Host.Outcome.next (if_pos loading)

/-- An unreadable block is taken as a broken one (R175). -/
theorem State.blockLoaded_broken {s : State} {b : Nat} {bytes : List Byte} (length : bytes.length = 512) (written : ¬ BlankBlock bytes)
    (broken : ¬ BlockCrc bytes) : s.blockLoaded b none = s.blockLoaded b (some bytes) := by
  have same {α : Type} (content : List Byte → Option α) : judgeRead content none = judgeRead content (some bytes) :=
    (judgeRead_broken length written broken).symm
  unfold State.blockLoaded State.loadBlock
  rw [same layoutContent, same profileContent, same tableContent]

/-- A profile slot loaded from its block (R133, R175). -/
def State.slotLoaded (s : State) (b : Nat) (slot : ProfileSlot) : State :=
  { s with
    line := if b = 8 then { s.line with phase := some .loadTable } else s.line
    store := { s.store with slots := s.store.slots.set (b - 1) slot, status := s.store.status.set b .current, loadBlock := b + 1 } }

theorem State.blockLoaded_profile {s : State} {b : Nat} (low : 1 ≤ b) (high : b ≤ 8) {bytes : Option (List Byte)} {slot : ProfileSlot}
    (found : s.loadProfile (b - 1) (judgeRead profileContent bytes) = s.setSlot (b - 1) slot) :
    s.blockLoaded b bytes = s.slotLoaded b slot := by
  have load : s.loadBlock b bytes = s.setSlot (b - 1) slot := by
    rw [State.loadBlock, if_neg (by omega), if_pos high, found]
  unfold State.blockLoaded State.loadNext State.slotLoaded
  rw [load]
  dsimp only
  rw [if_neg (by omega : ¬ b = 0), if_neg (by omega : ¬ b = 9)]
  by_cases last : b = 8
  · rw [if_pos last, if_pos last]
    rfl
  · rw [if_neg last, if_neg last]
    rfl

/-- No layout, blank or broken: the working layout is left absent (R175). -/
theorem State.blockLoaded_noLayout {s : State} {b : Nat} (first : b = 0) {bytes : Option (List Byte)}
    (none : judgeRead layoutContent bytes = .blank ∨ judgeRead layoutContent bytes = .invalid) :
    s.blockLoaded b bytes = { s with
      line := { s.line with phase := some .loadProfiles }
      store := { s.store with status := s.store.status.set b .current, loadBlock := 1 } } := by
  subst first
  have load : s.loadBlock 0 bytes = s := by
    rw [State.loadBlock, if_pos rfl]
    rcases none with h | h <;> rw [h] <;> rfl
  rw [State.blockLoaded, load]
  rfl

theorem State.blockLoaded_layout {s : State} {b : Nat} (first : b = 0) {bytes : Option (List Byte)} {l : Layout}
    (found : judgeRead layoutContent bytes = .valid l) : s.blockLoaded b bytes = { s with
      line := { s.line with phase := some .loadProfiles }
      store := { s.store with layout := some l, status := s.store.status.set b .current, loadBlock := 1 }
      zones := List.replicate l.zoneCount (Zone.fresh s.link.lastResetTime)
      arbiter := { s.arbiter with spacing := if l.rampSpacing = 0 then none else s.arbiter.spacing }
      preChain := List.replicate l.preCount none
      mainChain := List.replicate l.mainCount none } := by
  subst first
  have load : s.loadBlock 0 bytes = s.setupLayout l s.link.lastResetTime := by
    rw [State.loadBlock, if_pos rfl, found]
    rfl
  rw [State.blockLoaded, load, State.setupLayout, Arbiter.under_eq]
  rfl

/-- The table block taken, and the scan begun (R112, R133, R175). -/
def State.tableScanned (s : State) (b : Nat) (table : List Nat) (loaded : Bool) : State :=
  { s with
    line := { s.line with phase := some .probeScan }
    table := table
    tableLoaded := loaded
    store := { s.store with status := s.store.status.set b .current, loadBlock := 10 }
    probeBus := { s.probeBus with pollTimer := some 0, nextSlot := 0 } }

theorem State.blockLoaded_table {s : State} {b : Nat} (last : b = 9) {bytes : Option (List Byte)} {table : List Nat} {loaded : Bool}
    (found : s.loadTable (judgeRead tableContent bytes) = { s with table := table, tableLoaded := loaded }) :
    s.blockLoaded b bytes = s.tableScanned b table loaded := by
  subst last
  have load : s.loadBlock 9 bytes = { s with table := table, tableLoaded := loaded } := found
  rw [State.blockLoaded, load]
  rfl

/-- The read of a block on the store bus (R171, R175). -/
theorem blockRead_eq (b : Nat) : blockRead b = [.start 0x52 .write, .sent (BitVec.ofNat 8 (512 * b / 256)), .sent (BitVec.ofNat 8 (512 * b)),
    .start 0x52 .read] ++ List.replicate 511 (.clockedIn true) ++ [.clockedIn false, .stop] := rfl

/-- Settles O52: what is found in the block, taken by its number. -/
theorem startUpLoadsTheBlocks : Obligations.StartUpLoadsTheBlocks := by
  intro s bytes length blank crcOk b current
  refine ⟨fun out => ?_, fun init load => ?_⟩
  · refine ⟨?_, congrArg _ (State.loadEnds_still out none), congrArg _ (State.loadEnds_still out none)⟩
    exact (if_pos length).trans (congrArg _ (State.loadEnds_still out (some bytes)))
  have loading : s.loading = true := s.loading_iff.mpr ⟨init, load⟩
  have reads : exec (.loadBlockRead bytes) s = .next (s.blockLoaded b (some bytes)) := exec_loadBlockRead length loading
  have timeout : exec .loadPollTimeout s = .next ((s.raiseNat .storeFault b).blockLoaded b none) := exec_loadPollTimeout loading
  refine ⟨fun idle => ?_, rfl, fun written broken => ?_, ?_, fun layout unsound => ?_, fun layout written sound good => ?_, ?_⟩
  · rw [State.storeTransfer, idle]
    exact (if_pos loading).trans (blockRead_eq _)
  · rw [timeout, State.blockLoaded_broken length written broken]
    exact (exec_loadBlockRead (s := s.raiseNat .storeFault b) length loading).symm
  · intro low high loaded
    have takes {slot : ProfileSlot} (found : s.loadProfile (b - 1) (judgeRead profileContent (some bytes)) = s.setSlot (b - 1) slot) :
        exec (.loadBlockRead bytes) s = loaded slot s.notices := by
      rw [reads, State.blockLoaded_profile low high found]
      rfl
    refine ⟨fun empty => takes ?_, fun written broken => takes ?_, fun written sound fault => takes ?_,
      fun written sound good => takes ?_, ?_⟩
    · rw [judgeRead_blank length empty]
      rfl
    · rw [judgeRead_broken length written broken]
      rfl
    · rw [judgeRead_sound length written sound, profileContent_eq_none fault]
      rfl
    · rw [judgeRead_sound length written sound, profileContent_eq_some good]
      rfl
    · rw [timeout, State.blockLoaded_profile low high (slot := .corrupt) rfl]
      rfl
  · have absent := judgeRead_unsound (content := layoutContent) length (unsound.imp_right (Or.imp_right layoutContent_eq_none))
    rw [reads, State.blockLoaded_noLayout layout absent]
  · have found : judgeRead layoutContent (some bytes) = .valid (readLayout bytes) := by
      rw [judgeRead_sound length written sound, layoutContent_eq_some good, Option.elim_some]
    rw [reads, State.blockLoaded_layout layout found]
    refine ⟨List.replicate (readLayout bytes).zoneCount (Zone.fresh s.link.lastResetTime), rfl, List.length_replicate, fun zn hz => ?_⟩
    rw [List.eq_of_mem_replicate hz]
    exact ⟨rfl, rfl⟩
  · intro last scanning
    refine ⟨fun written sound good => ?_, fun unsound => ?_⟩
    · have found : judgeRead tableContent (some bytes) = .valid (readTable bytes) := by
        rw [judgeRead_sound length written sound, tableContent_eq_some good, Option.elim_some]
      rw [reads, State.blockLoaded_table last (by rw [found]; rfl)]
      rfl
    · have absent := judgeRead_unsound (content := tableContent) length (unsound.imp_right (Or.imp_right tableContent_eq_none))
      have zeros : s.loadTable (judgeRead tableContent (some bytes)) = { s with table := List.replicate 168 0, tableLoaded := false } := by
        rcases absent with h | h <;> rw [h] <;> rfl
      rw [reads, State.blockLoaded_table last zeros]
      rfl

end Sys2Proof.Machine
end


section
/-! The sorption lookup (R98, R99). -/

namespace Sys2Proof.Machine

theorem sorptionRow_eq (t : Int) :
    sorptionRow t = if t < 300 then 0 else if 1000 ≤ t then 7 else ((t - 300) / 100).toNat := by
  unfold sorptionRow clampInt
  split_ifs <;> omega

/-- The truncated fifty parts of a distance lie between 0 and the distance. -/
theorem tdiv_fifty_between (d : Int) {f : Nat} (hf : f < 50) :
    (0 ≤ d → 0 ≤ (d * f).tdiv 50 ∧ (d * f).tdiv 50 ≤ d) ∧ (d ≤ 0 → d ≤ (d * f).tdiv 50 ∧ (d * f).tdiv 50 ≤ 0) := by
  have upward (a : Int) (ha : 0 ≤ a) : 0 ≤ (a * f).tdiv 50 ∧ (a * f).tdiv 50 ≤ a := by
    have part : a * f ≤ a * 50 := Int.mul_le_mul_of_nonneg_left (by omega) ha
    have whole : 0 ≤ a * f := Int.mul_nonneg ha (Int.natCast_nonneg f)
    rw [Int.tdiv_eq_ediv_of_nonneg whole]
    omega
  refine ⟨upward d, fun hd => ?_⟩
  have mirrored := upward (-d) (by omega)
  rw [Int.neg_mul, Int.neg_tdiv] at mirrored
  omega

/-- A table entry moved toward the next by the truncated fifty parts of their difference (R99). -/
def interpolated (e0 e1 : Int) (f : Nat) : Int := e0 + ((e1 - e0) * f).tdiv 50

theorem interpolated_between (e0 e1 : Int) {f : Nat} (hf : f < 50) :
    min e0 e1 ≤ interpolated e0 e1 f ∧ interpolated e0 e1 f ≤ max e0 e1 := by
  have between := tdiv_fifty_between (e1 - e0) hf
  unfold interpolated
  omega

/-- From 1,000 on, the humidity is clamped and the last column holds. -/
theorem equilibrium_clamped (table : List Nat) (t : Int) {h : Nat} (high : 1000 ≤ h) :
    equilibrium table t h = 10 * sorptionEntry table (sorptionRow t) 20 := by
  have clamped : min h 1000 = 1000 := Nat.min_eq_right high
  rw [equilibrium, clamped]
  rfl

/-- Below 1,000 the equilibrium interpolates between two columns, and no entry is negative. -/
theorem equilibrium_interpolated (table : List Nat) (t : Int) {h : Nat} (low : h < 1000) :
    (equilibrium table t h : Int) = 10 * interpolated (sorptionEntry table (sorptionRow t) (h / 50))
      (sorptionEntry table (sorptionRow t) (h / 50 + 1)) (h % 50) := by
  have same : min h 1000 = h := Nat.min_eq_left (Nat.le_of_lt low)
  have column : ¬ h / 50 = 20 := by omega
  have between := interpolated_between (sorptionEntry table (sorptionRow t) (h / 50))
    (sorptionEntry table (sorptionRow t) (h / 50 + 1)) (Nat.mod_lt h (by decide : 0 < 50))
  rw [equilibrium, same, if_neg column, ← interpolated]
  omega

theorem sorptionEntry_le {table : List Nat} {bound : Nat} (bounded : ∀ x ∈ table, x ≤ bound) (r c : Nat) :
    sorptionEntry table r c ≤ bound := by
  rw [sorptionEntry, List.getD_eq_getElem?_getD]
  cases found : table[tableColumns * r + c]? with
  | none => exact Nat.zero_le bound
  | some x => exact bounded x (List.mem_of_getElem? found)

/-- Settles O46: the column 20 and the interpolation, each bounded by the entries it reads. -/
theorem equilibriumLookup : Obligations.EquilibriumLookup := by
  intro table t h r e
  have row : r = sorptionRow t := (sorptionRow_eq t).symm
  have entry (c : Nat) : e c = sorptionEntry table (sorptionRow t) c := by rw [← row]; rfl
  have between := interpolated_between (e (h / 50)) (e (h / 50 + 1)) (Nat.mod_lt h (by decide : 0 < 50))
  have interpolates (low : h < 1000) : (equilibrium table t h : Int) = 10 * interpolated (e (h / 50)) (e (h / 50 + 1)) (h % 50) := by
    rw [entry, entry, equilibrium_interpolated table t low]
  have clamps (high : 1000 ≤ h) : (equilibrium table t h : Int) = 10 * e 20 := by
    rw [entry, equilibrium_clamped table t high]
    rfl
  refine ⟨clamps, interpolates, fun low => ?_, fun bounded => ?_⟩
  · have := interpolates low
    omega
  · have entries (c : Nat) : e c ≤ 10000 := by
      rw [entry]
      exact Int.ofNat_le.mpr (sorptionEntry_le bounded (sorptionRow t) c)
    rcases Nat.lt_or_ge h 1000 with low | high
    · have := interpolates low
      have := entries (h / 50)
      have := entries (h / 50 + 1)
      omega
    · have := clamps high
      have := entries 20
      omega

end Sys2Proof.Machine
end


section
/-! Exit grading (R113 to R117, R127, R128, R184, R186). -/

namespace Sys2Proof.Machine

/-! ## Offering a report (R184 to R186) -/

/-- A report queue after a report it lost: the sequence number is used (R186). -/
def ReportQueue.missed (q : ReportQueue) : ReportQueue := { q with nextSequence := q.nextSequence + 1 }

/-- A lot after a report of it was lost (R186). -/
def Lot.unreported (l : Lot) : Lot := { l with reportsLost := min (l.reportsLost + 1) 65535 }

/-- A report that finds room joins the queue, and REPORT_HIGH is raised where the queue comes to its high mark (R184, R185). -/
theorem State.offerReport_kept {s : State} (room : s.reports.reports.length < 256) (body : ReportBody) (slot : Option Nat) (id : Word32) :
    s.offerReport body slot id = { s with
      reports := s.reports.joined body
      notices := if s.reports.reports.length = 191 then s.notices.occurred .reportHigh s.clock 192 else s.notices } := by
  have mark : (s.reports.joined body).reports.length = reportHighMark ↔ s.reports.reports.length = 191 := by
    rw [ReportQueue.joined, List.length_append]
    exact Nat.add_right_cancel_iff (m := s.reports.reports.length) (k := 191) (n := 1)
  have joins : s.offerReport body slot id = if (s.reports.joined body).reports.length = reportHighMark then
      (s.setReports (s.reports.joined body)).raiseNat .reportHigh reportHighMark else s.setReports (s.reports.joined body) := if_pos room
  rw [joins, if_congr mark rfl rfl]
  split <;> rfl

theorem ReportQueue.joined_joined (q : ReportQueue) (first second : ReportBody) :
    (q.joined first).joined second = {
      reports := q.reports ++ [{ sequence := q.nextSequence, body := first }, { sequence := q.nextSequence + 1, body := second }]
      nextSequence := q.nextSequence + 1 + 1 } := by
  simp only [ReportQueue.joined, List.append_assoc, List.cons_append, List.nil_append]

/-- Of two reports in a row at most one brings the queue of k reports to its high mark. -/
theorem reportHigh_once (k : Nat) (n : NoticeUnit) (now : Word32) :
    let first := if k = 191 then n.occurred .reportHigh now 192 else n
    (if k + 1 = 191 then first.occurred .reportHigh now 192 else first) =
      if k = 191 ∨ k = 190 then n.occurred .reportHigh now 192 else n := by
  rcases Decidable.em (k = 191) with at191 | off191
  · simp [at191]
  · simp [off191]

/-- A report that meets a full queue is lost, counted by the lot it names (R186). -/
theorem State.offerReport_lost {s : State} {slot : Nat} {lot : Lot} (full : s.reports.reports.length = 256) (hl : s.lot slot = some lot)
    (body : ReportBody) (id : Word32) :
    s.offerReport body (some slot) id = { s with
      lots := s.lots.set slot (some lot.unreported)
      reports := s.reports.missed
      notices := s.notices.occurred .reportLost s.clock id } := by
  have loses : s.offerReport body (some slot) id = s.loseReport (some slot) id := if_neg (Nat.not_lt.mpr (Nat.le_of_eq full.symm))
  rw [loses, State.loseReport]
  dsimp only
  rw [State.modLot_eq (by exact hl)]
  rfl

/-! ## The drain check (R127, R128) -/

theorem State.drainCheck_stays {s : State} {slot : Nat} {lot : Lot} (hl : s.lot slot = some lot)
    (stays : ¬ (lot.state = .closed ∧ lot.inTrain = 0)) : s.drainCheck slot = s := by
  rw [State.drainCheck, hl]
  exact if_neg stays

theorem State.drainCheck_drains {s : State} {slot : Nat} {lot : Lot} (hl : s.lot slot = some lot)
    (drains : lot.state = .closed ∧ lot.inTrain = 0) : s.drainCheck slot = s.drainLot slot lot := by
  rw [State.drainCheck, hl]
  exact if_pos drains

theorem State.drainLot_kept {s : State} (room : s.reports.reports.length < 256) (slot : Nat) (lot : Lot) :
    s.drainLot slot lot = { s with
      lots := s.lots.set slot none
      reports := s.reports.joined (.lotSummary slot lot s.clock)
      notices := (if s.reports.reports.length = 191 then s.notices.occurred .reportHigh s.clock 192 else s.notices).occurred
        .lotDrained s.clock lot.id } := by
  rw [State.drainLot, State.offerReport_kept room]
  rfl

/-- A lot whose summary is lost drains all the same (R186). -/
theorem State.drainLot_lost {s : State} {slot : Nat} {lot : Lot} (full : s.reports.reports.length = 256) (hl : s.lot slot = some lot) :
    s.drainLot slot lot = { s with
      lots := s.lots.set slot none
      reports := s.reports.missed
      notices := (s.notices.occurred .reportLost s.clock lot.id).occurred .lotDrained s.clock lot.id } := by
  have freed : (s.lots.set slot (some lot.unreported)).set slot none = s.lots.set slot none := List.set_set ..
  rw [State.drainLot, State.offerReport_lost full hl, ← freed]
  rfl

/-! ## The final accounting (R107) -/

theorem State.finalAccount_eq {s : State} {r : Rod} {lot : Lot} {p : Profile} {l : Layout} {z : Nat} {zn : Zone} {g : Governing}
    (hlot : s.lot r.lotSlot = some lot) (hp : s.profile lot.profile = some p) (hl : s.store.layout = some l)
    (last : z + 1 = s.zones.length) (hz : s.zones[z]? = some zn) (hg : zn.governing = some g) (now : Word32) :
    s.finalAccount now r = accountRod s.table
      { state := zn.state, latch := zn.latch, profile := g.profile, coefficient := g.entry.coefficient,
        gradientLimit := g.entry.gradientLimit, temp := (s.workingClimate l z zn.state g.entry).1,
        hum := (s.workingClimate l z zn.state g.entry).2, estimated := s.blind z }
      now (some lot.profile) (some p.heatThreshold) r := by
  have lastZone : s.lastZone = z := by
    rw [State.lastZone, ← last]
    rfl
  have latch : s.zoneLatch z = zn.latch := by rw [State.zoneLatch, hz]
  have number : s.rodProfileNumber r = some lot.profile := by
    rw [State.rodProfileNumber, hlot]
    rfl
  have profile : s.rodProfile r = some p := by
    rw [State.rodProfile, number]
    exact hp
  rw [State.finalAccount, lastZone, latch, State.accounted, State.zoneAir, hl, hz]
  dsimp only
  rw [hg, number, profile]
  rfl

/-- An accounting leaves the rod's number, lot, charge and hang time. -/
theorem accountRod_identity (table : List Nat) (air : ZoneAir) (now : Word32) (profile : Option Nat) (threshold : Option Int) (r : Rod) :
    let r' := accountRod table air now profile threshold r
    r'.number = r.number ∧ r'.lotSlot = r.lotSlot ∧ r'.charge = r.charge ∧ r'.hangTime = r.hangTime := by
  unfold accountRod
  dsimp only
  split <;> exact ⟨rfl, rfl, rfl, rfl⟩

/-! ## Grading (R113, R116, R117) -/

theorem State.dispositionOf_eq {s : State} {r : Rod} {lot : Lot} {p : Profile} (hlot : s.lot r.lotSlot = some lot)
    (hp : s.profile lot.profile = some p) : s.dispositionOf r = disposition p r := by
  have profile : s.rodProfile r = some p := by
    rw [State.rodProfile, State.rodProfileNumber, hlot]
    exact hp
  rw [State.dispositionOf, profile]

/-- A lot after the exit of one of its rods: one exit counted, one rod less in train (R116, R120). -/
def Lot.exited (d : Disposition) (charge : Option Nat) (l : Lot) : Lot :=
  { l.countExit d charge with inTrain := (l.countExit d charge).inTrain - 1 }

theorem Lot.exited_eq (d : Disposition) (charge : Option Nat) (l : Lot) : l.exited d charge = { l with
    inTrain := l.inTrain - 1
    accepted := if d = .accept then l.accepted + 1 else l.accepted
    acceptedCharge := if d = .accept then min (l.acceptedCharge + charge.getD 0) 4294967295 else l.acceptedCharge
    reviewed := if d = .review then l.reviewed + 1 else l.reviewed
    reworked := if d = .rework then l.reworked + 1 else l.reworked
    rejected := if d = .reject then l.rejected + 1 else l.rejected } := by
  cases d <;> rfl

theorem Lot.exited_stays {l : Lot} (remains : l.state = .opened ∨ 1 < l.inTrain) (d : Disposition) (charge : Option Nat) :
    ¬ ((l.exited d charge).state = .closed ∧ (l.exited d charge).inTrain = 0) := by
  rw [Lot.exited_eq]
  rintro ⟨closed, empty⟩
  rcases remains with opened | more
  · exact LotState.noConfusion (opened.symm.trans closed)
  · exact Nat.ne_of_gt (Nat.sub_pos_of_lt more) empty

theorem Lot.exited_drains {l : Lot} (closed : l.state = .closed) (few : l.inTrain ≤ 1) (d : Disposition) (charge : Option Nat) :
    (l.exited d charge).state = .closed ∧ (l.exited d charge).inTrain = 0 := by
  rw [Lot.exited_eq]
  exact ⟨closed, Nat.sub_eq_zero_of_le few⟩

/-- The state after a graded rod has left: its disposition on the divert lines, its record freed, its lot as given. -/
def State.released (s : State) (r : Rod) (d : Disposition) (lot : Option Lot) : State :=
  { s with divert := d, lots := s.lots.set r.lotSlot lot, rods := s.rods.filter fun x => x.number != r.number }

/-- The state in which the report of a graded rod is offered: the disposition on the divert lines, the exit counted (R113, R116). -/
def State.judged (s : State) (r : Rod) (d : Disposition) (lot : Lot) : State :=
  { s with divert := d, lots := s.lots.set r.lotSlot (some (lot.countExit d r.charge)) }

theorem State.gradeRod_eq {s : State} {r : Rod} {lot : Lot} {d : Disposition} (hlot : s.lot r.lotSlot = some lot)
    (hd : s.dispositionOf r = d) (now : Word32) :
    let offered := (s.judged r d lot).offerReport (exitReport lot.id d now r) (some r.lotSlot) lot.id
    s.gradeRod r now = ((offered.setRods (offered.rods.filter fun x => x.number != r.number)).modLot r.lotSlot
      fun l => { l with inTrain := l.inTrain - 1 }).drainCheck r.lotSlot := by
  have judged : ({ s with divert := d } : State).modLot r.lotSlot (fun l => l.countExit d r.charge) = s.judged r d lot :=
    State.modLot_eq (by exact hlot) _
  rw [State.gradeRod, hd, State.lotIdOf_eq hlot]
  dsimp only
  rw [judged]

/-- Grading against a report queue with room, up to the drain check. -/
theorem State.gradeRod_kept {s : State} {r : Rod} {lot : Lot} {d : Disposition} (hlot : s.lot r.lotSlot = some lot)
    (hd : s.dispositionOf r = d) (room : s.reports.reports.length < 256) (now : Word32) :
    s.gradeRod r now = State.drainCheck { s.released r d (some (lot.exited d r.charge)) with
      reports := s.reports.joined (exitReport lot.id d now r)
      notices := if s.reports.reports.length = 191 then s.notices.occurred .reportHigh s.clock 192 else s.notices } r.lotSlot := by
  have replaced (o : Option Lot) : (s.judged r d lot).lots.set r.lotSlot o = s.lots.set r.lotSlot o := List.set_set ..
  rw [State.gradeRod_eq hlot hd, State.offerReport_kept (by exact room), State.modLot_eq (State.lot_set_same hlot rfl),
    State.released, ← replaced]
  rfl

/-- Grading against a full report queue, up to the drain check (R186). -/
theorem State.gradeRod_lost {s : State} {r : Rod} {lot : Lot} {d : Disposition} (hlot : s.lot r.lotSlot = some lot)
    (hd : s.dispositionOf r = d) (full : s.reports.reports.length = 256) (now : Word32) :
    s.gradeRod r now = State.drainCheck { s.released r d (some (lot.exited d r.charge).unreported) with
      reports := s.reports.missed
      notices := s.notices.occurred .reportLost s.clock lot.id } r.lotSlot := by
  have counted : (s.judged r d lot).lot r.lotSlot = some (lot.countExit d r.charge) := State.lot_set_same hlot rfl
  have replaced (o : Option Lot) : ((s.judged r d lot).lots.set r.lotSlot (some (lot.countExit d r.charge).unreported)).set r.lotSlot o =
      s.lots.set r.lotSlot o := by
    rw [List.set_set]
    exact List.set_set ..
  rw [State.gradeRod_eq hlot hd, State.offerReport_lost (by exact full) counted, State.modLot_eq (State.lot_set_same counted rfl),
    State.released, ← replaced]
  rfl

/-- Settles O32: the rod is graded against the report queue as it stands, then the drain check of its lot keeps the lot or frees it. -/
theorem exitGradesTheRod : Obligations.ExitGradesTheRod := by
  intro s n r lot p l z zn g hr hlot hp hl last hz hg r' d counted exit left
  obtain ⟨number, slot, charge, hangTime⟩ : r'.number = n ∧ r'.lotSlot = r.lotSlot ∧ r'.charge = r.charge ∧ r'.hangTime = r.hangTime := by
    have found : r.number = n := by simpa using List.find?_some hr
    exact found ▸ accountRod_identity ..
  have graded : s.gradeExit n s.clock = s.gradeRod r' s.clock := by
    rw [State.gradeExit_live hr, State.finalAccount_eq hlot hp hl last hz hg]
  have hlot' : s.lot r'.lotSlot = some lot := slot ▸ hlot
  have hd : s.dispositionOf r' = d := State.dispositionOf_eq hlot' hp
  have tally : lot.exited d r'.charge = counted := by rw [charge, Lot.exited_eq]
  have report : exitReport lot.id d s.clock r' = exit.body := by rw [exitReport, number, charge, hangTime]
  have released (o : Option Lot) : s.released r' d o = { s with divert := d, lots := s.lots.set r.lotSlot o, rods := left } := by
    rw [State.released, number, slot]
  have kept (room : s.reports.reports.length < 256) := State.gradeRod_kept hlot' hd room s.clock
  have lost (full : s.reports.reports.length = 256) := State.gradeRod_lost hlot' hd full s.clock
  rw [tally, report, released, slot, ← graded] at kept
  rw [tally, released, slot, ← graded] at lost
  have joined : (s.reports.joined exit.body).reports.length = s.reports.reports.length + 1 := List.length_append
  have stays (remains : lot.state = .opened ∨ 1 < lot.inTrain) : ¬ (counted.state = .closed ∧ counted.inTrain = 0) :=
    tally ▸ Lot.exited_stays remains d r'.charge
  have drains (closed : lot.state = .closed) (few : lot.inTrain ≤ 1) : counted.state = .closed ∧ counted.inTrain = 0 :=
    tally ▸ Lot.exited_drains closed few d r'.charge
  refine ⟨fun room remains => ?_, fun room closed few => ?_, fun atEnd closed few => ?_, fun full closed few => ?_,
    fun full remains => ?_⟩
  · rw [kept room, State.drainCheck_stays (State.lot_set_same hlot rfl) (stays remains)]
    rfl
  · have room' : (s.reports.joined exit.body).reports.length < 256 := by
      rw [joined]
      omega
    rw [kept (by omega), State.drainCheck_drains (State.lot_set_same hlot rfl) (drains closed few), State.drainLot_kept (by exact room')]
    dsimp only
    rw [joined, List.set_set, reportHigh_once, ReportQueue.joined_joined]
  · rw [kept (by omega), State.drainCheck_drains (State.lot_set_same hlot rfl) (drains closed few),
      State.drainLot_lost (by exact joined.trans (congrArg _ atEnd)) (State.lot_set_same hlot rfl)]
    dsimp only
    rw [List.set_set, if_neg (by omega)]
    rfl
  · rw [lost full, State.drainCheck_drains (lot := counted.unreported) (State.lot_set_same hlot rfl) (drains closed few),
      State.drainLot_lost (by exact full) (State.lot_set_same hlot rfl)]
    dsimp only
    rw [List.set_set]
    rfl
  · rw [lost full, State.drainCheck_stays (lot := counted.unreported) (State.lot_set_same hlot rfl) (stays remains)]
    rfl

end Sys2Proof.Machine
end


section
/-! LOT OPEN and LOT CLOSE (R119, R122 to R127). -/

namespace Sys2Proof.Machine

/-! ## The free slots and the ids of the lot table (R119, R123) -/

/-- The free slot that no free slot precedes is the one that LOT OPEN takes. -/
theorem State.freeSlot_eq_some {s : State} {slot : Nat} (free : s.lots[slot]? = some none) (lowest : ∀ j, j < slot → s.lots[j]? ≠ some none) :
    s.freeSlot = some slot := by
  obtain ⟨hlt, here⟩ := List.getElem?_eq_some_iff.mp free
  refine List.findIdx?_eq_some_iff_getElem.mpr ⟨hlt, by rw [here]; rfl, fun j hj => ?_⟩
  have occupied : s.lots[j] ≠ none := fun h => lowest j hj (List.getElem?_eq_some_iff.mpr ⟨_, h⟩)
  simpa using occupied

theorem State.freeSlot_eq_none {s : State} (full : ∀ l ∈ s.lots, l ≠ none) : s.freeSlot = none :=
  List.findIdx?_eq_none_iff.mpr fun o ho => by simpa [Option.isSome_iff_ne_none] using full o ho

theorem State.lotSlotOf_eq_none {s : State} {id : Word32} (unused : ∀ i l, s.lot i = some l → l.id ≠ id) : s.lotSlotOf id = none := by
  refine List.findIdx?_eq_none_iff.mpr fun o ho => ?_
  cases o with
  | none => rfl
  | some lot =>
    obtain ⟨i, hi⟩ := List.mem_iff_getElem?.mp ho
    have here : s.lot i = some lot := by rw [State.lot, List.getD_eq_getElem?_getD, hi, Option.getD_some]
    simpa using unused i lot here

/-- A lot replaced by a lot leaves the free slots as they are. -/
theorem getElem?_set_lot_eq_none_iff {lots : List (Option Lot)} {i : Nat} {l : Lot} (h : lots[i]? = some (some l)) (l' : Lot) (j : Nat) :
    (lots.set i (some l'))[j]? = some none ↔ lots[j]? = some none := by
  rw [List.getElem?_set]
  split
  · next same =>
    subst same
    simp [h]
  · rfl

/-! ## The OPEN lot closes (R125, R127) -/

theorem State.closeOpenLot_stays {s : State} {i : Nat} {l : Lot} (ho : s.openSlot = some i) (hl : s.lot i = some l) (train : 0 < l.inTrain) :
    s.closeOpenLot = s.setLots (s.lots.set i (some l.shut)) := by
  rw [State.closeOpenLot_some ho hl, if_neg (Nat.ne_of_gt train)]

theorem State.closeOpenLot_drains {s : State} {i : Nat} {l : Lot} (ho : s.openSlot = some i) (hl : s.lot i = some l) (empty : l.inTrain = 0)
    (room : s.reports.reports.length < 191) :
    s.closeOpenLot = { s with
      lots := s.lots.set i none
      reports := s.reports.joined (.lotSummary i l.shut s.clock)
      notices := s.notices.occurred .lotDrained s.clock l.id } := by
  rw [State.closeOpenLot_some ho hl, if_pos empty, State.drainLot_setLots, State.offerReport_joins room]
  rfl

/-! ## LOT OPEN (R122, R123) -/

theorem LineState.refusesLotOpen_iff (line : LineState) : line.refusesLotOpen = true ↔ line = .unconfigured ∨ line = .runOut := by
  cases line <;> simp [LineState.refusesLotOpen]

theorem LineState.takesLotOpen_iff (line : LineState) : ¬ line.refusesLotOpen = true ↔ line ≠ .unconfigured ∧ line ≠ .runOut := by
  rw [line.refusesLotOpen_iff, not_or]

theorem lotOpen_refused {s : State} {id : Word32} {profile : Byte} {a : Answer} (ready : s.line.state ≠ .init)
    (h : s.lotOpenRefusal id profile = some a) (gap : Byte) : Refuses s (.lotOpen id profile gap) 0x30 a.status a.payload :=
  refuses_of_serve ready (op := lotOpenOp id profile gap) rfl (by rw [lotOpenOp, h])

/-- A LOT OPEN that no check refuses closes the OPEN lot, then writes the new lot into the lowest slot free in the state so reached. -/
theorem lotOpen_taken {s t : State} {id : Word32} {profile : Byte} {slot : Nat} (ready : s.line.state ≠ .init)
    (h : s.lotOpenRefusal id profile = none) (closes : s.closeOpenLot = t) (free : t.freeSlot = some slot) (gap : Byte) :
    exec (.lotOpen id profile gap) s = .next { t with
      lots := t.lots.set slot (some (Lot.new id profile.toNat gap.toNat))
      link := t.link.prepared 0x30 .ok [BitVec.ofNat 8 slot] } := by
  have op : lotOpenOp id profile gap s =
      (t.setLots (t.lots.set slot (some (Lot.new id profile.toNat gap.toNat))), .ok (beBytes 1 slot)) := by
    rw [lotOpenOp, h]
    dsimp only
    rw [closes, State.putLot, free]
    rfl
  show Host.Outcome.next (s.serve 0x30 (lotOpenOp id profile gap)) = _
  rw [s.serve_ready 0x30 _ ready, op]
  rfl

/-- With the line state, the id and the profile in order, what is left of R122 is the table's own checks. -/
theorem State.lotOpenRefusal_table {s : State} {id : Word32} {profile : Byte} (line : s.line.state ≠ .unconfigured ∧ s.line.state ≠ .runOut)
    (hid : id ≠ 0) (slot : profile.toNat ≤ 7) (valid : (s.profile profile.toNat).isSome = true) :
    s.lotOpenRefusal id profile = if (s.lotSlotOf id).isSome then some (.refuse .duplicate)
      else if s.freeSlot.isNone then some (.refuse .tableFull) else none := by
  have opens := s.line.state.takesLotOpen_iff.mpr line
  have found : ¬ (s.profile profile.toNat).isNone = true := by simpa [Option.isSome_iff_ne_none] using valid
  rw [State.lotOpenRefusal, if_neg opens, if_neg hid, if_neg (Nat.not_lt.mpr slot), if_neg found]

/-! ## LOT CLOSE (R126) -/

/-- A LOT CLOSE with a lot OPEN closes it, and answers with its id and whether it drained. -/
theorem lotClose_taken {s t : State} {i drained : Nat} {l : Lot} (ready : s.line.state ≠ .init) (ho : s.openSlot = some i)
    (hl : s.lot i = some l) (closes : s.closeOpenLot = t) (hd : (if l.inTrain = 0 then 1 else 0) = drained) :
    ∃ payload, exec .lotClose s = .next { t with link := t.link.prepared 0x31 .ok payload } ∧
      payload.length = 5 ∧ HasField payload 0 4 l.id.toNat ∧ HasField payload 4 1 drained := by
  have lot : s.openLot = some l := by rw [State.openLot, ho, Option.bind_some, hl]
  have flag : [flagByte (l.inTrain == 0)] = beBytes 1 drained := by simp only [flagByte_eq, beq_iff_eq, hd]
  have op : lotCloseOp s = (t, .ok (spell [(4, l.id.toNat), (1, drained)])) := by
    rw [lotCloseOp, lot]
    dsimp only
    rw [closes, flag]
    rfl
  obtain ⟨id, left, -⟩ := holds_spell [(4, l.id.toNat), (1, drained)]
  refine ⟨_, ?_, spell_length _, id, left⟩
  show Host.Outcome.next (s.serve 0x31 lotCloseOp) = _
  rw [s.serve_ready 0x31 _ ready, op]
  rfl

/-- Settles O41: the checks of R122 one after the other, then the new lot beside no OPEN lot, a closed one or a drained one. -/
theorem lotsOpenCloseAndDrain : Obligations.LotsOpenCloseAndDrain := by
  intro s id profile gap ready c taken new unused lowest
  have opens (line : taken) := s.line.state.takesLotOpen_iff.mpr line
  refine ⟨fun line => ?_, fun line zero => ?_, fun line hid high => ?_, fun line hid low => ⟨fun missing => ?_, fun valid => ?_⟩,
    fun noLot => ?_, fun i l ho hl train => ?_, fun i l ho hl empty room => ?_⟩
  · exact lotOpen_refused ready (if_pos (s.line.state.refusesLotOpen_iff.mpr line)) gap
  · refine lotOpen_refused (a := .badValue 0) ready ?_ gap
    rw [State.lotOpenRefusal, if_neg (opens line), if_pos zero]
  · refine lotOpen_refused (a := .badValue 4) ready ?_ gap
    rw [State.lotOpenRefusal, if_neg (opens line), if_neg hid, if_pos high]
  · refine lotOpen_refused (a := .refuse .badProfile) ready ?_ gap
    rw [State.lotOpenRefusal, if_neg (opens line), if_neg hid, if_neg (Nat.not_lt.mpr low), missing, Option.isNone_none, if_pos rfl]
  · have table := State.lotOpenRefusal_table line hid low valid
    have passes {slot : Nat} (fresh : unused) (free : lowest slot) : s.lotOpenRefusal id profile = none := by
      obtain ⟨here, first⟩ := free
      rw [table, State.lotSlotOf_eq_none fresh, State.freeSlot_eq_some here first]
      rfl
    refine ⟨fun i l hl same => ?_, fun fresh full => ?_, fun slot fresh free ho => ?_, fun slot i l fresh free ho hl train => ?_,
      fun slot i l fresh ⟨j, free⟩ ho hl empty room here first => ?_⟩
    · have known : (s.lotSlotOf id).isSome = true :=
        Option.isSome_iff_ne_none.mpr fun h => State.id_ne_of_lotSlotOf h hl same
      exact lotOpen_refused ready (table.trans (if_pos known)) gap
    · refine lotOpen_refused (a := .refuse .tableFull) ready ?_ gap
      rw [table, State.lotSlotOf_eq_none fresh, State.freeSlot_eq_none full]
      rfl
    · have passed := passes fresh free
      obtain ⟨here, first⟩ := free
      exact lotOpen_taken ready passed (State.closeOpenLot_none ho) (State.freeSlot_eq_some here first) gap
    · have passed := passes fresh free
      have same := getElem?_set_lot_eq_none_iff (State.getElem?_of_lot hl) l.shut
      obtain ⟨here, first⟩ := free
      exact lotOpen_taken ready passed (State.closeOpenLot_stays ho hl train)
        (State.freeSlot_eq_some ((same slot).mpr here) fun j hj => mt (same j).mp (first j hj)) gap
    · exact lotOpen_taken ready (passes fresh free) (State.closeOpenLot_drains ho hl empty room) (State.freeSlot_eq_some here first) gap
  · exact refuses_of_serve (a := .refuse .notFound) ready (op := lotCloseOp) rfl (by rw [lotCloseOp, noLot])
  · exact lotClose_taken ready ho hl (State.closeOpenLot_stays ho hl train) (if_neg (Nat.ne_of_gt train))
  · exact lotClose_taken ready ho hl (State.closeOpenLot_drains ho hl empty room) (if_pos empty)

end Sys2Proof.Machine
end


section
/-! The disposition of a rod (R114). -/

namespace Sys2Proof.Machine

/-- Test 1 of R114. -/
theorem Marks.rejects_iff (m : Marks) : m.rejects = true ↔ m.operator = true ∨ m.unconditioned = true := by
  simp only [Marks.rejects, Bool.or_eq_true]

/-- The marks of test 4 of R114. -/
theorem Marks.reviews_iff (m : Marks) : m.reviews = true ↔ m.shortCurtain = true ∨ m.estimated = true ∨ m.outOfBand = true ∨
    m.crossProfile = true ∨ m.noCut = true ∨ m.overflow = true := by
  simp only [Marks.reviews, Bool.or_eq_true, or_assoc]

/-- Settles O45: each test is reached where the ones before it fail. -/
theorem dispositionIsTheFirstTestThatHolds : Obligations.DispositionIsTheFirstTestThatHolds := by
  intro p r test1 test2 test3 test4
  have rejects : r.marks.rejects = true ↔ test1 := r.marks.rejects_iff
  have reviews : (p.stressLimit < r.stress ∨ r.heat < p.minHeat ∨ r.marks.reviews = true) ↔ test4 := by rw [Marks.reviews_iff]
  have later (h1 : ¬ test1) : disposition p r = if test2 then .rework else if test3 then .reject
      else if p.stressLimit < r.stress ∨ r.heat < p.minHeat ∨ r.marks.reviews = true then .review else .accept :=
    if_neg (mt rejects.mp h1)
  refine ⟨fun h1 => if_pos (rejects.mpr h1), fun h1 h2 => ?_, fun h1 h2 h3 => ?_, fun h1 h2 h3 h4 => ?_, fun h1 h2 h3 h4 => ?_⟩
  · rw [later h1, if_pos h2]
  · rw [later h1, if_neg h2, if_pos h3]
  · rw [later h1, if_neg h2, if_neg h3, if_pos (reviews.mpr h4)]
  · rw [later h1, if_neg h2, if_neg h3, if_neg (mt reviews.mp h4)]

end Sys2Proof.Machine
end


section
/-! The resets, and the end of a reply (R149, R150, R192). -/

namespace Sys2Proof.Machine

/-- The straps driven to the levels they have. -/
theorem State.strap_self (s : State) : s.strap s.pins.addr s.pins.baud = s := rfl

theorem Port.reply_of_busy {p : Port} (busy : p ≠ .idle) : ∃ r, p.reply = some r := by
  cases p with
  | idle => exact absurd rfl busy
  | preparing r waited => exact ⟨r, rfl⟩
  | sending r => exact ⟨r, rfl⟩

/-- The reply to RESET ends with the soft reset (R149). -/
theorem State.replyEnd_resets {s : State} (busy : s.link.port ≠ .idle) (resets : s.link.resetAtEnd = true) :
    s.replyEnd = s.softReset := by
  obtain ⟨r, reply⟩ := Port.reply_of_busy busy
  rw [State.replyEnd, reply]
  exact if_pos resets

/-- Any other reply's end releases the port (R192). -/
theorem State.replyEnd_releases {s : State} (busy : s.link.port ≠ .idle) (stays : s.link.resetAtEnd = false)
    (free : s.link.held = none) : s.replyEnd = { s with link := { s.link with port := .idle, receiver := .hunting } } := by
  obtain ⟨r, reply⟩ := Port.reply_of_busy busy
  rw [State.replyEnd, reply]
  dsimp only
  rw [if_neg (ne_true_of_eq_false stays), free]
  dsimp only
  rw [← free]
  rfl

/-- The end of a reply takes the request held behind it (R192). -/
theorem State.replyEnd_takes {s : State} {f : Frame} (busy : s.link.port ≠ .idle) (stays : s.link.resetAtEnd = false)
    (held : s.link.held = some f) : s.replyEnd =
      State.takeFrame { s with link := { s.link with port := .idle, receiver := .hunting, held := none } } f := by
  obtain ⟨r, reply⟩ := Port.reply_of_busy busy
  rw [State.replyEnd, reply]
  dsimp only
  rw [if_neg (ne_true_of_eq_false stays), held]
  rfl

/-- Without a reply outstanding nothing ends. -/
theorem State.replyEnd_idle {s : State} (idle : s.link.port = .idle) : s.replyEnd = s := by
  rw [State.replyEnd, idle]
  rfl

/-- Settles O4: both resets write every block, and the end of a reply goes on by what the link port holds. -/
theorem resetsSetEveryBlock : Obligations.ResetsSetEveryBlock := by
  refine ⟨fun addr baud s => ⟨rfl, rfl⟩, fun s => ⟨fun ready => ?_, fun busy resets => ?_, fun busy stays free => ?_,
    fun f busy stays held => ?_, fun idle => ?_⟩⟩
  · show Host.Outcome.next (s.serve 0x05 resetOp) = _
    rw [s.serve_ready 0x05 resetOp ready]
    rfl
  · show Host.Outcome.next s.replyEnd = .next (s.strap s.pins.addr s.pins.baud).softReset
    rw [State.replyEnd_resets busy resets, s.strap_self]
  · exact congrArg Host.Outcome.next (State.replyEnd_releases busy stays free)
  · exact congrArg Host.Outcome.next (State.replyEnd_takes busy stays held)
  · exact congrArg Host.Outcome.next (State.replyEnd_idle idle)

end Sys2Proof.Machine
end


section
/-! Requests and broadcasts in INIT (R135, R193). -/

namespace Sys2Proof.Machine

theorem State.serve_init {s : State} (init : s.line.state = .init) (code : Byte) (op : State → State × Answer) :
    s.serve code op = s.answer code (.refuse .notReady) := if_pos init

/-- A well-formed request row but IDENTIFY, STATUS, TIME READ and NOTICE FETCH hands its block's operation to the serving that INIT refuses (R135). -/
theorem exec_serves {c : Instr} {code : Byte} {p : List Byte} (sized : c.wellFormed = true) (request : c.request = some (code, p))
    (identify : code ≠ 0x01) (status : code ≠ 0x02) (timeRead : code ≠ 0x04) (noticeFetch : code ≠ 0x42) (s : State) :
    ∃ op, exec c s = .next (s.serve code op) := by
  cases c with
  | identify | status | timeRead | noticeFetch =>
    cases request
    contradiction
  | profileWrite | tableWrite | layoutWrite =>
    cases request
    exact ⟨_, congrArg Host.Outcome.next (if_pos (beq_iff_eq.mpr (of_decide_eq_true sized)))⟩
  | timeSet | reset | lineStart | lineHold | lineRelease | lineRunOut | lineShutdown | zoneRead | zoneRestart | chainRead | chainClear
  | captureRead | lotOpen | lotClose | lotRead | rodRead | rodMark | trainRead | reportRead | reportRelease | noticeEnable | profileRead
  | profileErase | tableRead | layoutRead | probeRead | lineCheck | lineCheckResult =>
    cases request
    exact ⟨_, rfl⟩
  | _ => cases request

/-- Outside the line states that take it a broadcast hold leaves the receiver hunting (R143). -/
theorem broadcastLineHold_ignored {s : State} (untaken : ¬ s.line.state.holdable = true) (mask : BitVec 16) :
    exec (.broadcastLineHold mask) s = .next { s with link := s.link.hunting } :=
  congrArg Host.Outcome.next (if_neg (by exact untaken))

/-- Settles O7: what INIT refuses is refused by the serving of the request, before the block's own operation runs. -/
theorem initRefusesRequests : Obligations.InitRefusesRequests := by
  intro s init
  refine ⟨fun c code p sized request identify status timeRead noticeFetch => ?_, fun v => ?_, fun mask => ?_⟩
  · obtain ⟨op, served⟩ := exec_serves sized request identify status timeRead noticeFetch s
    rw [Refuses, served, State.serve_init init]
    rfl
  · exact congrArg Host.Outcome.next (if_pos init)
  · exact broadcastLineHold_ignored (by rw [init]; exact Bool.false_ne_true) mask

end Sys2Proof.Machine
end


section
/-! The refusals of the line requests (R138, R139, R142, R145, R146, R148). -/

namespace Sys2Proof.Machine

theorem LineState.holdable_iff (line : LineState) : line.holdable = true ↔ line = .starting ∨ line = .running ∨ line = .runOut := by
  cases line <;> simp [LineState.holdable]

theorem LineState.shuttable_iff (line : LineState) :
    line.shuttable = true ↔ line = .starting ∨ line = .running ∨ line = .hold ∨ line = .runOut := by
  cases line <;> simp [LineState.shuttable]

/-- LINE START answers with the refusal of its first failing check. -/
theorem lineStart_refused {s : State} {status : Status} (ready : s.line.state ≠ .init) (h : s.lineStartRefusal = some status) :
    Refuses s .lineStart 0x10 status [] :=
  refuses_of_serve (a := .refuse status) ready (op := lineStartOp) rfl (by rw [lineStartOp, h])

/-- COLD and SHUTDOWN pass the check of the line state (R139). -/
theorem LineState.startable {line : LineState} (h : line = .cold ∨ line = .shutdown) : ¬ (line ≠ .cold ∧ line ≠ .shutdown) :=
  not_and_or.mpr (h.imp not_not_intro not_not_intro)

theorem State.lineStartRefusal_noLot {s : State} (line : s.line.state = .cold ∨ s.line.state = .shutdown) (noLot : s.openLot = none) :
    s.lineStartRefusal = some .noLot := by
  rw [State.lineStartRefusal, if_neg (LineState.startable line), noLot]

/-- With a lot OPEN, its profile and then the table are left to check (R139). -/
theorem State.lineStartRefusal_lot {s : State} {l : Lot} (line : s.line.state = .cold ∨ s.line.state = .shutdown)
    (lot : s.openLot = some l) : s.lineStartRefusal = if (s.profile l.profile).isNone then some .badProfile
      else if s.table.all (· == 0) then some .badTable else none := by
  rw [State.lineStartRefusal, if_neg (LineState.startable line), lot]

/-- Settles O15: each block answers with the refusal of the first check that fails. -/
theorem lineRequestsAreRefused : Obligations.LineRequestsAreRefused := by
  intro s mask ready
  refine ⟨fun cold shutdown => lineStart_refused ready (if_pos ⟨cold, shutdown⟩),
    fun line => ⟨fun noLot => ?_, fun l lot missing => ?_, fun l lot valid zeros => ?_⟩,
    fun starting running runOut => ?_, fun hold => ?_, fun refused => ?_, fun starting running hold runOut => ?_⟩
  · exact lineStart_refused ready (State.lineStartRefusal_noLot line noLot)
  · exact lineStart_refused ready ((State.lineStartRefusal_lot line lot).trans (if_pos (by rw [missing]; rfl)))
  · have found : ¬ (s.profile l.profile).isNone = true := by simpa [Option.isSome_iff_ne_none] using valid
    have blank : (s.table.all (· == 0)) = true := by simpa using zeros
    exact lineStart_refused ready ((State.lineStartRefusal_lot line lot).trans ((if_neg found).trans (if_pos blank)))
  · have untaken : ¬ s.line.state.holdable = true := by simp [LineState.holdable_iff, starting, running, runOut]
    exact ⟨refuses_of_serve (a := .refuse .notNow) ready (op := lineHoldOp mask) rfl (if_neg untaken),
      broadcastLineHold_ignored untaken mask⟩
  · exact refuses_of_serve (a := .refuse .notNow) ready (op := lineReleaseOp) rfl (if_neg hold)
  · refine refuses_of_serve (a := .refuse .notNow) ready (op := lineRunOutOp) rfl ?_
    by_cases running : s.line.state = .running
    · have jammed : s.preSeq.state = .jammed ∨ s.mainSeq.state = .jammed := refused.resolve_left (not_not_intro running)
      rw [lineRunOutOp, if_neg (not_not_intro running), if_pos jammed]
    · exact if_pos running
  · have untaken : ¬ s.line.state.shuttable = true := by simp [LineState.shuttable_iff, starting, running, hold, runOut]
    exact refuses_of_serve (a := .refuse .notNow) ready (op := lineShutdownOp) rfl (if_neg untaken)

end Sys2Proof.Machine
end


section
/-! The verdict of a poll, and the polls that stop with a miss (R153, R154, R156, R158). -/

namespace Sys2Proof.Machine

/-! ## The quantities of a reply (R153) -/

theorem beNat_pair (a b : Byte) : beNat [a, b] = (a ++ b).toNat := by
  have high : beNat [a, b] = a.toNat * 256 + b.toNat := by simp [beNat]
  rw [high, BitVec.toNat_append, Nat.shiftLeft_eq, Nat.mul_comm, ← Nat.two_pow_add_eq_or_of_lt b.isLt]

theorem signed16_toNat (v : BitVec 16) : signed16 v.toNat = v.toInt := by
  have bound := v.isLt
  rw [signed16, BitVec.toInt_eq_toNat_cond]
  split <;> split <;> omega

theorem replyTemp_eq (p : ProbeReply) : replyTemp p = (p.tempHigh ++ p.tempLow).toInt := by
  rw [replyTemp, beNat_pair, signed16_toNat]

theorem replyHum_eq (p : ProbeReply) : replyHum p = (p.humHigh ++ p.humLow).toNat := beNat_pair _ _

/-! ## The tests of R154 -/

theorem replyChecks_iff (p : ProbeReply) :
    replyChecks p = true ↔ p.check = p.tempHigh ^^^ p.tempLow ^^^ p.humHigh ^^^ p.humLow ^^^ p.status := beq_iff_eq

theorem judgePoll_check {p : ProbeReply} (h : ¬ replyChecks p = true) : judgePoll (some p) = .miss .check :=
  if_pos (Bool.eq_false_of_not_eq_true h)

/-- With the check byte in order the sensor's flag is tested. -/
theorem judgePoll_sensor {p : ProbeReply} (checks : replyChecks p = true) (bad : p.status.getLsbD 0 = true) :
    judgePoll (some p) = .miss .sensor :=
  (if_neg (ne_false_of_eq_true checks)).trans (if_pos bad)

/-- With the check byte and the sensor in order the two quantities are tested. -/
theorem judgePoll_ranges {p : ProbeReply} (checks : replyChecks p = true) (good : p.status.getLsbD 0 = false) :
    judgePoll (some p) = if tempInRange (replyTemp p) = false then .miss .rangeT
      else if 1050 < replyHum p then .miss .rangeH
      else .valid (replyTemp p) (min (replyHum p) 1000) (decide (1000 < replyHum p)) :=
  (if_neg (ne_false_of_eq_true checks)).trans (if_neg (ne_true_of_eq_false good))

/-! ## The stop of a poll (R156, R158) -/

theorem exec_pollStop_unflown {s : State} (h : s.probeBus.inFlight = none) (reply : Option ProbeReply) :
    exec (.pollStop reply) s = .next s := by
  show Host.Outcome.next (s.pollStop reply) = _
  rw [State.pollStop, h]

/-- The stop of the poll in flight takes its verdict, then comes what follows every poll. -/
theorem exec_pollStop_flown {s : State} {i : Nat} (flies : s.probeBus.inFlight = some i) (reply : Option ProbeReply) :
    exec (.pollStop reply) s =
      .next ((s.setProbeBus { s.probeBus with inFlight := none }).takeVerdict i (judgePoll reply)).pollEnded := by
  show Host.Outcome.next (s.pollStop reply) = _
  rw [State.pollStop, flies]
  exact congrArg Host.Outcome.next (s.endPoll_eq i _)

/-- A miss is counted in the probe's record, and the third in a row of a zone probe raises ZONE_BLIND (R156). -/
theorem State.takeMiss_eq {s : State} {i : Nat} {p : Probe} (hp : s.probeBus.records[i]? = some p) (m : Miss) :
    s.takeMiss i m = { s with
      probeBus := { s.probeBus with records := s.probeBus.records.set i (p.miss m) }
      notices := if i ≠ 10 ∧ p.misses = 2 then s.notices.occurred .zoneBlind s.clock (BitVec.ofNat 32 i) else s.notices } := by
  have probe : s.probe i = p := by rw [State.probe, List.getD_eq_getElem?_getD, hp, Option.getD_some]
  rw [State.takeMiss, State.modProbe, modify_of_getElem? hp, probe]
  by_cases blinds : i ≠ 10 ∧ p.misses = 2
  · rw [if_pos blinds]
    exact if_pos blinds
  · rw [if_neg blinds]
    exact if_neg blinds

/-- A probe that the layout does not configure has no outcome (R158). -/
theorem State.takeVerdict_unconfigured {s : State} {i : Nat} (unconfigured : s.configured.contains i = false) (v : Verdict) :
    s.takeVerdict i v = s := if_neg (ne_true_of_eq_false unconfigured)

theorem State.takeVerdict_miss {s : State} {i : Nat} (conf : s.configured.contains i = true) (reason : MissReason) :
    s.takeVerdict i (.miss reason) = s.takeMiss i { reason := reason, time := s.clock } := if_pos conf

/-- Settles O27: the tests of R154 one after the other, then the verdict's effect on the probe's record. -/
theorem pollsAreJudgedAndMissesCounted : Obligations.PollsAreJudgedAndMissesCounted := by
  refine ⟨fun p => ⟨rfl, fun broken => judgePoll_check (mt (replyChecks_iff p).mp broken), fun sound => ?_⟩,
    fun s reply => ⟨fun unflown => exec_pollStop_unflown unflown reply, fun i flies unconfigured => ?_,
      fun i reason p flies conf hp verdict => ?_⟩⟩
  · intro temp hum
    have checks := (replyChecks_iff p).mpr sound
    refine ⟨judgePoll_sensor checks, fun good => ?_⟩
    have ranges := judgePoll_ranges checks good
    rw [replyTemp_eq, replyHum_eq] at ranges
    refine ⟨fun out => ?_, fun low high => ?_⟩
    · rw [ranges]
      exact if_pos (decide_eq_false (by omega))
    · have within : ¬ tempInRange temp = false := by simp [tempInRange, low, high]
      replace ranges := ranges.trans (if_neg within)
      refine ⟨fun beyond => ranges.trans (if_pos beyond), fun above fits => ?_, fun fits => ?_⟩
      · rw [ranges, if_neg (Nat.not_lt.mpr fits), Nat.min_eq_right above.le, decide_eq_true above]
      · rw [ranges, if_neg (by omega), Nat.min_eq_left fits, decide_eq_false (Nat.not_lt.mpr fits)]
  · rw [exec_pollStop_flown flies, State.takeVerdict_unconfigured (by exact unconfigured)]
    rfl
  · rw [exec_pollStop_flown flies, verdict, State.takeVerdict_miss (by exact conf), State.takeMiss_eq (by exact hp)]
    rfl

end Sys2Proof.Machine
end


section
/-! PROFILE READ, TABLE READ, LAYOUT READ and PROBE READ (R164, R176). -/

namespace Sys2Proof.Machine

/-! ## Images of a constant length -/

/-- An item of a fixed width for every element of a list. -/
theorem flatMap_length_eq {α : Type} {f : α → List Byte} {n : Nat} (h : ∀ a, (f a).length = n) (l : List α) :
    (l.flatMap f).length = n * l.length := by
  rw [List.length_flatMap, funext h, List.map_const', List.sum_replicate_nat, Nat.mul_comm]

theorem zoneEntryImage_length (e : ZoneEntry) : (zoneEntryImage e).length = 18 := by
  simp only [zoneEntryImage, beSigned, List.length_append, Laws.RequestForm.beBytes_length]

theorem profileImage_length {p : Profile} (name : p.name.length = 12) (zones : p.zones.length = 10) :
    (profileImage p).length = 215 := by
  simp only [profileImage, beSigned, List.length_append, Laws.RequestForm.beBytes_length, flatMap_length_eq zoneEntryImage_length,
    name, zones]

theorem layoutImage_length {l : Layout} (positions : l.positions.length = 10) (prescales : l.prescales.length = 6)
    (factors : l.massFactors.length = 6) : (layoutImage l).length = 63 := by
  unfold layoutImage
  simp only [beSigned, List.length_append, Laws.RequestForm.beBytes_length, flatMap_length_eq (Laws.RequestForm.beBytes_length _),
    positions, prescales, factors]

/-! ## Replies with a head of fields and a body of bytes -/

theorem byte_eq (b : Byte) : [b] = beBytes 1 b.toNat := by simp [beBytes]

/-- The fields of the head stand at their places, and the body behind them. -/
theorem headed_parts (head : List (Nat × Nat)) (body : List Byte) :
    (spell head ++ body).length = width head + body.length ∧ Holds (spell head ++ body) 0 head ∧
      (spell head ++ body).drop (width head) = body :=
  ⟨by rw [List.length_append, spell_length], holds_append [] body head, List.drop_left' (spell_length head)⟩

theorem State.jobOn_iff (s : State) (block : Nat) : s.jobOn block = true ↔ s.store.job.map Job.block = some block := by
  unfold State.jobOn
  cases s.store.job <;> simp

/-- The store status and the job flag of a block. -/
def State.blockFields (s : State) (block : Nat) : List (Nat × Nat) :=
  [(1, (s.storeStatus block).code), (1, if s.store.job.map Job.block = some block then 1 else 0)]

theorem State.blockFields_spell (s : State) (block : Nat) :
    spell (s.blockFields block) = beBytes 1 (s.storeStatus block).code ++ [flagByte (s.jobOn block)] := by
  rw [flagByte_eq, if_congr (s.jobOn_iff block) rfl rfl]
  rfl

theorem State.storeStatus_eq {s : State} {block : Nat} {st : StoreStatus} (h : s.store.status[block]? = some st) :
    s.storeStatus block = st := by
  rw [State.storeStatus, List.getD_eq_getElem?_getD, h, Option.getD_some]

/-! ## PROFILE READ (R176) -/

/-- The image of a slot's working copy, all 0 unless VALID. -/
def State.slotBytes (s : State) (slot : Nat) : List Byte := (s.profile slot).elim (List.replicate 215 0) profileImage

/-- The fields before the image of a slot. -/
def State.slotHead (s : State) (slot : Nat) : List (Nat × Nat) :=
  [(1, slot), (1, (s.store.slots.getD slot .empty).code)] ++ s.blockFields (1 + slot)

theorem State.slot_of_getElem? {s : State} {slot : Nat} {x : ProfileSlot} (h : s.store.slots[slot]? = some x) :
    s.store.slots.getD slot .empty = x := by
  rw [List.getD_eq_getElem?_getD, h, Option.getD_some]

theorem State.slotBytes_valid {s : State} {slot : Nat} {p : Profile} (h : s.store.slots[slot]? = some (.valid p)) :
    s.slotBytes slot = profileImage p := by
  rw [State.slotBytes, State.profile, State.slot_of_getElem? h]
  rfl

theorem State.slotBytes_invalid {s : State} {slot : Nat}
    (h : s.store.slots[slot]? = some .empty ∨ s.store.slots[slot]? = some .corrupt) :
    s.slotBytes slot = List.replicate 215 0 := by
  rcases h with h | h <;> rw [State.slotBytes, State.profile, State.slot_of_getElem? h] <;> rfl

theorem profileReadOp_eq (s : State) {slot : Byte} (h : slot.toNat ≤ 7) :
    profileReadOp slot s = (s, .ok (spell (s.slotHead slot.toNat) ++ s.slotBytes slot.toNat)) := by
  rw [profileReadOp, if_neg (Nat.not_lt.mpr h), byte_eq, State.slotHead, spell_append, State.blockFields_spell, State.slotBytes]
  cases s.profile slot.toNat <;> simp [spell]

/-- PROFILE READ of a slot whose image has its 215 bytes. -/
theorem profileRead_reads {s : State} (ready : s.line.state ≠ .init) {slot : Byte} (h : slot.toNat ≤ 7) {st : StoreStatus}
    (status : s.store.status[1 + slot.toNat]? = some st) {x : ProfileSlot} (found : s.store.slots[slot.toNat]? = some x)
    {body : List Byte} (bytes : s.slotBytes slot.toNat = body) (length : body.length = 215) :
    Reads s (.profileRead slot) 0x50 219 fun q => HasField q 0 1 slot.toNat ∧ HasField q 1 1 x.code ∧ HasField q 2 1 st.code ∧
      HasField q 3 1 (if s.store.job.map Job.block = some (1 + slot.toNat) then 1 else 0) ∧ q.drop 4 = body := by
  obtain ⟨len, ⟨index, code, current, job, -⟩, rest⟩ := headed_parts (s.slotHead slot.toNat) body
  rw [State.slot_of_getElem? found] at code
  rw [State.storeStatus_eq status] at current
  refine reads_of_serve ready (op := profileReadOp slot) rfl (profileReadOp_eq s h) ?_ ?_ <;> rw [bytes]
  · rw [len, length]
    rfl
  · exact ⟨index, code, current, job, rest⟩

/-! ## TABLE READ (R169, R176) -/

/-- The fields of a TABLE READ reply. -/
def State.tableFields (s : State) (row : Nat) : List (Nat × Nat) :=
  [(1, row), (1, if s.tableLoaded then 1 else 0)] ++ s.blockFields 9 ++ (tableRow s.table row).map (Prod.mk 2)

theorem width_pairs (ns : List Nat) : width (ns.map (Prod.mk 2)) = 2 * ns.length := by
  induction ns with
  | nil => rfl
  | cons n ns ih => rw [List.map_cons, width, List.map_cons, List.sum_cons, ← width, ih, List.length_cons, Nat.mul_add, Nat.add_comm]

/-- A 16-bit field of a row of them. -/
theorem Holds.pair {p : List Byte} {at_ : Nat} {ns : List Nat} (h : Holds p at_ (ns.map (Prod.mk 2))) {i n : Nat}
    (hi : ns[i]? = some n) : HasField p (at_ + 2 * i) 2 n := by
  induction ns generalizing at_ i with
  | nil => cases hi
  | cons m ns ih =>
    obtain ⟨first, rest⟩ := h
    cases i with
    | zero =>
      cases hi
      exact first
    | succ i =>
      have next := ih rest hi
      rwa [Nat.add_assoc, Nat.add_comm 2] at next

theorem tableReadOp_eq (s : State) {row : Byte} (h : row.toNat ≤ 7) :
    tableReadOp row s = (s, .ok (spell (s.tableFields row.toNat))) := by
  rw [tableReadOp, if_neg (Nat.not_lt.mpr h), byte_eq, State.tableFields, spell_append, spell_append, State.blockFields_spell,
    flagByte_eq s.tableLoaded]
  simp [spell, tableImage, List.flatMap_map]

/-- A row of the table has 21 entries. -/
theorem tableRow_length {t : List Nat} {row : Nat} (full : t.length = 168) (h : row ≤ 7) : (tableRow t row).length = 21 := by
  rw [tableRow, List.length_take, List.length_drop, full, tableColumns]
  omega

theorem tableRow_getElem? {t : List Nat} {row c : Nat} (h : c < 21) : (tableRow t row)[c]? = t[21 * row + c]? := by
  rw [tableRow, tableColumns, List.getElem?_take_of_lt h, List.getElem?_drop]

theorem tableRead_reads {s : State} (ready : s.line.state ≠ .init) (full : s.table.length = 168) {row : Byte} (h : row.toNat ≤ 7)
    {st : StoreStatus} (status : s.store.status[9]? = some st) :
    Reads s (.tableRead row) 0x53 46 fun q => HasField q 0 1 row.toNat ∧ HasField q 1 1 (if s.tableLoaded then 1 else 0) ∧
      HasField q 2 1 st.code ∧ HasField q 3 1 (if s.store.job.map Job.block = some 9 then 1 else 0) ∧
      ∀ c e, c < 21 → s.table[21 * row.toNat + c]? = some e → HasField q (4 + 2 * c) 2 e := by
  refine reads_of_serve ready (op := tableReadOp row) rfl (tableReadOp_eq s h) ?_ ?_
  · rw [spell_length, State.tableFields, width_append, width_pairs, tableRow_length full h]
    rfl
  · obtain ⟨⟨index, loaded, current, job, -⟩, entries⟩ := (holds_spell (s.tableFields row.toNat)).append
    rw [State.storeStatus_eq status] at current
    exact ⟨index, loaded, current, job, fun c e hc he => entries.pair ((tableRow_getElem? hc).trans he)⟩

/-! ## LAYOUT READ (R176) -/

/-- The fields before the layout's image. -/
def State.layoutHead (s : State) : List (Nat × Nat) := (1, if s.store.layout.isSome then 1 else 0) :: s.blockFields 0

theorem layoutReadOp_eq (s : State) : layoutReadOp s =
    (s, .ok (spell s.layoutHead ++ s.store.layout.elim (List.replicate 63 0) layoutImage)) := by
  rw [layoutReadOp, State.layoutHead, spell_cons, State.blockFields_spell, flagByte_eq s.store.layout.isSome]
  cases s.store.layout <;> simp

/-- LAYOUT READ with an image of 63 bytes. -/
theorem layoutRead_reads {s : State} (ready : s.line.state ≠ .init) {st : StoreStatus} (status : s.store.status[0]? = some st)
    {layout : Option Layout} (found : s.store.layout = layout) {body : List Byte}
    (bytes : layout.elim (List.replicate 63 0) layoutImage = body) (length : body.length = 63) :
    Reads s .layoutRead 0x55 66 fun q => HasField q 0 1 (if layout.isSome then 1 else 0) ∧ HasField q 1 1 st.code ∧
      HasField q 2 1 (if s.store.job.map Job.block = some 0 then 1 else 0) ∧ q.drop 3 = body := by
  obtain ⟨len, ⟨held, current, job, -⟩, rest⟩ := headed_parts s.layoutHead body
  rw [found] at held
  rw [State.storeStatus_eq status] at current
  refine reads_of_serve ready (op := layoutReadOp) rfl (layoutReadOp_eq s) ?_ ?_ <;> rw [found, bytes]
  · rw [len, length]
    rfl
  · exact ⟨held, current, job, rest⟩

/-! ## PROBE READ (R151, R164) -/

theorem probeIndex_eq_none {a : Byte} (h : a.toNat < 0x20 ∨ (0x29 < a.toNat ∧ a ≠ 0x2F)) : probeIndex a = none := by
  have zone : ¬ (0x20 ≤ a.toNat ∧ a.toNat ≤ 0x29) := by omega
  have hall : ¬ a.toNat = 0x2F := fun hall => by
    have is : a = 0x2F := BitVec.eq_of_toNat_eq hall
    rcases h with low | ⟨-, other⟩
    · omega
    · exact other is
  rw [probeIndex, if_neg zone, if_neg hall]

theorem probeIndex_eq_some {a : Byte} {i : Nat} (h : (i < 10 ∧ a.toNat = 0x20 + i) ∨ (i = 10 ∧ a = 0x2F)) :
    probeIndex a = some i := by
  rcases h with ⟨below, at_⟩ | ⟨rfl, rfl⟩
  · rw [probeIndex, if_pos (by omega), at_, Nat.add_sub_cancel_left]
  · rfl

/-- The values of a probe's last valid reading. -/
def readingValues : Option Reading → List (Nat × Nat)
  | none => [(2, 0), (2, 0), (4, 0)]
  | some r => [(2, (r.temp % 65536).toNat), (2, r.hum), (4, r.time.toNat)]

theorem readingImage_spell (r : Option Reading) : readingImage r = spell (readingValues r) := by cases r <;> rfl

theorem readingValues_width (r : Option Reading) : width (readingValues r) = 8 := by cases r <;> rfl

/-- The reason and the time of a probe's last miss. -/
def missFields : Option Miss → List (Nat × Nat)
  | none => [(1, 0), (4, 0)]
  | some m => [(1, m.reason.code), (4, m.time.toNat)]

theorem missImage_spell (m : Option Miss) : missImage m = spell (missFields m) := by cases m <;> rfl

theorem missFields_width (m : Option Miss) : width (missFields m) = 5 := by cases m <;> rfl

theorem Probe.clamped_eq (p : Probe) : p.clamped = (p.reading.map Reading.clamped).getD false := by
  unfold Probe.clamped
  cases p.reading <;> rfl

/-- The flags of a PROBE READ reply. -/
def State.probeFlags (s : State) (i : Nat) : Nat :=
  (if s.configured.contains i then 1 else 0) + 2 * (if s.configured.contains i ∧ s.probeFresh i = true then 1 else 0)
    + 4 * (if (s.probe i).reading.isSome then 1 else 0)
    + 8 * (if ((s.probe i).reading.map Reading.clamped).getD false then 1 else 0)
    + 16 * (if s.probeBus.fault.isSome then 1 else 0) + 32 * (if s.probeBus.check.isSome then 1 else 0)

theorem State.probeFlags_eq (s : State) (i : Nat) :
    flagBits [s.configured.contains i, s.configured.contains i && s.probeFresh i, (s.probe i).reading.isSome, (s.probe i).clamped,
      s.probeBus.fault.isSome, s.probeBus.check.isSome] = s.probeFlags i := by
  simp only [flagBits, State.probeFlags, Probe.clamped_eq, Bool.and_eq_true]
  ring

/-- The fields of a PROBE READ reply. -/
def State.probeReadFields (s : State) (address : Byte) (i : Nat) : List (Nat × Nat) :=
  [(1, address.toNat), (1, s.probeFlags i)] ++ readingValues (s.probe i).reading ++ [(1, (s.probe i).misses)]
    ++ missFields (s.probe i).lastMiss ++ [(4, (s.probeBus.fault.getD 0).toNat)]

theorem State.probeImage_eq (s : State) (address : Byte) (i : Nat) :
    s.probeImage address i = spell (s.probeReadFields address i) := by
  simp only [State.probeImage, State.probeReadFields, State.probeFlags_eq, byte_eq, be32, spell_append, ← readingImage_spell,
    ← missImage_spell]
  simp only [spell, List.flatMap_cons, List.flatMap_nil, List.append_nil, List.append_assoc]

theorem State.probeImage_length (s : State) (address : Byte) (i : Nat) : (s.probeImage address i).length = 20 := by
  rw [State.probeImage_eq, spell_length]
  simp only [State.probeReadFields, width_append, readingValues_width, missFields_width]
  rfl

theorem State.probeImage_holds (s : State) (address : Byte) (i : Nat) :
    Holds (s.probeImage address i) 0 [(1, address.toNat), (1, s.probeFlags i)] ∧
    Holds (s.probeImage address i) 2 (readingValues (s.probe i).reading) ∧
    HasField (s.probeImage address i) 10 1 (s.probe i).misses ∧
    Holds (s.probeImage address i) 11 (missFields (s.probe i).lastMiss) ∧
    HasField (s.probeImage address i) 16 4 (s.probeBus.fault.getD 0).toNat := by
  have all := holds_spell (s.probeReadFields address i)
  rw [← State.probeImage_eq] at all
  obtain ⟨all, fault⟩ := all.append
  obtain ⟨all, lastMiss⟩ := all.append
  obtain ⟨all, misses⟩ := all.append
  obtain ⟨head, reading⟩ := all.append
  simp only [width_append, readingValues_width, missFields_width] at fault lastMiss misses
  exact ⟨head, reading, misses.1, lastMiss, fault.1⟩

theorem Holds.values {p : List Byte} {rd : Option Reading} (h : Holds p 2 (readingValues rd)) :
    (rd = none → HasField p 2 2 0 ∧ HasField p 4 2 0 ∧ HasField p 6 4 0) ∧
    (∀ r, rd = some r → HasSigned p 2 r.temp ∧ HasField p 4 2 r.hum ∧ HasField p 6 4 r.time.toNat) := by
  refine ⟨fun hr => ?_, fun r hr => ?_⟩ <;> rw [hr] at h <;> obtain ⟨temp, hum, time, -⟩ := h
  · exact ⟨temp, hum, time⟩
  · exact ⟨temp.signed, hum, time⟩

theorem Holds.lastMiss {p : List Byte} {miss : Option Miss} (h : Holds p 11 (missFields miss)) :
    (miss = none → HasField p 11 1 0 ∧ HasField p 12 4 0) ∧
    (∀ m, miss = some m → HasField p 11 1 m.reason.code ∧ HasField p 12 4 m.time.toNat) := by
  refine ⟨fun hm => ?_, fun m hm => ?_⟩ <;> rw [hm] at h <;> obtain ⟨reason, time, -⟩ := h <;> exact ⟨reason, time⟩

/-- Settles O53: each reply is its head of fields and the image of the working copy behind it, or a row of fields. -/
theorem storeAndProbeReads : Obligations.StoreAndProbeReads := by
  intro s ready full jobOn
  refine ⟨fun x beyond => ⟨?_, ?_⟩, fun slot h st status => ⟨fun p found name zones => ?_, fun invalid => ?_⟩,
    fun row h st status => tableRead_reads ready full h status,
    fun st status => ⟨fun none => ?_, fun l found positions prescales factors => ?_⟩, fun a other => ?_, fun a i at_ => ?_⟩
  · exact refuses_of_serve (a := .badValue 0) ready (op := profileReadOp x) rfl (if_pos beyond)
  · exact refuses_of_serve (a := .badValue 0) ready (op := tableReadOp x) rfl (if_pos beyond)
  · exact profileRead_reads ready h status found (State.slotBytes_valid found) (profileImage_length name zones)
  · have bytes := State.slotBytes_invalid invalid
    rcases invalid with found | found <;> rw [found] <;> exact profileRead_reads ready h status found bytes List.length_replicate
  · exact layoutRead_reads ready status none rfl List.length_replicate
  · exact layoutRead_reads ready status found rfl (layoutImage_length positions prescales factors)
  · refine refuses_of_serve (a := .badValue 0) ready (op := probeReadOp a) rfl ?_
    rw [probeReadOp, probeIndex_eq_none other]
  · have answer : probeReadOp a s = (s, .ok (s.probeImage a i)) := by rw [probeReadOp, probeIndex_eq_some at_]
    refine reads_of_serve ready (op := probeReadOp a) rfl answer (s.probeImage_length a i) ?_
    obtain ⟨⟨address, flags, -⟩, reading, misses, miss, fault⟩ := s.probeImage_holds a i
    obtain ⟨unread, read⟩ := reading.values
    obtain ⟨unmissed, missed⟩ := miss.lastMiss
    exact ⟨address, flags, unread, read, misses, unmissed, missed, fault⟩

end Sys2Proof.Machine
end


section
/-! Polls, bus faults and recovery attempts (R152 to R161). -/

namespace Sys2Proof.Machine

/-! ## What a poll and a recovery attempt send (R153, R160) -/

theorem State.trunkTransfer_flown {s : State} {i : Nat} (flies : s.probeBus.inFlight = some i) (taken : Bool) :
    s.trunkTransfer taken = pollTransfer i taken := by
  rw [State.trunkTransfer, flies]

theorem State.recovers_iff (s : State) : s.recovers = true ↔ s.probeBus.fault.isSome = true ∧ s.probeBus.recovery.isSome = true := by
  rw [State.recovers, Bool.and_eq_true]

/-- No recovery attempt is due where no fault stands or the recovery timer is stopped. -/
theorem State.recovers_not {s : State} (h : s.probeBus.fault = none ∨ s.probeBus.recovery = none) : ¬ s.recovers = true := by
  rw [State.recovers_iff]
  rintro ⟨fault, recovery⟩
  rcases h with h | h
  · simp [h] at fault
  · simp [h] at recovery

theorem State.recoverySends_made {s : State} (due : s.recovers = true) (unchecked : s.probeBus.check = none) :
    s.recoverySends true = recoveryTransfer := by
  rw [State.recoverySends, due, unchecked]
  rfl

/-- The master sends nothing with the line low, with no attempt due, or during a line check. -/
theorem State.recoverySends_none {s : State} {level : Bool} (h : level = false ∨ s.probeBus.fault = none ∨ s.probeBus.recovery = none ∨
    s.probeBus.check.isSome = true) : s.recoverySends level = [] := by
  refine if_neg fun sends => ?_
  obtain ⟨⟨due, unchecked⟩, high⟩ : (s.recovers = true ∧ s.probeBus.check.isNone = true) ∧ level = true := by simpa using sends
  rcases h with low | fault | recovery | checks
  · exact Bool.false_ne_true (low.symm.trans high)
  · exact State.recovers_not (.inl fault) due
  · exact State.recovers_not (.inr recovery) due
  · simp [Option.isNone_iff_eq_none.mp unchecked] at checks

/-! ## A slot that falls due (R152, R153, R157) -/

/-- The configured probe of a slot: the zones' probes, then the hall probe (R151, R152). -/
theorem State.configured_getD (s : State) (k : Nat) :
    s.configured.getD k hallIndex = if k < (s.store.layout.map Layout.zoneCount).getD 0 then k else 10 := by
  unfold State.configured
  cases s.store.layout with
  | none => cases k <;> rfl
  | some l =>
    show (List.range l.zoneCount ++ [10]).getD k 10 = if k < l.zoneCount then k else 10
    split
    · next below => simp [List.getD_eq_getElem?_getD, List.getElem?_append_left, below]
    · next beyond =>
      rw [List.getD_eq_getElem?_getD, List.getElem?_append_right (by simpa using beyond)]
      cases k - (List.range l.zoneCount).length <;> rfl

/-- A poll made with PROBE DATA held low ends as one that no probe answers (R153). -/
theorem State.beginPoll_low (s : State) (i : Nat) :
    s.beginPoll i false = (s.setProbeBus { s.probeBus with inFlight := some i }).pollStop none := by
  show s.endPoll i (.miss .noAck) = (s.setProbeBus { s.probeBus with inFlight := some i }).endPoll i (.miss .noAck)
  rw [State.endPoll_eq, State.endPoll_eq]
  rfl

theorem State.pollDue_stopped {s : State} (stopped : s.probeBus.pollTimer = none) (level : Bool) : s.pollDue level = s := by
  rw [State.pollDue, stopped]

/-- In the start-up scan the poll of the probe in turn is made. -/
theorem State.pollDue_init {s : State} (due : s.probeBus.pollTimer.isSome = true) (init : s.line.state = .init) (level : Bool) :
    s.pollDue level = ((s.setPins { s.pins with probeData := level }).setProbeBus { s.probeBus with pollTimer := none }).beginPoll
      (s.configured.getD s.probeBus.nextSlot hallIndex) level := by
  obtain ⟨t, timer⟩ := Option.isSome_iff_exists.mp due
  rw [State.pollDue, timer]
  exact if_pos init

theorem State.pollDue_unlaid {s : State} (due : s.probeBus.pollTimer.isSome = true) (ready : s.line.state ≠ .init)
    (unlaid : s.store.layout = none) (level : Bool) : s.pollDue level = { s with
      probeBus := { s.probeBus with pollTimer := none }, pins := { s.pins with probeData := level } } := by
  obtain ⟨t, timer⟩ := Option.isSome_iff_exists.mp due
  rw [State.pollDue, timer]
  dsimp only
  rw [if_neg ready, unlaid]
  rfl

theorem State.pollDue_laid {s : State} {l : Layout} (due : s.probeBus.pollTimer.isSome = true) (ready : s.line.state ≠ .init)
    (laid : s.store.layout = some l) (level : Bool) : s.pollDue level =
      let next := (s.setPins { s.pins with probeData := level }).nextPoll l
      if s.pollsMade then next.beginPoll (s.configured.getD s.probeBus.nextSlot hallIndex) level else next := by
  obtain ⟨t, timer⟩ := Option.isSome_iff_exists.mp due
  rw [State.pollDue, timer]
  dsimp only
  rw [if_neg ready, laid]

/-- The schedule advances by one slot length, and after the last slot to the next round (R152). -/
theorem State.nextPoll_eq (s : State) (l : Layout) : s.nextPoll l =
    let slot := l.pollPeriod * 100 / (l.zoneCount + 1)
    s.setProbeBus { s.probeBus with
      roundStart := if s.probeBus.nextSlot = 0 then s.clock else s.probeBus.roundStart
      nextSlot := if s.probeBus.nextSlot < l.zoneCount then s.probeBus.nextSlot + 1 else 0
      pollTimer := some (if s.probeBus.nextSlot < l.zoneCount then slot else l.pollPeriod * 100 - l.zoneCount * slot) } := by
  unfold State.nextPoll
  dsimp only
  split <;> rfl

theorem State.pollsMade_iff (s : State) :
    s.pollsMade = true ↔ s.probeBus.check = none ∧ s.probeBus.fault = none ∧ s.probeBus.inFlight = none := by
  simp [State.pollsMade, and_assoc]

/-! ## The bus fault (R157, R159) -/

/-- A line check runs: one that is accepted does not run yet while a poll is in flight (R161, assumption log 10). -/
def ProbeBus.CheckRuns (b : ProbeBus) : Prop :=
  b.check = some .quiet ∨ b.check = some .pulse ∨ (b.check = some .accepted ∧ b.inFlight = none)

theorem ProbeBus.checkRuns_not_iff (b : ProbeBus) :
    (b.check.isNone || (b.check == some .accepted && b.inFlight.isSome)) = true ↔ ¬ b.CheckRuns := by
  unfold ProbeBus.CheckRuns
  rcases b.check with _ | _ | _ | _ <;> cases b.inFlight <;> simp

theorem State.watches_iff (s : State) : s.watches = true ↔
    s.probeBus.fault = none ∧ ¬ s.probeBus.CheckRuns ∧ (s.line.state = .init → s.line.phase = some .probeScan) := by
  have phase : (s.line.state != .init || s.scanning) = true ↔ (s.line.state = .init → s.line.phase = some .probeScan) := by
    by_cases init : s.line.state = .init <;> simp [State.scanning, init]
  rw [State.watches, Bool.and_eq_true, Bool.and_eq_true, ProbeBus.checkRuns_not_iff, phase, Option.isNone_iff_eq_none, and_assoc,
    and_comm (a := ¬ _)]

/-- The state once a clock line held low is taken as a fault: the transaction ended without an outcome, the flag and its time set,
PROBE_BUS_FAULT raised (R159). -/
def State.faulted (s : State) : State :=
  { s with
    probeBus := { s.probeBus with
      inFlight := none, fault := some s.clock, faultAge := 0
      recovery := s.store.layout.map fun l => l.pollPeriod * 100 }
    pins := { s.pins with probeClk := false }
    notices := s.notices.occurred .probeBusFault s.clock 0 }

theorem State.busFault_unwatched {s : State} (h : ¬ s.watches = true) : s.busFault = s := if_neg h

theorem State.busFault_watched {s : State} (h : s.watches = true) : s.busFault =
    if s.scanning then s.faulted.finishInit else if s.probeBus.roundOnStop then s.faulted.startRound else s.faulted := if_pos h

/-! ## Recovery attempts (R160, R161) -/

theorem State.recoveryAttempt_undue {s : State} (h : ¬ s.recovers = true) (level : Bool) : s.recoveryAttempt level = s := if_neg h

/-- The recovery timer of a fault whose attempt is not made or fails. -/
theorem State.recoveryTicks_eq {s : State} {l : Layout} (laid : s.store.layout = some l) :
    s.recoveryTicks = some (l.pollPeriod * 100 - s.probeBus.faultAge % (l.pollPeriod * 100)) := by
  rw [State.recoveryTicks, State.pollPeriodTicks, laid]
  rfl

theorem State.recoveryAttempt_checking {s : State} (due : s.recovers = true) (checks : s.probeBus.check.isSome = true) (level : Bool) :
    s.recoveryAttempt level = s.setProbeBus { s.probeBus with recovery := s.recoveryTicks } :=
  (if_pos due).trans (if_pos checks)

/-- An attempt that is made clears the fault with the line high, and waits for the next with the line low. -/
theorem State.recoveryAttempt_made {s : State} (due : s.recovers = true) (unchecked : s.probeBus.check = none) (level : Bool) :
    s.recoveryAttempt level =
      let found := s.setPins { s.pins with probeClk := level }
      if level then (found.setProbeBus { s.probeBus with fault := none, faultAge := 0, recovery := none }).startRound
      else found.setProbeBus { s.probeBus with recovery := s.recoveryTicks } :=
  (if_pos due).trans (if_neg (by simp [unchecked]))

/-- Settles O54: what is sent, then the slot that falls due, the fault and the attempt by their guards. -/
theorem pollsFaultsAndRecovery : Obligations.PollsFaultsAndRecovery := by
  intro s k zones pins made checkRuns faulted
  have turn : s.configured.getD k hallIndex = if k < zones then k else 10 := s.configured_getD k
  refine ⟨fun i taken flies => State.trunkTransfer_flown flies taken,
    fun fault recovery unchecked => State.recoverySends_made (s.recovers_iff.mpr ⟨fault, recovery⟩) unchecked,
    fun level => State.recoverySends_none, fun stopped level => congrArg _ (State.pollDue_stopped stopped level),
    fun due init => ?_, fun due ready unlaid level => congrArg _ (State.pollDue_unlaid due ready unlaid level),
    fun l due ready laid => ⟨fun barred level => ?_, fun unchecked sound unflown => ?_⟩, fun unwatched => ?_,
    fun sound unchecked ready => ?_, fun sound unchecked init scan => ?_,
    fun undue level => congrArg _ (State.recoveryAttempt_undue (State.recovers_not undue) level),
    fun l laid fault recovery => ⟨fun unchecked => ?_, fun checks level => ?_⟩⟩
  · have polled (level : Bool) := State.pollDue_init due init level
    rw [turn] at polled
    exact ⟨congrArg _ (polled true), congrArg _ ((polled false).trans (State.beginPoll_low _ _))⟩
  · have unmade : ¬ s.pollsMade = true := by
      rw [State.pollsMade_iff]
      rintro ⟨unchecked, sound, unflown⟩
      simp [unchecked, sound, unflown] at barred
    exact congrArg _ ((State.pollDue_laid due ready laid level).trans ((if_neg unmade).trans (State.nextPoll_eq _ l)))
  · have polled (level : Bool) := (State.pollDue_laid due ready laid level).trans
      (if_pos (s.pollsMade_iff.mpr ⟨unchecked, sound, unflown⟩))
    rw [turn] at polled
    simp only [State.nextPoll_eq] at polled
    exact ⟨congrArg _ (polled true), congrArg _ ((polled false).trans (State.beginPoll_low _ _))⟩
  · refine congrArg _ (State.busFault_unwatched fun watches => ?_)
    obtain ⟨sound, unchecked, scan⟩ := s.watches_iff.mp watches
    rcases unwatched with fault | runs | ⟨init, other⟩
    · simp [sound] at fault
    · exact unchecked runs
    · exact other (scan init)
  · have still : ¬ s.scanning = true := by simp [State.scanning, ready]
    have taken := (State.busFault_watched (s.watches_iff.mpr ⟨sound, unchecked, fun init => absurd init ready⟩)).trans (if_neg still)
    refine ⟨fun now => ?_, fun waits => ?_⟩
    · exact congrArg _ (taken.trans (if_neg (by simp [now])))
    · exact congrArg _ (taken.trans ((if_pos waits).trans s.faulted.startRound_eq))
  · have scanning : s.scanning = true := by simp [State.scanning, init, scan]
    have taken := (State.busFault_watched (s.watches_iff.mpr ⟨sound, unchecked, fun _ => scan⟩)).trans (if_pos scanning)
    exact congrArg _ (taken.trans (s.faulted.finishInit_eq init))
  · have made (level : Bool) := State.recoveryAttempt_made (s.recovers_iff.mpr ⟨fault, recovery⟩) unchecked level
    rw [State.recoveryTicks_eq laid] at made
    refine ⟨congrArg _ ((made true).trans ?_), congrArg _ (made false)⟩
    exact (State.startRound_eq _).trans (by simp [ProbeBus.newRound, laid])
  · have later := State.recoveryAttempt_checking (s.recovers_iff.mpr ⟨fault, recovery⟩) checks level
    rw [State.recoveryTicks_eq laid] at later
    exact congrArg _ later

end Sys2Proof.Machine
end


section
/-! The line check (R161 to R163). -/

namespace Sys2Proof.Machine

/-! ## What the check sends (R162) -/

theorem State.trunkTransfer_quiet {s : State} (unflown : s.probeBus.inFlight = none) (quiet : s.probeBus.check = some .quiet)
    (taken : Bool) : s.trunkTransfer taken = quietTransfer := by
  rw [State.trunkTransfer, unflown, quiet]

theorem State.trunkTransfer_pulse {s : State} (unflown : s.probeBus.inFlight = none) (pulse : s.probeBus.check = some .pulse)
    (taken : Bool) : s.trunkTransfer taken = [.testPulse] := by
  rw [State.trunkTransfer, unflown, pulse]

theorem State.trunkTransfer_silent {s : State} (unflown : s.probeBus.inFlight = none)
    (silent : s.probeBus.check = none ∨ s.probeBus.check = some .accepted) (taken : Bool) : s.trunkTransfer taken = [] := by
  rcases silent with h | h <;> rw [State.trunkTransfer, unflown, h]

/-! ## The stages (R161, R162) -/

/-- The end of a check (R162). -/
theorem State.endCheck_eq (s : State) (code : CheckCode) (n : Nat) : s.endCheck code n = { s with
    probeBus := { s.probeBus with check := none, result := { code := code, distance := n, time := s.clock } }
    notices := s.notices.occurred .lineCheckDone s.clock (BitVec.ofNat 32 code.code) } := rfl

/-- The accepted check begins where no poll is in flight. -/
theorem State.checkBegin_accepted {s : State} (accepted : s.probeBus.check = some .accepted) (unflown : s.probeBus.inFlight = none)
    (level : Bool) : s.checkBegin level =
      if level then { s with probeBus := { s.probeBus with check := some .quiet }, pins := { s.pins with probeClk := true } }
      else (s.setPins { s.pins with probeClk := false }).endCheck .invalid 0 := by
  rw [State.checkBegin, if_pos ⟨accepted, unflown⟩]
  cases level <;> rfl

theorem State.checkBegin_idle {s : State} (idle : s.probeBus.check ≠ some .accepted ∨ s.probeBus.inFlight.isSome = true)
    (level : Bool) : s.checkBegin level = s :=
  if_neg fun ⟨accepted, unflown⟩ => idle.elim (· accepted) fun flies => by simp [unflown] at flies

/-- A well-formed reflection ends the check that has sent its pulse. -/
theorem exec_lineCheckEnd_pulse {s : State} {r : Reflection} (formed : r.wellFormed = true) (pulse : s.probeBus.check = some .pulse) :
    exec (.lineCheckEnd r) s = .next (s.endCheck (reflectionResult r).1 (reflectionResult r).2) :=
  (if_pos formed).trans (congrArg Host.Outcome.next (if_pos pulse))

/-! ## LINE CHECK RESULT (R163) -/

theorem CheckResult.image_eq (r : CheckResult) :
    r.image = spell [(1, r.code.code), (2, r.distance), (4, r.time.toNat)] := by
  rw [CheckResult.image, be32, List.append_assoc]
  rfl

/-- LINE CHECK RESULT answers the last result. -/
theorem exec_lineCheckResult {s : State} (ready : s.line.state ≠ .init) : exec .lineCheckResult s = .next { s with
    link := s.link.prepared 0x62 (if s.probeBus.check.isSome then .inProgress else .ok) s.probeBus.result.image } :=
  refuses_of_serve (a := (lineCheckResultOp s).2) ready (op := lineCheckResultOp) rfl rfl

/-- LINE CHECK is accepted where no check runs. -/
theorem exec_lineCheck {s : State} (ready : s.line.state ≠ .init) (idle : s.probeBus.check = none) : exec .lineCheck s = .next { s with
    probeBus := { s.probeBus with check := some .accepted }, link := s.link.prepared 0x61 .ok [] } := by
  have op : lineCheckOp s = (s.setProbeBus { s.probeBus with check := some .accepted }, .ok []) := if_neg (by simp [idle])
  show Host.Outcome.next (s.serve 0x61 lineCheckOp) = _
  rw [s.serve_ready 0x61 _ ready, op]
  rfl

/-- Settles O55: the check goes from stage to stage, and an event of another stage finds its guard closed. -/
theorem lineCheckStages : Obligations.LineCheckStages := by
  intro s ended clk
  refine ⟨fun ready => ⟨fun runs => ?_, exec_lineCheck ready, _, exec_lineCheckResult ready, ?_⟩,
    fun unflown taken => ⟨fun quiet => State.trunkTransfer_quiet unflown quiet taken,
      fun pulse => State.trunkTransfer_pulse unflown pulse taken, fun silent => State.trunkTransfer_silent unflown silent taken⟩,
    fun accepted unflown => ⟨?_, ?_⟩, fun idle level => congrArg _ (State.checkBegin_idle idle level),
    fun quiet => ?_, fun other => ?_, fun pulse => ⟨exec_lineCheckEnd_pulse rfl pulse, fun n bound => ?_⟩,
    fun other => congrArg Host.Outcome.next (if_neg other)⟩
  · exact refuses_of_serve (a := .refuse .busy) ready (op := lineCheckOp) rfl (if_pos runs)
  · rw [CheckResult.image_eq]
    obtain ⟨code, distance, time, -⟩ := holds_spell
      [(1, s.probeBus.result.code.code), (2, s.probeBus.result.distance), (4, s.probeBus.result.time.toNat)]
    exact ⟨spell_length _, code, distance, time⟩
  · exact congrArg _ (State.checkBegin_accepted accepted unflown true)
  · exact congrArg _ (State.checkBegin_accepted accepted unflown false)
  · have invalid := s.endCheck_eq .invalid 0
    exact ⟨congrArg _ ((if_pos quiet).trans invalid), congrArg _ ((if_pos quiet).trans invalid),
      congrArg Host.Outcome.next (if_pos quiet)⟩
  · refine ⟨?_, ?_, ?_⟩ <;> exact congrArg Host.Outcome.next (if_neg other)
  · have formed : decide (n ≤ 511) = true := decide_eq_true bound
    exact ⟨exec_lineCheckEnd_pulse formed pulse, exec_lineCheckEnd_pulse formed pulse⟩

end Sys2Proof.Machine
end


section
/-! PROFILE WRITE, PROFILE ERASE, TABLE WRITE and LAYOUT WRITE (R167 to R172). -/

namespace Sys2Proof.Machine

/-! ## Slots that live lots name (R167) -/

theorem State.profileNamed_of_lot {s : State} {p i : Nat} {l : Lot} (here : s.lot i = some l) (names : l.profile = p) :
    s.profileNamed p = true :=
  List.any_eq_true.mpr ⟨some l, List.mem_of_getElem? (State.getElem?_of_lot here), beq_iff_eq.mpr names⟩

theorem State.profileNamed_eq_false {s : State} {p : Nat} (unnamed : ∀ i l, s.lot i = some l → l.profile ≠ p) :
    s.profileNamed p = false := by
  refine List.any_eq_false.mpr fun o ho => ?_
  cases o with
  | none => simp
  | some lot =>
    obtain ⟨i, hi⟩ := List.mem_iff_getElem?.mp ho
    have here : s.lot i = some lot := by rw [State.lot, List.getD_eq_getElem?_getD, hi, Option.getD_some]
    simpa using unnamed i lot here

/-! ## The first failing check of a table row (R169) -/

/-- The check that every check before it meets and that fails itself is the one that is named. -/
theorem firstFailing_of_getElem? {checks : List (Nat × Bool)} {c i : Nat} (fails : checks[c]? = some (i, false))
    (before : ∀ j p, j < c → checks[j]? = some p → p.2 = true) : firstFailing checks = some i := by
  induction checks generalizing c with
  | nil => cases fails
  | cons p rest ih =>
    obtain ⟨k, ok⟩ := p
    cases c with
    | zero =>
      cases fails
      rfl
    | succ c =>
      have first : ok = true := before 0 _ c.succ_pos rfl
      rw [firstFailing, if_pos first]
      exact ih fails fun j p hj hp => before (j + 1) p (Nat.succ_lt_succ hj) hp

theorem tableRowFault_eq_some {entries : List (BitVec 16)} {c : Nat} {v : BitVec 16} (here : entries[c]? = some v)
    (above : 10000 < v.toNat) (before : ∀ j w, j < c → entries[j]? = some w → w.toNat ≤ 10000) :
    tableRowFault (entries.map BitVec.toNat) = some (1 + c) := by
  have bad : tableEntryOk v.toNat = false := by rw [Bool.eq_false_iff, ne_eq, tableEntryOk_iff, Nat.not_le]; exact above
  refine firstFailing_of_getElem? (c := c) (by simp [here, bad]) fun j p hj hp => ?_
  simp only [List.getElem?_map, List.getElem?_zipIdx, Option.map_map, Option.map_eq_some_iff] at hp
  obtain ⟨w, hw, rfl⟩ := hp
  exact (tableEntryOk_iff _).mpr (before j w hj hw)

theorem tableRowFault_eq_none {entries : List (BitVec 16)} (sound : ∀ v ∈ entries, v.toNat ≤ 10000) :
    tableRowFault (entries.map BitVec.toNat) = none := by
  refine firstFailing_eq_none.mpr fun p hp => ?_
  obtain ⟨⟨e, c⟩, indexed, rfl⟩ := List.mem_map.mp hp
  obtain ⟨v, hv, rfl⟩ := List.mem_map.mp (List.fst_mem_of_mem_zipIdx indexed)
  exact (tableEntryOk_iff _).mpr (sound v hv)

/-! ## The block of a content (R171) -/

theorem blockImage_eq (content : List Byte) : blockImage content = padTo 510 0 content ++
    [(crc16 (padTo 510 0 content) >>> 8).setWidth 8, (crc16 (padTo 510 0 content)).setWidth 8] := by
  rw [blockImage, crcBytes_eq]

/-! ## Requests of a fixed size -/

/-- A request of the right size is served. -/
theorem State.serveSized_fits (s : State) (code : Byte) (op : State → State × Answer) {n size : Nat} (fits : n = size) :
    s.serveSized code (n == size) op = s.serve code op := if_pos (beq_iff_eq.mpr fits)

/-- Outside INIT a request that its block accepts with a store job starts it and answers OK (R172). -/
theorem starts_of_serve {s : State} {c : Instr} {code : Byte} {op : State → State × Answer} {block : Nat} {kind : JobKind}
    {image : List Byte} (ready : s.line.state ≠ .init) (served : exec c s = .next (s.serve code op))
    (starts : op s = (s.startJob block kind image, .ok [])) : exec c s = .next { s with
      store := { s.store with job := some { block := block, kind := kind, image := image, page := 0 } }
      link := s.link.prepared code .ok [] } := by
  rw [served, s.serve_ready code op ready, starts]
  rfl

theorem exec_profileWrite {slot : Byte} {image : List Byte} (length : image.length = 215) (s : State) :
    exec (.profileWrite slot image) s = .next (s.serve 0x51 (profileWriteOp slot image)) :=
  congrArg Host.Outcome.next (s.serveSized_fits 0x51 _ length)

theorem exec_tableWrite {row : Byte} {entries : List (BitVec 16)} (length : entries.length = 21) (s : State) :
    exec (.tableWrite row entries) s = .next (s.serve 0x54 (tableWriteOp row (entries.map BitVec.toNat))) :=
  congrArg Host.Outcome.next (s.serveSized_fits 0x54 _ length)

theorem exec_layoutWrite {image : List Byte} (length : image.length = 63) (s : State) :
    exec (.layoutWrite image) s = .next (s.serve 0x56 (layoutWriteOp image)) :=
  congrArg Host.Outcome.next (s.serveSized_fits 0x56 _ length)

/-! ## The checks in their order (R167 to R170) -/

/-- What a request answers once its own checks are passed: BUSY where a job runs, else its job (R172). -/
def State.jobAnswer (s : State) (block : Nat) (kind : JobKind) (image : List Byte) : State × Answer :=
  if s.store.job.isSome then (s, .refuse .busy) else (s.startJob block kind image, .ok [])

theorem State.jobAnswer_busy {s : State} {block : Nat} {kind : JobKind} {image : List Byte} (runs : s.store.job.isSome = true) :
    s.jobAnswer block kind image = (s, .refuse .busy) := if_pos runs

theorem State.jobAnswer_idle {s : State} {block : Nat} {kind : JobKind} {image : List Byte} (idle : s.store.job = none) :
    s.jobAnswer block kind image = (s.startJob block kind image, .ok []) := if_neg (by simp [idle])

section
variable {s : State} {slot : Byte} {image : List Byte}

theorem profileWriteOp_fault {i : Nat} (low : slot.toNat ≤ 7) (fault : profileFault (readProfile image) = some i) :
    profileWriteOp slot image s = (s, .badValue i) := by
  rw [profileWriteOp, if_neg (Nat.not_lt.mpr low), fault]

theorem profileWriteOp_named (low : slot.toNat ≤ 7) (sound : profileFault (readProfile image) = none)
    (named : s.profileNamed slot.toNat = true) : profileWriteOp slot image s = (s, .refuse .inUse) := by
  rw [profileWriteOp, if_neg (Nat.not_lt.mpr low), sound]
  exact if_pos named

theorem profileWriteOp_free (low : slot.toNat ≤ 7) (sound : profileFault (readProfile image) = none)
    (free : s.profileNamed slot.toNat = false) :
    profileWriteOp slot image s = s.jobAnswer (1 + slot.toNat) .profileWrite (blockImage image) := by
  rw [profileWriteOp, if_neg (Nat.not_lt.mpr low), sound]
  exact if_neg (by simp [free])

theorem profileEraseOp_named (low : slot.toNat ≤ 7) (named : s.profileNamed slot.toNat = true) :
    profileEraseOp slot s = (s, .refuse .inUse) := by
  rw [profileEraseOp, if_neg (Nat.not_lt.mpr low), if_pos named]

theorem profileEraseOp_free (low : slot.toNat ≤ 7) (free : s.profileNamed slot.toNat = false) :
    profileEraseOp slot s = s.jobAnswer (1 + slot.toNat) .profileErase blankImage := by
  rw [profileEraseOp, if_neg (Nat.not_lt.mpr low), if_neg (by simp [free])]
  rfl

theorem tableWriteOp_fault {row : Byte} {entries : List Nat} {i : Nat} (low : row.toNat ≤ 7)
    (fault : tableRowFault entries = some i) : tableWriteOp row entries s = (s, .badValue i) := by
  rw [tableWriteOp, if_neg (Nat.not_lt.mpr low), fault]

theorem tableWriteOp_sound {row : Byte} {entries : List Nat} (low : row.toNat ≤ 7) (sound : tableRowFault entries = none) :
    tableWriteOp row entries s = s.jobAnswer 9 .tableWrite (blockImage (tableImage (tableWithRow s.table row.toNat entries))) := by
  rw [tableWriteOp, if_neg (Nat.not_lt.mpr low), sound]
  rfl

theorem layoutWriteOp_notNow (warm : s.line.state ≠ .cold) (configured : s.line.state ≠ .unconfigured) :
    layoutWriteOp image s = (s, .refuse .notNow) := if_pos ⟨warm, configured⟩

theorem layoutWriteOp_fault {i : Nat} (taken : s.line.state = .cold ∨ s.line.state = .unconfigured)
    (fault : layoutFault (readLayout image) = some i) : layoutWriteOp image s = (s, .badValue i) := by
  rw [layoutWriteOp, if_neg (by tauto), fault]

theorem layoutWriteOp_sound (taken : s.line.state = .cold ∨ s.line.state = .unconfigured)
    (sound : layoutFault (readLayout image) = none) :
    layoutWriteOp image s = s.jobAnswer 0 .layoutWrite (blockImage image) := by
  rw [layoutWriteOp, if_neg (by tauto), sound]
  rfl

end

/-- Settles O49: the checks in their order, then BUSY or the job. -/
theorem writingRequestsStartAJob : Obligations.WritingRequestsStartAJob := by
  intro s ready started unnamed crc
  have block (content : List Byte) : crc content = blockImage content := (blockImage_eq content).symm
  refine ⟨fun slot image length => ⟨fun beyond => ⟨?_, ?_⟩, fun i low fault => ?_, fun low sound => ⟨fun i l here names => ?_,
      fun free runs => ?_, fun free idle => ?_⟩⟩,
    fun row entries length => ⟨fun beyond => ?_, fun c v low here above before => ?_, fun low sound runs => ?_,
      fun low sound idle => ?_⟩,
    fun image length => ⟨fun warm configured => ?_, fun taken => ⟨fun i fault => ?_, fun sound runs => ?_, fun sound idle => ?_⟩⟩⟩
  · exact refuses_of_serve (a := .badValue 0xFF) ready (exec_profileWrite length s) (if_pos beyond)
  · exact refuses_of_serve (a := .badValue 0xFF) ready (op := profileEraseOp slot) rfl (if_pos beyond)
  · exact refuses_of_serve (a := .badValue i) ready (exec_profileWrite length s) (profileWriteOp_fault low fault)
  · have named := State.profileNamed_of_lot here names
    exact ⟨refuses_of_serve (a := .refuse .inUse) ready (exec_profileWrite length s) (profileWriteOp_named low sound named),
      refuses_of_serve (a := .refuse .inUse) ready (op := profileEraseOp slot) rfl (profileEraseOp_named low named)⟩
  · have free := State.profileNamed_eq_false free
    exact ⟨refuses_of_serve (a := .refuse .busy) ready (exec_profileWrite length s)
        ((profileWriteOp_free low sound free).trans (State.jobAnswer_busy runs)),
      refuses_of_serve (a := .refuse .busy) ready (op := profileEraseOp slot) rfl
        ((profileEraseOp_free low free).trans (State.jobAnswer_busy runs))⟩
  · have free := State.profileNamed_eq_false free
    rw [block]
    exact ⟨starts_of_serve ready (exec_profileWrite length s)
        ((profileWriteOp_free low sound free).trans (State.jobAnswer_idle idle)),
      starts_of_serve ready (op := profileEraseOp slot) rfl ((profileEraseOp_free low free).trans (State.jobAnswer_idle idle))⟩
  · exact refuses_of_serve (a := .badValue 0) ready (exec_tableWrite length s) (if_pos beyond)
  · exact refuses_of_serve (a := .badValue (1 + c)) ready (exec_tableWrite length s)
      (tableWriteOp_fault low (tableRowFault_eq_some here above before))
  · exact refuses_of_serve (a := .refuse .busy) ready (exec_tableWrite length s)
      ((tableWriteOp_sound low (tableRowFault_eq_none sound)).trans (State.jobAnswer_busy runs))
  · rw [block]
    exact starts_of_serve ready (exec_tableWrite length s)
      ((tableWriteOp_sound low (tableRowFault_eq_none sound)).trans (State.jobAnswer_idle idle))
  · exact refuses_of_serve (a := .refuse .notNow) ready (exec_layoutWrite length s) (layoutWriteOp_notNow warm configured)
  · exact refuses_of_serve (a := .badValue i) ready (exec_layoutWrite length s) (layoutWriteOp_fault taken fault)
  · exact refuses_of_serve (a := .refuse .busy) ready (exec_layoutWrite length s)
      ((layoutWriteOp_sound taken sound).trans (State.jobAnswer_busy runs))
  · rw [block]
    exact starts_of_serve ready (exec_layoutWrite length s) ((layoutWriteOp_sound taken sound).trans (State.jobAnswer_idle idle))

end Sys2Proof.Machine
end


section
/-! The images of layouts and profiles, read and written (R166, R170, R198). -/

namespace Sys2Proof.Machine

/-! ## Bytes and the number they spell -/

theorem beNat_lt (bytes : List Byte) : beNat bytes < 256 ^ bytes.length := by
  induction bytes using List.reverseRecOn with
  | nil => exact Nat.one_pos
  | append_singleton bytes b ih =>
    have byte := b.isLt
    rw [beNat_append_singleton, List.length_append, List.length_singleton, Nat.pow_succ]
    omega

/-- The number that bytes spell is spelled by them. -/
theorem beBytes_beNat (bytes : List Byte) : beBytes bytes.length (beNat bytes) = bytes := by
  induction bytes using List.reverseRecOn with
  | nil => rfl
  | append_singleton bytes b ih =>
    have byte := b.isLt
    have high : (beNat bytes * 256 + b.toNat) / 256 = beNat bytes := by omega
    have low : BitVec.ofNat 8 (beNat bytes * 256 + b.toNat) = b := BitVec.eq_of_toNat_eq (by rw [BitVec.toNat_ofNat]; omega)
    rw [beNat_append_singleton, List.length_append, List.length_singleton, beBytes, high, low, ih]

theorem fieldBytes_length {bytes : List Byte} {at_ w : Nat} (within : at_ + w ≤ bytes.length) : (fieldBytes bytes at_ w).length = w := by
  rw [fieldBytes, List.length_take, List.length_drop]
  omega

theorem fieldNat_lt (bytes : List Byte) (at_ w : Nat) : fieldNat bytes at_ w < 256 ^ w :=
  (beNat_lt _).trans_le (Nat.pow_le_pow_right (by decide) (List.length_take_le ..))

theorem beBytes_fieldNat {bytes : List Byte} {at_ w : Nat} (within : at_ + w ≤ bytes.length) :
    beBytes w (fieldNat bytes at_ w) = fieldBytes bytes at_ w := by
  have spelled := beBytes_beNat (fieldBytes bytes at_ w)
  rwa [fieldBytes_length within] at spelled

/-! ## Signed fields (R198) -/

/-- The two's complement of a signed quantity. -/
def wordOf (v : Int) : Nat := (v % 65536).toNat

theorem wordOf_lt (v : Int) : wordOf v < 65536 := by
  unfold wordOf
  omega

theorem wordOf_signed16 {n : Nat} (h : n < 65536) : wordOf (signed16 n) = n := by
  unfold wordOf signed16
  split <;> omega

theorem signed16_wordOf {v : Int} (low : -32768 ≤ v) (high : v < 32768) : signed16 (wordOf v) = v := by
  unfold wordOf signed16
  split <;> omega

theorem wordOf_fieldSigned (bytes : List Byte) (at_ : Nat) : wordOf (fieldSigned bytes at_) = fieldNat bytes at_ 2 :=
  wordOf_signed16 (fieldNat_lt bytes at_ 2)

theorem fieldSigned_of_word {bytes : List Byte} {at_ : Nat} {v : Int} (range : tempInRange v = true)
    (h : fieldNat bytes at_ 2 = wordOf v) : fieldSigned bytes at_ = v := by
  have ⟨low, high⟩ := of_decide_eq_true range
  rw [fieldSigned, h, signed16_wordOf (by omega) (by omega)]

/-! ## Images that carry a row of fields -/

/-- An image carries a row of fields from a byte offset on, each with its very value. -/
def Carries (image : List Byte) : Nat → List (Nat × Nat) → Prop
  | _, [] => True
  | at_, (w, n) :: rest => fieldNat image at_ w = n ∧ Carries image (at_ + w) rest

/-- Each value of a row fits its width. -/
def Fit (fields : List (Nat × Nat)) : Prop := ∀ f ∈ fields, f.2 < 256 ^ f.1

theorem Fit.append {a b : List (Nat × Nat)} (ha : Fit a) (hb : Fit b) : Fit (a ++ b) := List.forall_mem_append.mpr ⟨ha, hb⟩

theorem fit_cons {w n : Nat} {rest : List (Nat × Nat)} : Fit ((w, n) :: rest) ↔ n < 256 ^ w ∧ Fit rest := List.forall_mem_cons

theorem fit_nil : Fit [] := List.forall_mem_nil _

theorem Holds.carries {image : List Byte} {at_ : Nat} {fields : List (Nat × Nat)} (holds : Holds image at_ fields) (fit : Fit fields) :
    Carries image at_ fields := by
  induction fields generalizing at_ with
  | nil => trivial
  | cons f rest ih =>
    obtain ⟨first, others⟩ := holds
    have ⟨fits, rest_fit⟩ := List.forall_mem_cons.mp fit
    exact ⟨Eq.trans first (Nat.mod_eq_of_lt fits), ih others rest_fit⟩

/-- The bytes of an image from an offset on are those of the row that it carries there. -/
theorem Carries.spell_eq {image : List Byte} {at_ : Nat} {fields : List (Nat × Nat)} (carries : Carries image at_ fields)
    (length : image.length = at_ + width fields) : spell fields = image.drop at_ := by
  induction fields generalizing at_ with
  | nil => exact (List.drop_of_length_le length.le).symm
  | cons f rest ih =>
    obtain ⟨w, n⟩ := f
    obtain ⟨rfl, others⟩ := carries
    have total : width ((w, fieldNat image at_ w) :: rest) = w + width rest := rfl
    rw [total] at length
    rw [spell_cons, beBytes_fieldNat (by omega), ih others (by omega), fieldBytes, ← List.drop_drop, List.take_append_drop]

theorem carries_append {image : List Byte} {at_ : Nat} {a b : List (Nat × Nat)} :
    Carries image at_ (a ++ b) ↔ Carries image at_ a ∧ Carries image (at_ + width a) b := by
  induction a generalizing at_ with
  | nil => exact (iff_of_eq (true_and _)).symm
  | cons f a ih =>
    have total : width (f :: a) = f.1 + width a := rfl
    rw [List.cons_append, Carries, Carries, ih, and_assoc, total, Nat.add_assoc]

section
variable {α : Type} {item : α → List (Nat × Nat)} {k : Nat}

/-- Items of one width, one after another. -/
theorem width_items (size : ∀ a, width (item a) = k) (xs : List α) : width (xs.flatMap item) = k * xs.length := by
  induction xs with
  | nil => rfl
  | cons x xs ih => rw [List.flatMap_cons, width_append, size, ih, List.length_cons, Nat.mul_succ, Nat.add_comm]

theorem carries_items {image : List Byte} (size : ∀ a, width (item a) = k) {at_ : Nat} {xs : List α} :
    Carries image at_ (xs.flatMap item) ↔ ∀ i (h : i < xs.length), Carries image (at_ + k * i) (item xs[i]) := by
  induction xs generalizing at_ with
  | nil => simp [Carries]
  | cons x xs ih =>
    have shift (i : Nat) : at_ + k * (i + 1) = at_ + k + k * i := by ring
    rw [List.flatMap_cons, carries_append, size, ih]
    constructor
    · rintro ⟨first, others⟩ (_ | i) h
      · exact first
      · rw [shift]
        exact others i (Nat.lt_of_succ_lt_succ h)
    · refine fun all => ⟨all 0 (Nat.succ_pos _), fun i h => ?_⟩
      rw [← shift]
      exact all (i + 1) (Nat.succ_lt_succ h)

/-- Items read one after another are the items that an image carries, where reading undoes writing. -/
theorem map_range_of_carries {image : List Byte} (size : ∀ a, width (item a) = k) {at_ : Nat} {xs : List α} {read : Nat → α}
    (carries : Carries image at_ (xs.flatMap item))
    (reads : ∀ i a, a ∈ xs → Carries image (at_ + k * i) (item a) → read i = a) :
    (List.range xs.length).map read = xs := by
  refine List.ext_getElem (by simp) fun i _ h => ?_
  rw [List.getElem_map, List.getElem_range]
  exact reads i _ (List.getElem_mem h) ((carries_items size).mp carries i h)

end

/-- A row of numbers of one width. -/
def numbers (w : Nat) (ns : List Nat) : List (Nat × Nat) := ns.flatMap fun n => [(w, n)]

theorem spell_nil : spell [] = [] := rfl

theorem spell_numbers (w : Nat) (ns : List Nat) : spell (numbers w ns) = ns.flatMap (beBytes w) := by
  simp [spell, numbers, List.flatMap_assoc]

theorem width_singleton (w n : Nat) : width [(w, n)] = w := rfl

theorem width_numbers (w : Nat) (ns : List Nat) : width (numbers w ns) = w * ns.length := width_items (width_singleton w) ns

theorem fit_numbers {w : Nat} {ns : List Nat} (bound : ∀ n ∈ ns, n < 256 ^ w) : Fit (numbers w ns) := fun f hf => by
  obtain ⟨n, hn, here⟩ := List.mem_flatMap.mp hf
  rw [List.eq_of_mem_singleton here]
  exact bound n hn

/-- Numbers read where they stand are carried there. -/
theorem carries_numbers_read (image : List Byte) (at_ w n : Nat) :
    Carries image at_ (numbers w ((List.range n).map fun i => fieldNat image (at_ + w * i) w)) :=
  (carries_items (width_singleton w)).mpr fun i h => by
    rw [List.getElem_map, List.getElem_range]
    exact ⟨rfl, trivial⟩

theorem read_of_carries_numbers {image : List Byte} {at_ w : Nat} {ns : List Nat} (carries : Carries image at_ (numbers w ns)) :
    ((List.range ns.length).map fun i => fieldNat image (at_ + w * i) w) = ns :=
  map_range_of_carries (width_singleton w) carries fun _ _ _ h => h.1

/-! ## The layout's image (R170) -/

/-- The zone counts of a layout. -/
def Layout.zoneFields (l : Layout) : List (Nat × Nat) := [(1, l.zoneCount), (1, l.preZones)]

/-- The fields of a layout between its positions and its prescales. -/
def Layout.timingFields (l : Layout) : List (Nat × Nat) :=
  [(2, l.preInterval), (2, l.mainInterval), (1, l.stepTimeout), (2, l.blockLimit), (1, l.rampSlots), (2, l.rampSpacing),
    (1, l.rampLimit), (1, l.purgeTime), (1, l.economyDelay), (1, l.wakeLead), (2, l.tickPeriod), (1, l.pollPeriod),
    (2, l.defaultMask)]

/-- The default hall climate of a layout. -/
def Layout.hallFields (l : Layout) : List (Nat × Nat) := [(2, wordOf l.hallTemp), (2, l.hallHum)]

/-- The fields of a layout in the order of its image (R198). -/
def Layout.fields (l : Layout) : List (Nat × Nat) :=
  l.zoneFields ++ (numbers 2 l.positions ++ (l.timingFields ++ (numbers 1 l.prescales ++ (numbers 2 l.massFactors ++ l.hallFields))))

theorem layoutImage_eq (l : Layout) : layoutImage l = spell l.fields := by
  unfold layoutImage
  simp only [Layout.fields, Layout.zoneFields, Layout.timingFields, Layout.hallFields, spell_append, spell_cons, spell_nil,
    spell_numbers, beSigned, wordOf, List.append_assoc, List.append_nil]

section
variable {l : Layout} (positions : l.positions.length = 10) (prescales : l.prescales.length = 6) (factors : l.massFactors.length = 6)
include positions prescales factors

theorem Layout.width_fields : width l.fields = 63 := by
  rw [← spell_length, ← layoutImage_eq, layoutImage_length positions prescales factors]

/-- The parts of a layout's image at their offsets (R198). -/
theorem Layout.carries_fields_iff {image : List Byte} : Carries image 0 l.fields ↔
    Carries image 0 l.zoneFields ∧ Carries image 2 (numbers 2 l.positions) ∧ Carries image 22 l.timingFields ∧
      Carries image 41 (numbers 1 l.prescales) ∧ Carries image 47 (numbers 2 l.massFactors) ∧ Carries image 59 l.hallFields := by
  have zoneWidth : width l.zoneFields = 2 := rfl
  have timingWidth : width l.timingFields = 19 := by simp [Layout.timingFields, width]
  simp only [Layout.fields, carries_append, width_numbers, zoneWidth, timingWidth, positions, prescales, factors, Nat.reduceMul,
    Nat.reduceAdd]

end

theorem readLayout_sizes (bytes : List Byte) : (readLayout bytes).positions.length = 10 ∧ (readLayout bytes).prescales.length = 6 ∧
    (readLayout bytes).massFactors.length = 6 := by
  simp [readLayout]

theorem carries_readLayout (bytes : List Byte) : Carries bytes 0 (readLayout bytes).fields := by
  obtain ⟨positions, prescales, factors⟩ := readLayout_sizes bytes
  have single := carries_numbers_read bytes 41 1 6
  simp only [Nat.one_mul] at single
  refine (Layout.carries_fields_iff positions prescales factors).mpr ⟨⟨rfl, rfl, trivial⟩, carries_numbers_read bytes 2 2 10, ?_,
    single, carries_numbers_read bytes 47 2 6, ?_⟩
  · exact ⟨rfl, rfl, rfl, rfl, rfl, rfl, rfl, rfl, rfl, rfl, rfl, rfl, rfl, trivial⟩
  · exact ⟨(wordOf_fieldSigned bytes 59).symm, rfl, trivial⟩

/-- A layout is read from any image that carries its fields. -/
theorem readLayout_of_carries {l : Layout} {image : List Byte} (positions : l.positions.length = 10) (prescales : l.prescales.length = 6)
    (factors : l.massFactors.length = 6) (hall : tempInRange l.hallTemp = true) (carries : Carries image 0 l.fields) :
    readLayout image = l := by
  obtain ⟨⟨zones, pre, -⟩, hpos, ⟨preInt, mainInt, step, block, slots, spacing, limit, purge, economy, wake, tick, poll, mask, -⟩,
    hpre, hfac, ⟨temp, hum, -⟩⟩ := (Layout.carries_fields_iff positions prescales factors).mp carries
  have hpos := read_of_carries_numbers hpos
  have hpre := read_of_carries_numbers hpre
  have hfac := read_of_carries_numbers hfac
  have temp := fieldSigned_of_word hall temp
  rw [positions] at hpos
  rw [prescales] at hpre
  rw [factors] at hfac
  simp only [Nat.one_mul] at hpre
  cases l
  simp only [readLayout, Layout.mk.injEq]
  exact ⟨zones, pre, hpos, preInt, mainInt, step, block, slots, spacing, limit, purge, economy, wake, tick, poll, mask, hpre, hfac,
    temp, hum⟩

/-! ## What the field checks bound (R166, R170) -/

theorem inRange_iff {lo hi v : Nat} : inRange lo hi v = true ↔ lo ≤ v ∧ v ≤ hi := decide_eq_true_iff

/-- The checks of a layout bound every field of its image but the positions, of which those beyond its zones are free. -/
theorem Layout.fit_of_fault {l : Layout} (sound : layoutFault l = none) (positions : ∀ n ∈ l.positions, n < 65536) :
    Fit l.fields ∧ tempInRange l.hallTemp = true := by
  have checks := firstFailing_eq_none.mp sound
  simp only [layoutChecks, List.forall_mem_append, List.forall_mem_cons, List.forall_mem_map, List.forall_mem_zipIdx', inRange_iff,
    Bool.and_eq_true] at checks
  obtain ⟨⟨⟨⟨⟨⟨zones, ⟨pre, -⟩, -⟩, -⟩, -, -, -, preInt, mainInt, step, block, slots, spacing, limit, purge, economy, wake, tick,
    poll, mask, -⟩, prescales⟩, factors⟩, hall, hum, -⟩ := checks
  have zoneFit : Fit l.zoneFields := by
    simp only [Layout.zoneFields, fit_cons, fit_nil, and_true, Nat.reducePow]
    omega
  have timingFit : Fit l.timingFields := by
    simp only [Layout.timingFields, fit_cons, fit_nil, and_true, Nat.reducePow]
    omega
  have hallFit : Fit l.hallFields := by
    have word := wordOf_lt l.hallTemp
    simp only [Layout.hallFields, fit_cons, fit_nil, and_true, Nat.reducePow]
    omega
  have prescaleFit : Fit (numbers 1 l.prescales) := fit_numbers <| List.forall_mem_iff_getElem.mpr fun i h => by
    have one := prescales i h
    simp only [Bool.or_eq_true, beq_iff_eq] at one
    omega
  have factorFit : Fit (numbers 2 l.massFactors) := fit_numbers <| List.forall_mem_iff_getElem.mpr fun i h =>
    Nat.lt_succ_of_le (factors i h).2
  exact ⟨zoneFit.append ((fit_numbers positions).append (timingFit.append (prescaleFit.append (factorFit.append hallFit)))), hall⟩

/-! ## The profile's image (R166) -/

/-- The fields of a zone entry in the order of its image (R198). -/
def ZoneEntry.fields (e : ZoneEntry) : List (Nat × Nat) :=
  [(2, wordOf e.workTemp), (2, e.workHum), (2, e.tempBand), (2, e.humBand), (2, e.coefficient), (2, e.gradientLimit),
    (2, wordOf e.holdTemp), (2, e.holdHum), (2, e.economyOffset)]

/-- The fields of a profile between its name and its zone entries. -/
def Profile.gradingFields (p : Profile) : List (Nat × Nat) :=
  [(4, p.initialMoisture), (4, p.exitMin), (4, p.exitMax), (1, p.stressLimit), (2, wordOf p.heatThreshold), (4, p.minHeat),
    (4, p.minCurtain)]

/-- The fields of a profile behind its name, in the order of its image (R198). -/
def Profile.fields (p : Profile) : List (Nat × Nat) := p.gradingFields ++ p.zones.flatMap ZoneEntry.fields

theorem ZoneEntry.width_fields (e : ZoneEntry) : width e.fields = 18 := rfl

theorem zoneEntryImage_eq (e : ZoneEntry) : zoneEntryImage e = spell e.fields := by
  unfold zoneEntryImage
  simp only [ZoneEntry.fields, spell_cons, spell_nil, beSigned, wordOf, List.append_assoc, List.append_nil]

theorem spell_items {α : Type} (item : α → List (Nat × Nat)) (xs : List α) :
    spell (xs.flatMap item) = xs.flatMap fun x => spell (item x) := List.flatMap_assoc

theorem profileImage_eq (p : Profile) : profileImage p = p.name ++ spell p.fields := by
  unfold profileImage
  simp only [Profile.fields, Profile.gradingFields, spell_append, spell_cons, spell_nil, spell_items, ← zoneEntryImage_eq, beSigned,
    wordOf, List.append_assoc, List.append_nil]

theorem Profile.width_fields {p : Profile} (zones : p.zones.length = 10) : width p.fields = 203 := by
  rw [Profile.fields, width_append, width_items ZoneEntry.width_fields, zones]
  rfl

/-- The parts of a profile's image at their offsets (R198). -/
theorem Profile.carries_fields_iff {image : List Byte} {p : Profile} : Carries image 12 p.fields ↔
    Carries image 12 p.gradingFields ∧ Carries image 35 (p.zones.flatMap ZoneEntry.fields) := carries_append

theorem carries_readZoneEntry (bytes : List Byte) (at_ : Nat) : Carries bytes at_ (readZoneEntry bytes at_).fields :=
  ⟨(wordOf_fieldSigned bytes _).symm, rfl, rfl, rfl, rfl, rfl, (wordOf_fieldSigned bytes _).symm, rfl, rfl, trivial⟩

theorem carries_readProfile (bytes : List Byte) : Carries bytes 12 (readProfile bytes).fields := by
  refine Profile.carries_fields_iff.mpr ⟨⟨rfl, rfl, rfl, rfl, (wordOf_fieldSigned bytes _).symm, rfl, rfl, trivial⟩,
    (carries_items ZoneEntry.width_fields).mpr fun i h => ?_⟩
  simp only [readProfile, List.getElem_map, List.getElem_range]
  exact carries_readZoneEntry bytes (35 + 18 * i)

theorem readZoneEntry_of_carries {e : ZoneEntry} {image : List Byte} {at_ : Nat} (work : tempInRange e.workTemp = true)
    (hold : tempInRange e.holdTemp = true) (carries : Carries image at_ e.fields) : readZoneEntry image at_ = e := by
  obtain ⟨workTemp, workHum, tempBand, humBand, coefficient, gradient, holdTemp, holdHum, economy, -⟩ := carries
  have workTemp := fieldSigned_of_word work workTemp
  have holdTemp := fieldSigned_of_word hold holdTemp
  cases e
  simp only [readZoneEntry, ZoneEntry.mk.injEq]
  exact ⟨workTemp, workHum, tempBand, humBand, coefficient, gradient, holdTemp, holdHum, economy⟩

/-- A profile is read from any image that begins with its name and carries its fields. -/
theorem readProfile_of_carries {p : Profile} {image : List Byte} (zones : p.zones.length = 10) (heat : tempInRange p.heatThreshold = true)
    (temps : ∀ e ∈ p.zones, tempInRange e.workTemp = true ∧ tempInRange e.holdTemp = true)
    (name : fieldBytes image 0 12 = p.name) (carries : Carries image 12 p.fields) : readProfile image = p := by
  obtain ⟨⟨moisture, exitMin, exitMax, stress, threshold, minHeat, minCurtain, -⟩, entries⟩ := Profile.carries_fields_iff.mp carries
  have threshold := fieldSigned_of_word heat threshold
  have entries : ((List.range p.zones.length).map fun n => readZoneEntry image (35 + 18 * n)) = p.zones :=
    map_range_of_carries ZoneEntry.width_fields entries fun i e he here =>
      readZoneEntry_of_carries (temps e he).1 (temps e he).2 here
  rw [zones] at entries
  cases p
  simp only [readProfile, Profile.mk.injEq]
  exact ⟨name, moisture, exitMin, exitMax, stress, threshold, minHeat, minCurtain, entries⟩

theorem ZoneEntry.fit_of_checks {n : Nat} {e : ZoneEntry} (checks : ∀ c ∈ zoneEntryChecks n e, c.2 = true) :
    Fit e.fields ∧ tempInRange e.workTemp = true ∧ tempInRange e.holdTemp = true := by
  simp only [zoneEntryChecks, List.forall_mem_cons, inRange_iff] at checks
  obtain ⟨work, workHum, tempBand, humBand, coefficient, gradient, hold, holdHum, economy, -⟩ := checks
  refine ⟨?_, work, hold⟩
  have workWord := wordOf_lt e.workTemp
  have holdWord := wordOf_lt e.holdTemp
  simp only [ZoneEntry.fields, fit_cons, fit_nil, and_true, Nat.reducePow]
  omega

theorem Profile.fit_of_fault {p : Profile} (sound : profileFault p = none) :
    Fit p.fields ∧ tempInRange p.heatThreshold = true ∧
      ∀ e ∈ p.zones, tempInRange e.workTemp = true ∧ tempInRange e.holdTemp = true := by
  have checks := firstFailing_eq_none.mp sound
  simp only [profileChecks, List.forall_mem_append, List.forall_mem_cons, List.forall_mem_flatMap, List.forall_mem_zipIdx',
    inRange_iff] at checks
  obtain ⟨⟨-, moisture, exitMin, exitMax, stress, heat, minHeat, minCurtain, -⟩, entries⟩ := checks
  have entry : ∀ e ∈ p.zones, Fit e.fields ∧ tempInRange e.workTemp = true ∧ tempInRange e.holdTemp = true :=
    List.forall_mem_iff_getElem.mpr fun i h => ZoneEntry.fit_of_checks (entries i h)
  have gradingFit : Fit p.gradingFields := by
    have word := wordOf_lt p.heatThreshold
    simp only [Profile.gradingFields, fit_cons, fit_nil, and_true, Nat.reducePow]
    omega
  have zonesFit : Fit (p.zones.flatMap ZoneEntry.fields) := List.forall_mem_flatMap.mpr fun e he => (entry e he).1
  exact ⟨gradingFit.append zonesFit, heat, fun e he => (entry e he).2⟩

/-! ## Both ways -/

theorem layoutImage_readLayout {bytes : List Byte} (length : bytes.length = 63) : layoutImage (readLayout bytes) = bytes := by
  obtain ⟨positions, prescales, factors⟩ := readLayout_sizes bytes
  have total := Layout.width_fields positions prescales factors
  rw [layoutImage_eq, (carries_readLayout bytes).spell_eq (by rw [length, total]), List.drop_zero]

theorem profileImage_readProfile {bytes : List Byte} (length : bytes.length = 215) : profileImage (readProfile bytes) = bytes := by
  have total : width (readProfile bytes).fields = 203 := Profile.width_fields (by simp [readProfile])
  have name : (readProfile bytes).name = bytes.take 12 := rfl
  rw [profileImage_eq, (carries_readProfile bytes).spell_eq (by rw [length, total]), name, List.take_append_drop]

theorem readLayout_layoutImage {l : Layout} (sound : layoutFault l = none) (positions : l.positions.length = 10)
    (words : ∀ n ∈ l.positions, n < 65536) (prescales : l.prescales.length = 6) (factors : l.massFactors.length = 6) :
    readLayout (layoutImage l) = l := by
  obtain ⟨fit, hall⟩ := l.fit_of_fault sound words
  rw [layoutImage_eq]
  exact readLayout_of_carries positions prescales factors hall ((holds_spell l.fields).carries fit)

theorem readProfile_profileImage {p : Profile} (sound : profileFault p = none) (name : p.name.length = 12)
    (zones : p.zones.length = 10) : readProfile (profileImage p) = p := by
  obtain ⟨fit, heat, temps⟩ := p.fit_of_fault sound
  have holds : Holds (profileImage p) 12 p.fields := by
    have behind := holds_append p.name [] p.fields
    rwa [List.append_nil, ← profileImage_eq, name] at behind
  have first : fieldBytes (profileImage p) 0 12 = p.name := by
    rw [profileImage_eq, fieldBytes, List.drop_zero, List.take_left' name]
  exact readProfile_of_carries zones heat temps first (holds.carries fit)

/-- Settles O10: an image is the row of the fields it carries, and the field checks keep each value within its width. -/
theorem storeImagesRoundTrip : Obligations.StoreImagesRoundTrip :=
  ⟨fun _ => layoutImage_readLayout, fun _ => profileImage_readProfile,
    fun _ sound positions words prescales factors =>
      ⟨layoutImage_length positions prescales factors, readLayout_layoutImage sound positions words prescales factors⟩,
    fun _ sound name zones => ⟨profileImage_length name zones, readProfile_profileImage sound name zones⟩⟩

end Sys2Proof.Machine
end


section
/-! The notice unit: which kind NOTICE FETCH presents, and what it leaves pending (R180 to R182). -/

namespace Sys2Proof.Machine

section
variable {s : State} {k : Nat} {n : Notice}

/-! ## The kinds that are pending and enabled -/

theorem State.noticePending_eq (s : State) (k : Nat) : s.noticePending k = s.notices.records[k]?.join.isSome := by
  rw [State.noticePending, List.getD_eq_getElem?_getD]
  cases s.notices.records[k]? <;> rfl

theorem State.noticePending_iff : s.noticePending k = true ↔ ∃ n, s.notices.records[k]? = some (some n) := by
  rw [State.noticePending_eq, Option.isSome_iff_exists]
  simp only [Option.join_eq_some_iff]

theorem State.noticeAge_eq (pending : s.notices.records[k]? = some (some n)) : s.noticeAge k = (s.clock - n.time).toNat := by
  rw [State.noticeAge, List.getD_eq_getElem?_getD, pending]
  rfl

/-- The kinds that NOTICE FETCH chooses from are those with a record that the enable set names. -/
theorem State.mem_fetchable : k ∈ s.fetchable ↔
    ∃ n, s.notices.records[k]? = some (some n) ∧ s.notices.enabled.getLsbD k = true := by
  have in_range (h : s.notices.enabled.getLsbD k = true) : k < 20 := BitVec.lt_of_getLsbD h
  simp only [State.fetchable, List.mem_filter, List.mem_range, Bool.and_eq_true, State.noticePending_iff, State.noticeEnabled,
    exists_and_right]
  exact ⟨fun ⟨_, h⟩ => h, fun h => ⟨in_range h.2, h⟩⟩

theorem State.fetchable_eq_nil (nothing : ∀ k n, ¬ (s.notices.records[k]? = some (some n) ∧ s.notices.enabled.getLsbD k = true)) :
    s.fetchable = [] :=
  List.eq_nil_iff_forall_not_mem.mpr fun k h => by
    obtain ⟨n, h⟩ := State.mem_fetchable.mp h
    exact nothing k n h

theorem State.enabledPending_eq_length (s : State) : s.enabledPending = s.fetchable.length := List.countP_eq_length_filter

theorem State.attention_iff : s.attention = true ↔
    ∃ k n, s.notices.records[k]? = some (some n) ∧ s.notices.enabled.getLsbD k = true := by
  rw [State.attention, decide_eq_true_iff, State.enabledPending_eq_length, List.length_pos_iff_exists_mem]
  simp only [State.mem_fetchable]

/-! ## The kind of the highest rank -/

/-- The order of presentation: the group, then the age, then the number (R182). -/
theorem State.noticeBefore_iff {a b : Nat} : s.noticeBefore a b = true ↔ noticeGroup b < noticeGroup a ∨
    (noticeGroup b = noticeGroup a ∧ (s.noticeAge b < s.noticeAge a ∨ (s.noticeAge b = s.noticeAge a ∧ a < b))) := by
  unfold State.noticeBefore
  split
  · rw [decide_eq_true_iff]
    omega
  · split <;> rw [decide_eq_true_iff] <;> omega

theorem State.noticeBefore_asymm {a b : Nat} (h : s.noticeBefore a b = true) : ¬ s.noticeBefore b a = true := by
  rw [State.noticeBefore_iff] at *
  omega

/-- The kind presented of the best kind so far and one more kind (R182). -/
def State.fetchBetter (s : State) : Option Nat → Nat → Option Nat
  | none, k => some k
  | some b, k => if s.noticeBefore k b then some k else some b

theorem State.fetchKind_eq_foldl (s : State) : s.fetchKind = s.fetchable.foldl s.fetchBetter none := by
  unfold State.fetchKind
  congr 1
  funext best k
  cases best <;> rfl

/-- A kind that no later kind comes before stays the best. -/
theorem State.foldl_fetchBetter_stays {ks : List Nat} (first : ∀ j ∈ ks, j ≠ k → s.noticeBefore k j = true) :
    ks.foldl s.fetchBetter (some k) = some k := by
  induction ks with
  | nil => rfl
  | cons j ks ih =>
    have stays : s.fetchBetter (some k) j = some k := by
      rcases eq_or_ne j k with rfl | other
      · exact ite_self _
      · exact if_neg (State.noticeBefore_asymm (first j List.mem_cons_self other))
    rw [List.foldl_cons, stays]
    exact ih fun i hi => first i (List.mem_cons_of_mem _ hi)

/-- A kind that comes before every other one, and before the best so far, becomes the best. -/
theorem State.foldl_fetchBetter_reaches {ks : List Nat} {best : Option Nat} (mem : k ∈ ks)
    (first : ∀ j ∈ ks, j ≠ k → s.noticeBefore k j = true) (behind : ∀ b ∈ best, s.noticeBefore k b = true) :
    ks.foldl s.fetchBetter best = some k := by
  induction ks generalizing best with
  | nil => cases mem
  | cons j ks ih =>
    have later : ∀ i ∈ ks, i ≠ k → s.noticeBefore k i = true := fun i hi => first i (List.mem_cons_of_mem _ hi)
    rw [List.foldl_cons]
    rcases eq_or_ne j k with rfl | other
    · have taken : s.fetchBetter best j = some j := by
        cases best with
        | none => rfl
        | some b => exact if_pos (behind b rfl)
      rw [taken]
      exact State.foldl_fetchBetter_stays later
    · refine ih ((List.mem_cons.mp mem).resolve_left other.symm) later fun b hb => ?_
      have ahead := first j List.mem_cons_self other
      cases best with
      | none =>
        cases hb
        exact ahead
      | some c =>
        rw [State.fetchBetter] at hb
        split at hb <;> cases hb
        · exact ahead
        · exact behind _ rfl

/-- NOTICE FETCH selects the kind that comes before all others it chooses from. -/
theorem State.fetchKind_eq_some (mem : k ∈ s.fetchable) (first : ∀ j ∈ s.fetchable, j ≠ k → s.noticeBefore k j = true) :
    s.fetchKind = some k := by
  rw [State.fetchKind_eq_foldl]
  exact State.foldl_fetchBetter_reaches mem first fun _ h => nomatch h

/-! ## What clearing a kind leaves pending -/

theorem State.noticePending_clearNotice (s : State) (k j : Nat) (hk : k < s.notices.records.length) :
    (s.clearNotice k).noticePending j = (s.noticePending j && j != k) := by
  have records : (s.clearNotice k).notices.records = s.notices.records.set k none := rfl
  rw [State.noticePending_eq, State.noticePending_eq, records]
  rcases eq_or_ne j k with rfl | other
  · simp [hk]
  · simp [other, List.getElem?_set_ne other.symm]

theorem State.fetchable_clearNotice (s : State) {k : Nat} (hk : k < s.notices.records.length) :
    (s.clearNotice k).fetchable = s.fetchable.erase k := by
  have distinct : s.fetchable.Nodup := List.nodup_range.filter _
  rw [distinct.erase_eq_filter, State.fetchable, State.fetchable, List.filter_filter]
  refine List.filter_congr fun j _ => ?_
  rw [State.noticePending_clearNotice s k j hk, Bool.and_right_comm, Bool.and_comm]
  rfl

/-- The kind presented is pending and enabled no more. -/
theorem State.enabledPending_clearNotice (mem : k ∈ s.fetchable) (hk : k < s.notices.records.length) :
    (s.clearNotice k).enabledPending = s.enabledPending - 1 := by
  rw [State.enabledPending_eq_length, State.enabledPending_eq_length, s.fetchable_clearNotice hk, List.length_erase_of_mem mem]

/-- Clearing an enabled kind leaves the pending kinds that are not enabled. -/
theorem State.disabledPending_clearNotice (enabled : s.noticeEnabled k = true) (hk : k < s.notices.records.length) :
    (s.clearNotice k).disabledPending = s.disabledPending := by
  refine List.countP_congr fun j _ => ?_
  have same : (s.clearNotice k).noticeEnabled j = s.noticeEnabled j := rfl
  rw [State.noticePending_clearNotice s k j hk, same]
  rcases eq_or_ne j k with rfl | other
  · simp [enabled]
  · simp [other]

/-! ## The replies -/

/-- The NOTICE FETCH reply: kind, group, record and the two counts left (R182, R198). -/
def noticeFields (kind group : Nat) (n : Notice) (enabled disabled : Nat) : List (Nat × Nat) :=
  [(1, kind), (1, group), (1, n.count), (4, n.detail.toNat), (4, n.time.toNat), (1, enabled), (1, disabled)]

theorem noticeFields_length (kind group : Nat) (n : Notice) (enabled disabled : Nat) :
    (spell (noticeFields kind group n enabled disabled)).length = 13 := spell_length _

theorem spell_noticeFields (kind group : Nat) (n : Notice) (enabled disabled : Nat) :
    spell (noticeFields kind group n enabled disabled) = beBytes 1 kind ++ beBytes 1 group ++ beBytes 1 n.count ++ be32 n.detail
      ++ be32 n.time ++ beBytes 1 enabled ++ beBytes 1 disabled := by
  simp only [noticeFields, be32, spell, List.flatMap_cons, List.flatMap_nil, List.append_assoc, List.append_nil]

/-- The record that NOTICE FETCH answers where no kind is fetchable. -/
def Notice.absent : Notice := { count := 0, detail := 0, time := 0 }

theorem noticeFetchOp_none (empty : s.fetchable = []) :
    noticeFetchOp s = (s, .ok (spell (noticeFields 0xFF 0 .absent 0 s.disabledPending))) := by
  have kind : s.fetchKind = none := by
    rw [State.fetchKind_eq_foldl, empty]
    rfl
  have count : s.enabledPending = 0 := by
    rw [State.enabledPending_eq_length, empty]
    rfl
  rw [noticeFetchOp, kind, count, spell_noticeFields]
  rfl

theorem noticeFetchOp_some (kind : s.fetchKind = some k) (pending : s.notices.records[k]? = some (some n)) :
    noticeFetchOp s = (s.clearNotice k, .ok (spell
      (noticeFields k (noticeGroup k) n (s.clearNotice k).enabledPending (s.clearNotice k).disabledPending))) := by
  have record : (s.notices.records.getD k none).getD .absent = n := by
    rw [List.getD_eq_getElem?_getD, pending]
    rfl
  rw [noticeFetchOp, kind, spell_noticeFields, ← record]
  rfl

theorem exec_noticeFetch (s : State) : exec .noticeFetch s = .next (s.serveAlways 0x42 noticeFetchOp) := rfl

theorem exec_noticeFetch_none (empty : s.fetchable = []) : exec .noticeFetch s = .next { s with
    link := s.link.prepared 0x42 .ok (spell (noticeFields 0xFF 0 .absent 0 s.disabledPending)) } := by
  rw [exec_noticeFetch, State.serveAlways, noticeFetchOp_none empty]
  rfl

theorem exec_noticeFetch_some (pending : s.notices.records[k]? = some (some n)) (enabled : s.notices.enabled.getLsbD k = true)
    (first : ∀ j ∈ s.fetchable, j ≠ k → s.noticeBefore k j = true) :
    exec .noticeFetch s = .next { s with
      notices := { s.notices with records := s.notices.records.set k none }
      link := s.link.prepared 0x42 .ok (spell (noticeFields k (noticeGroup k) n (s.enabledPending - 1) s.disabledPending)) } := by
  have mem : k ∈ s.fetchable := State.mem_fetchable.mpr ⟨n, pending, enabled⟩
  have hk : k < s.notices.records.length := (List.getElem?_eq_some_iff.mp pending).1
  rw [exec_noticeFetch, State.serveAlways, noticeFetchOp_some (State.fetchKind_eq_some mem first) pending,
    State.enabledPending_clearNotice mem hk, State.disabledPending_clearNotice enabled hk]
  rfl

theorem exec_noticeEnable (ready : s.line.state ≠ .init) (kinds : BitVec 32) : exec (.noticeEnable kinds) s = .next { s with
    notices := { s.notices with enabled := kinds.setWidth 20 }
    link := s.link.prepared 0x43 .ok (spell [(4, (kinds.setWidth 20).toNat)]) } := by
  show Host.Outcome.next (s.serve 0x43 (noticeEnableOp kinds)) = _
  rw [s.serve_ready 0x43 _ ready]
  rfl

end

/-! ## The obligation -/

/-- Settles O43: the selection keeps the kind that comes before all others, and its record alone is cleared. -/
theorem noticesAreFetchedByRank : Obligations.NoticesAreFetchedByRank := by
  intro s _ fetchable age
  refine ⟨State.attention_iff, ?_, ?_, fun nothing => ?_, fun k n ⟨pending, enabled⟩ highest => ?_, fun kinds ready => ?_⟩
  · simp only [← State.noticePending_eq]
    exact s.enabledPending_eq_length
  · simp only [← State.noticePending_eq]
    exact List.countP_eq_length_filter
  · obtain ⟨kind, group, count, detail, time, left, disabled, -⟩ := holds_spell (noticeFields 0xFF 0 .absent 0 s.disabledPending)
    exact ⟨_, exec_noticeFetch_none (State.fetchable_eq_nil nothing), noticeFields_length .., kind, group, count, detail, time, left,
      disabled⟩
  · have first : ∀ j ∈ s.fetchable, j ≠ k → s.noticeBefore k j = true := fun j hj other => by
      obtain ⟨m, later⟩ := State.mem_fetchable.mp hj
      rw [State.noticeBefore_iff, State.noticeAge_eq pending, State.noticeAge_eq later.1]
      exact highest j m later other
    obtain ⟨kind, group, count, detail, time, left, disabled, -⟩ :=
      holds_spell (noticeFields k (noticeGroup k) n (s.enabledPending - 1) s.disabledPending)
    exact ⟨_, exec_noticeFetch_some pending enabled first, noticeFields_length .., kind, group, count, detail, time, left,
      disabled⟩
  · exact ⟨_, exec_noticeEnable ready kinds, spell_length _, (holds_spell [(4, (kinds.setWidth 20).toNat)]).1⟩

end Sys2Proof.Machine
end


section
/-! The report queue and the bodies of its reports (R184 to R188, R198). -/

namespace Sys2Proof.Machine

section
variable {s : State}

/-! ## The bodies as rows of fields (R198) -/

theorem rodExit_image (number lot : Word32) (d : Disposition) (moisture stress heat : Nat) (m : Marks) (charge : Option Nat)
    (hangTime exitTime : Word32) : (ReportBody.rodExit number lot d moisture stress heat m charge hangTime exitTime).image =
      spell ([(4, number.toNat), (4, lot.toNat), (1, d.laneCode), (4, moisture), (1, stress), (4, heat), (1, m.bits)]
        ++ chargeFields charge ++ [(4, hangTime.toNat), (4, exitTime.toNat)]) := by
  unfold ReportBody.image
  simp only [spell_append, ← chargeImage_eq, be32]
  simp only [spell, List.flatMap_cons, List.flatMap_nil, List.append_assoc, List.append_nil]

theorem rodExit_length (number lot : Word32) (d : Disposition) (moisture stress heat : Nat) (m : Marks) (charge : Option Nat)
    (hangTime exitTime : Word32) :
    (ReportBody.rodExit number lot d moisture stress heat m charge hangTime exitTime).image.length = 30 := by
  simp only [rodExit_image, spell_length, width_append, chargeFields_width]
  simp only [width, List.map_cons, List.map_nil, List.sum_cons, List.sum_nil, Nat.reduceAdd]

/-- The fields of a ROD_EXIT. -/
theorem rodExit_holds (number lot : Word32) (d : Disposition) (moisture stress heat : Nat) (m : Marks) (charge : Option Nat)
    (hangTime exitTime : Word32) :
    let p := (ReportBody.rodExit number lot d moisture stress heat m charge hangTime exitTime).image
    Holds p 0 [(4, number.toNat), (4, lot.toNat), (1, d.laneCode), (4, moisture), (1, stress), (4, heat), (1, m.bits)] ∧
    Holds p 19 (chargeFields charge) ∧ Holds p 22 [(4, hangTime.toNat), (4, exitTime.toNat)] := by
  intro p
  have all : Holds p 0 _ := rodExit_image number lot d moisture stress heat m charge hangTime exitTime ▸ holds_spell _
  obtain ⟨all, times⟩ := all.append
  obtain ⟨grading, charge⟩ := all.append
  simp only [width_append, chargeFields_width] at times
  exact ⟨grading, charge, times⟩

theorem rodScrap_image (number lot : Word32) (reason : ScrapReason) (cutTime : Word32) :
    (ReportBody.rodScrap number lot reason cutTime).image =
      spell [(4, number.toNat), (4, lot.toNat), (1, reason.code), (4, cutTime.toNat)] := by
  unfold ReportBody.image
  simp only [be32, spell, List.flatMap_cons, List.flatMap_nil, List.append_assoc, List.append_nil]

theorem rodScrap_length (number lot : Word32) (reason : ScrapReason) (cutTime : Word32) :
    (ReportBody.rodScrap number lot reason cutTime).image.length = 13 := by
  simp only [rodScrap_image, spell_length, width, List.map_cons, List.map_nil, List.sum_cons, List.sum_nil, Nat.reduceAdd]

theorem lotSummary_image (slot : Nat) (l : Lot) (drainTime : Word32) : (ReportBody.lotSummary slot l drainTime).image =
    spell [(4, l.id.toNat), (1, slot), (1, l.profile), (4, l.born.toNat), (4, l.scrapped.toNat), (4, l.accepted.toNat),
      (4, l.reviewed.toNat), (4, l.reworked.toNat), (4, l.rejected.toNat), (4, l.acceptedCharge), (4, l.trimTotal),
      (4, l.firstRod.toNat), (4, l.lastRod.toNat), (1, l.gapPending), (2, l.reportsLost), (4, drainTime.toNat)] := by
  unfold ReportBody.image
  simp only [be32, spell, List.flatMap_cons, List.flatMap_nil, List.append_assoc, List.append_nil]

theorem lotSummary_length (slot : Nat) (l : Lot) (drainTime : Word32) :
    (ReportBody.lotSummary slot l drainTime).image.length = 53 := by
  simp only [lotSummary_image, spell_length, width, List.map_cons, List.map_nil, List.sum_cons, List.sum_nil, Nat.reduceAdd]

/-! ## Reading and releasing (R187, R188) -/

theorem reportReadOp_eq (s : State) : reportReadOp s = (s, .ok
    (spell [(2, s.reports.reports.length), (1, min 4 s.reports.reports.length)]
      ++ (s.reports.reports.take 4).flatMap Report.image)) := by
  simp only [reportReadOp, List.length_take, spell, List.flatMap_cons, List.flatMap_nil, List.append_nil]

theorem ReportQueue.headSequence_eq (q : ReportQueue) : q.headSequence = (q.reports.head?.map Report.sequence).getD q.nextSequence := by
  unfold ReportQueue.headSequence
  cases q.reports.head? <;> rfl

/-- A report queue after the release of its n oldest reports (R188). -/
def ReportQueue.released (q : ReportQueue) (n : Nat) : ReportQueue := { q with reports := q.reports.drop n }

/-- The REPORT RELEASE reply: the number removed, the occupancy left and the sequence number of the new head. -/
def ReportQueue.releaseFields (q : ReportQueue) (n : Nat) : List (Nat × Nat) :=
  [(1, min n q.reports.length), (2, q.reports.length - n), (2, (q.released n).headSequence.toNat)]

theorem reportReleaseOp_eq (n : Byte) (s : State) : reportReleaseOp n s =
    (s.setReports (s.reports.released n.toNat), .ok (spell (s.reports.releaseFields n.toNat))) := by
  have dropped : s.reports.reports.drop (min n.toNat s.reports.reports.length) = s.reports.reports.drop n.toNat :=
    List.drop_eq_drop_min.symm
  simp only [reportReleaseOp, dropped, List.length_drop, ReportQueue.releaseFields, ReportQueue.released, spell, List.flatMap_cons,
    List.flatMap_nil, List.append_assoc, List.append_nil]

theorem exec_reportRead (ready : s.line.state ≠ .init) : exec .reportRead s = .next { s with
    link := s.link.prepared 0x40 .ok (spell [(2, s.reports.reports.length), (1, min 4 s.reports.reports.length)]
      ++ (s.reports.reports.take 4).flatMap Report.image) } := by
  show Host.Outcome.next (s.serve 0x40 reportReadOp) = _
  rw [s.serve_ready 0x40 _ ready, reportReadOp_eq]
  rfl

theorem exec_reportRelease (ready : s.line.state ≠ .init) (n : Byte) : exec (.reportRelease n) s = .next { s with
    reports := s.reports.released n.toNat
    link := s.link.prepared 0x41 .ok (spell (s.reports.releaseFields n.toNat)) } := by
  show Host.Outcome.next (s.serve 0x41 (reportReleaseOp n)) = _
  rw [s.serve_ready 0x41 _ ready, reportReleaseOp_eq]
  rfl

/-! ## A full queue (R186) -/

/-- A report that names no lot and meets a full queue is lost, counted by no lot (R186). -/
theorem State.offerReport_lost_unnamed (full : s.reports.reports.length = 256) (body : ReportBody) (id : Word32) :
    s.offerReport body none id = { s with
      reports := s.reports.missed
      notices := s.notices.occurred .reportLost s.clock id } := if_neg (Nat.not_lt.mpr (Nat.le_of_eq full.symm))

end

/-! ## The obligation -/

/-- Settles O44: the bodies and replies are rows of fields, and an offered report is kept below 256 and lost at 256. -/
theorem reportsQueueInOrder : Obligations.ReportsQueueInOrder := by
  refine ⟨fun number lot d moisture stress heat m charge hangTime exitTime => ?_, fun number lot reason cutTime => ?_,
    fun slot l drainTime => ?_, fun s => ⟨fun ready => ?_, fun n ready => ?_,
      fun body slot id room => State.offerReport_kept room body slot id,
      fun body id full => State.offerReport_lost_unnamed full body id,
      fun body slot lot id full hl => State.offerReport_lost full hl body id⟩⟩
  · obtain ⟨⟨rod, lotId, disposition, moist, stressed, heated, marks, -⟩, charged, hung, exited, -⟩ :=
      rodExit_holds number lot d moisture stress heat m charge hangTime exitTime
    rw [Marks.bits_eq] at marks
    refine ⟨rfl, rodExit_length .., rod, lotId, ?_, moist, stressed, heated, marks, fun absent => ?_, fun g here => ?_, hung, exited⟩
    · cases d <;> exact disposition
    · subst absent
      exact ⟨charged.1, charged.2.1⟩
    · subst here
      exact ⟨charged.1, charged.2.1⟩
  · obtain ⟨rod, lotId, cause, cut, -⟩ := rodScrap_image number lot reason cutTime ▸ holds_spell _
    refine ⟨rfl, rodScrap_length .., rod, lotId, ?_, cut⟩
    cases reason <;> exact cause
  · obtain ⟨lotId, place, profile, born, scrapped, accepted, reviewed, reworked, rejected, charge, trim, firstRod, lastRod, gap, lost,
      drained, -⟩ := lotSummary_image slot l drainTime ▸ holds_spell _
    exact ⟨rfl, lotSummary_length .., lotId, place, profile, born, scrapped, accepted, reviewed, reworked, rejected, charge, trim,
      firstRod, lastRod, gap, lost, drained⟩
  · obtain ⟨occupancy, count, -⟩ := holds_append [] ((s.reports.reports.take 4).flatMap Report.image)
      [(2, s.reports.reports.length), (1, min 4 s.reports.reports.length)]
    exact ⟨_, exec_reportRead ready, occupancy, count, List.drop_left' (spell_length _)⟩
  · obtain ⟨removed, left, head, -⟩ := holds_spell (s.reports.releaseFields n.toNat)
    rw [ReportQueue.headSequence_eq] at head
    exact ⟨_, exec_reportRelease ready n, spell_length _, removed, left, head⟩

end Sys2Proof.Machine
end


section
/-! Request rows and the frames that spell them (R192, R198), and the commands that complete (R192, R194). -/

namespace Sys2Proof.Machine

/-! ## The fields of a payload, read where they are spelled (R198) -/

theorem pay32_append (before after : List Byte) (v : Word32) : pay32 (before ++ (be32 v ++ after)) before.length = v := by
  have read : fieldNat (before ++ (be32 v ++ after)) before.length 4 = v.toNat % 2 ^ 32 := hasField_append before after 4 v.toNat
  rw [pay32, read, Nat.mod_eq_of_lt v.isLt, BitVec.ofNat_toNat, BitVec.setWidth_eq]

theorem pay32_be32 (v : Word32) : pay32 (be32 v) 0 = v := by simpa using pay32_append [] [] v

theorem pay16_append (before after : List Byte) (v : BitVec 16) :
    pay16 (before ++ (beBytes 2 v.toNat ++ after)) before.length = v := by
  have read : fieldNat (before ++ (beBytes 2 v.toNat ++ after)) before.length 2 = v.toNat % 2 ^ 16 :=
    hasField_append before after 2 v.toNat
  rw [pay16, read, Nat.mod_eq_of_lt v.isLt, BitVec.ofNat_toNat, BitVec.setWidth_eq]

theorem pay16_beBytes (v : BitVec 16) : pay16 (beBytes 2 v.toNat) 0 = v := by simpa using pay16_append [] [] v

/-- The payload of a TABLE WRITE carries its entries behind the row (R169). -/
theorem carries_entries (row : Byte) (entries : List (BitVec 16)) :
    Carries (row :: entries.flatMap fun e => beBytes 2 e.toNat) 1 (numbers 2 (entries.map BitVec.toNat)) := by
  have holds := holds_append [row] [] (numbers 2 (entries.map BitVec.toNat))
  rw [spell_numbers, List.flatMap_map, List.append_nil] at holds
  refine Holds.carries holds (fit_numbers fun n hn => ?_)
  obtain ⟨e, -, rfl⟩ := List.mem_map.mp hn
  exact e.isLt

theorem payEntries_spelled (row : Byte) {entries : List (BitVec 16)} (length : entries.length = 21) :
    payEntries (row :: entries.flatMap fun e => beBytes 2 e.toNat) = entries.map BitVec.toNat := by
  have read := read_of_carries_numbers (carries_entries row entries)
  rwa [List.length_map, length] at read

/-! ## Request rows (R192) -/

theorem requestForm (c : Instr) : Laws.RequestForm.Statement c := by
  cases c with
  | profileWrite slot image => exact Laws.RequestForm.profileWrite slot image
  | tableWrite row entries => exact Laws.RequestForm.tableWrite row entries
  | layoutWrite image => exact Laws.RequestForm.layoutWrite image
  | identify | status | timeSet | timeRead | reset | lineStart | lineHold | lineRelease | lineRunOut | lineShutdown | zoneRead
  | zoneRestart | chainRead | chainClear | captureRead | lotOpen | lotClose | lotRead | rodRead | rodMark | trainRead | reportRead
  | reportRelease | noticeFetch | noticeEnable | profileRead | profileErase | tableRead | layoutRead | probeRead | lineCheck
  | lineCheckResult =>
    intro code p request _
    cases request
    rfl
  | _ =>
    intro code p request
    cases request

/-- A block whose one operand is a 32-bit word reads that word from the payload that spells it. -/
theorem State.serve_word (s : State) (code : Byte) (op : Word32 → State → State × Answer) (v : Word32) :
    s.serve code (op v) = s.serve code (op (pay32 (be32 v) 0)) := by rw [pay32_be32]

/-- A well-formed request row hands its block the operands that the block reads from the payload of the row's frame (R198). -/
theorem exec_eq_ownerServe {c : Instr} {code : Byte} {p : List Byte} (sized : c.wellFormed = true)
    (request : c.request = some (code, p)) (s : State) : exec c s = .next (s.ownerServe code p) := by
  cases c with
  | timeSet | lotRead | rodRead | rodMark | noticeEnable =>
    cases request
    exact congrArg Host.Outcome.next (s.serve_word _ _ _)
  | lineHold mask =>
    cases request
    exact congrArg (fun w => Host.Outcome.next (s.serve 0x11 (lineHoldOp w))) (pay16_beBytes mask).symm
  | lotOpen id profile gap =>
    cases request
    exact congrArg (fun w => Host.Outcome.next (s.serve 0x30 (lotOpenOp w profile gap))) (pay32_append [] [profile, gap] id).symm
  | trainRead part first count =>
    cases request
    exact congrArg (fun w => Host.Outcome.next (s.serve 0x35 (trainReadOp part w count))) (pay16_append [part] [count] first).symm
  | profileWrite slot image =>
    cases request
    exact exec_profileWrite (of_decide_eq_true sized) s
  | tableWrite row entries =>
    cases request
    have length : entries.length = 21 := of_decide_eq_true sized
    rw [exec_tableWrite length, ← payEntries_spelled row length]
    rfl
  | layoutWrite image =>
    cases request
    exact exec_layoutWrite (of_decide_eq_true sized) s
  | identify | status | timeRead | reset | lineStart | lineRelease | lineRunOut | lineShutdown | zoneRead | zoneRestart | chainRead
  | chainClear | captureRead | lotClose | reportRead | reportRelease | noticeFetch | profileRead | profileErase | tableRead
  | layoutRead | probeRead | lineCheck | lineCheckResult =>
    cases request
    rfl
  | _ => cases request

/-- A payload of the length that the table gives its code reaches the owning block (R192). -/
theorem State.takeRequest_sized {code : Byte} {p : List Byte} (sized : requestLength code = some p.length) (s : State) :
    s.takeRequest code p = s.ownerServe code p := by
  rw [State.takeRequest, sized]
  exact if_pos rfl

/-- Settles O8: the owning block reads from the frame's payload the operands that the row gives it. -/
theorem requestRowsAreTheirFrames : Obligations.RequestRowsAreTheirFrames := by
  intro c code p s sized request
  have length : requestLength code = some p.length := requestForm c code p request sized
  exact ⟨length, by rw [exec_eq_ownerServe sized request, State.takeRequest_sized length]⟩

/-! ## Commands that complete, and those that are ill-formed (R192, R194) -/

theorem exec_completes {c : Instr} (formed : c.wellFormed = true) (s : State) : ∃ t, exec c s = .next t := by
  cases c with
  | curtainPulse | zoneTick | economyTimerExpiry | rampLimitExpiry | purgeTimerExpiry | loadBlockRead | frameHeldPending =>
    exact ⟨_, if_pos (of_decide_eq_true formed)⟩
  | lineCheckEnd | unknownRequest => exact ⟨_, if_pos formed⟩
  | _ => exact ⟨_, rfl⟩

/-- An ill-formed command that is no request of the link is refused by name. -/
theorem exec_illFormed {c : Instr} (malformed : c.wellFormed = false) (noRequest : c.request = none) (s : State) :
    ∃ name, exec c s = .refused (.illFormed name) := by
  cases c with
  | curtainPulse | zoneTick | economyTimerExpiry | rampLimitExpiry | purgeTimerExpiry | loadBlockRead | frameHeldPending =>
    exact ⟨_, if_neg (of_decide_eq_false malformed)⟩
  | lineCheckEnd | unknownRequest => exact ⟨_, if_neg (ne_true_of_eq_false malformed)⟩
  | profileWrite | tableWrite | layoutWrite => cases noRequest
  | _ => cases malformed

/-- A request whose size is not that of its frame is answered BAD_LENGTH (R192). -/
theorem State.serveSized_unfit (s : State) (code : Byte) (op : State → State × Answer) {n size : Nat} (unfit : n ≠ size) :
    s.serveSized code (n == size) op = { s with link := s.link.prepared code .badLength [] } := if_neg (by simpa using unfit)

/-- An ill-formed request of the link is one of another size than its frame's. -/
theorem exec_badLength {c : Instr} {code : Byte} {p : List Byte} (malformed : c.wellFormed = false)
    (request : c.request = some (code, p)) (s : State) : Refuses s c code .badLength [] := by
  cases c with
  | profileWrite | tableWrite | layoutWrite =>
    cases request
    exact congrArg Host.Outcome.next (s.serveSized_unfit _ _ (of_decide_eq_false malformed))
  | curtainPulse | zoneTick | economyTimerExpiry | rampLimitExpiry | purgeTimerExpiry | loadBlockRead | frameHeldPending
  | lineCheckEnd | unknownRequest => cases request
  | _ => cases malformed

/-- Settles O5: the guard of a command's meaning is its well-formedness, and the size of a writing request is checked by the link. -/
theorem wellFormedCommandsComplete : Obligations.WellFormedCommandsComplete := fun _ s =>
  ⟨fun formed => exec_completes formed s,
    fun malformed noRequest => exec_illFormed malformed (Option.isNone_iff_eq_none.mp noRequest) s,
    fun _ _ malformed request => exec_badLength malformed request s⟩

end Sys2Proof.Machine
end


section
/-! The receiver, and the frames that it closes (R191 to R193). -/

namespace Sys2Proof.Machine

section
variable {s : State}

/-! ## One byte at the receiver (R191) -/

theorem exec_linkByte_sending (driven : s.linkDe = true) (b : Byte) : exec (.linkByte b) s = .next s :=
  congrArg Host.Outcome.next (if_pos driven)

theorem exec_linkByte_hunting (silent : s.linkDe = false) (hunting : s.link.receiver = .hunting) (b : Byte) :
    exec (.linkByte b) s =
      .next (if b = 0xA5 then { s with link := { s.link with receiver := .collecting [] s.clock } } else s) := by
  refine congrArg Host.Outcome.next ?_
  rw [State.linkByte, if_neg (ne_true_of_eq_false silent), hunting]
  rfl

theorem exec_linkByte_collecting {bytes : List Byte} {last : Word32} (silent : s.linkDe = false)
    (collecting : s.link.receiver = .collecting bytes last) (b : Byte) : exec (.linkByte b) s = .next (s.collect (bytes ++ [b])) := by
  refine congrArg Host.Outcome.next ?_
  rw [State.linkByte, if_neg (ne_true_of_eq_false silent), collecting]

/-- The receiver has collected these bytes, the last of them now. -/
def State.collected (s : State) (bytes : List Byte) : State :=
  { s with link := { s.link with receiver := .collecting bytes s.clock } }

/-- A row of bytes is no whole frame yet: its length byte is missing, or is at most 240 with bytes of the frame to come. -/
def Unclosed (bytes : List Byte) : Prop :=
  bytes.length < 3 ∨ (bytes.length = 3 ∧ (payByte bytes 2).toNat ≤ 240) ∨
    (3 < bytes.length ∧ bytes.length ≠ 5 + (payByte bytes 2).toNat)

theorem frameBytes_eq (n : Nat) : frameBytes n = 5 + n := by
  unfold frameBytes
  omega

theorem State.collect_unclosed {bytes : List Byte} (unclosed : Unclosed bytes) (s : State) : s.collect bytes = s.collected bytes := by
  unfold Unclosed at unclosed
  rw [State.collect, if_neg (by omega), frameBytes_eq, if_neg (by omega)]
  rfl

/-- A length byte above 240 discards the frame. -/
theorem State.collect_overlong {bytes : List Byte} (length : bytes.length = 3) (above : 240 < (payByte bytes 2).toNat) (s : State) :
    s.collect bytes = s.hunt := if_pos ⟨length, above⟩

theorem State.collect_closed {bytes : List Byte} (long : 3 < bytes.length) (closed : bytes.length = 5 + (payByte bytes 2).toNat)
    (s : State) : s.collect bytes = s.closeFrame bytes := by
  rw [State.collect, if_neg (by omega), frameBytes_eq, if_pos ⟨by omega, closed⟩]

/-! ## A closed frame (R191) -/

theorem State.closeFrame_correct {body : List Byte} (s : State) : s.closeFrame (body ++ crcBytes body) =
    s.frameIn { address := payByte (body ++ crcBytes body) 0, code := payByte (body ++ crcBytes body) 1, payload := body.drop 3 } := by
  have size : (body ++ crcBytes body).length - 2 = body.length := by
    rw [List.length_append, crcBytes, Laws.RequestForm.beBytes_length, Nat.add_sub_cancel]
  simp only [State.closeFrame, size, List.take_left, List.drop_left, if_true]

theorem State.closeFrame_wrongCrc {bytes : List Byte}
    (wrong : bytes.drop (bytes.length - 2) ≠ crcBytes (bytes.take (bytes.length - 2))) (s : State) : s.closeFrame bytes = s.hunt :=
  if_neg wrong

/-- A closed frame for another node leaves the receiver hunting, whatever its CRC is. -/
theorem State.closeFrame_elsewhere {bytes : List Byte} (addressed : payByte bytes 0 ≠ 0)
    (other : (payByte bytes 0).toNat ≠ s.link.address.toNat) : s.closeFrame bytes = s.hunt := by
  have ignored (code : Byte) (p : List Byte) : s.ignoresFrame ⟨payByte bytes 0, code, p⟩ = true := by
    rw [State.ignoresFrame, if_neg addressed]
    exact bne_iff_ne.mpr other
  unfold State.closeFrame
  dsimp only
  split
  · exact s.frameIn_ignored _ (ignored _ _)
  · rfl

/-- A byte that follows others does not move them. -/
theorem payByte_append_left {bytes : List Byte} {i : Nat} (within : i < bytes.length) (more : List Byte) :
    payByte (bytes ++ more) i = bytes.getD i 0 := List.getD_append _ _ _ _ within

theorem payByte_append_singleton {bytes : List Byte} {n : Nat} (length : bytes.length = n) (b : Byte) : payByte (bytes ++ [b]) n = b := by
  subst length
  simp [payByte, List.getD_eq_getElem?_getD]

end

/-- Settles O11: the receiver at each byte, by what it holds. -/
theorem receiverCollectsFrames : Obligations.ReceiverCollectsFrames := by
  intro b s
  refine ⟨fun driven => exec_linkByte_sending driven b, fun silent hunting stray => ?_, fun silent hunting => ?_,
    fun bytes last silent collecting two above => ?_, fun bytes last silent collecting grows => ?_,
    fun bytes last silent collecting long closes => ?_, rfl, rfl⟩
  · rw [exec_linkByte_hunting silent hunting, if_neg stray]
  · rw [exec_linkByte_hunting silent hunting, if_pos rfl]
  · rw [exec_linkByte_collecting silent collecting,
      State.collect_overlong (by simp [two]) (by rwa [payByte_append_singleton two])]
    rfl
  · have unclosed : Unclosed (bytes ++ [b]) := by
      rw [Unclosed, List.length_append, List.length_singleton]
      rcases grows with few | ⟨two, low⟩ | ⟨long, more⟩
      · exact .inl (by omega)
      · rw [payByte_append_singleton two]
        exact .inr (.inl ⟨by omega, low⟩)
      · rw [payByte_append_left long]
        exact .inr (.inr ⟨by omega, more⟩)
    rw [exec_linkByte_collecting silent collecting, State.collect_unclosed unclosed]
    rfl
  · have size : (bytes ++ [b]).length = bytes.length + 1 := List.length_append
    have closed : s.collect (bytes ++ [b]) = s.closeFrame (bytes ++ [b]) :=
      State.collect_closed (by omega) (by rw [payByte_append_left long, size, closes]) s
    have address : payByte (bytes ++ [b]) 0 = bytes.getD 0 0 := payByte_append_left (by omega) [b]
    intro body sent crc
    refine ⟨fun wrong => ?_, fun _ addressed other => ?_⟩ <;> rw [exec_linkByte_collecting silent collecting, closed]
    · have before : (bytes ++ [b]).length - 2 = bytes.length - 1 := by omega
      rw [State.closeFrame_wrongCrc]
      · rfl
      · rw [before, List.drop_append_of_le_length (by omega), List.take_append_of_le_length (by omega), crcBytes_eq]
        exact wrong
    · rw [State.closeFrame_elsewhere (by rwa [address]) (by rwa [address])]
      rfl

section
variable {s : State}

/-! ## A frame received byte by byte (R191) -/

/-- The bytes of a request frame behind 0xA5, without its CRC. -/
def frameBody (f : Frame) : List Byte := [f.address, f.code, BitVec.ofNat 8 f.payload.length] ++ f.payload

/-- The bytes of a request frame behind 0xA5. -/
def frameWire (f : Frame) : List Byte := frameBody f ++ crcBytes (frameBody f)

theorem requestBytes_eq (f : Frame) : requestBytes f = 0xA5 :: frameWire f := rfl

theorem frameWire_length (f : Frame) : (frameWire f).length = 5 + f.payload.length := by
  simp only [frameWire, frameBody, crcBytes, List.length_append, List.length_cons, List.length_nil, Laws.RequestForm.beBytes_length]
  omega

theorem frameWire_lengthByte {f : Frame} (short : f.payload.length ≤ 240) : (payByte (frameWire f) 2).toNat = f.payload.length :=
  Nat.mod_eq_of_lt (show f.payload.length < 2 ^ 8 by omega)

theorem payByte_take {bytes : List Byte} {i n : Nat} (within : i < n) : payByte (bytes.take n) i = payByte bytes i := by
  simp [payByte, List.getD_eq_getElem?_getD, within]

/-- No proper beginning of a frame is taken for a whole one. -/
theorem unclosed_take_frameWire {f : Frame} (short : f.payload.length ≤ 240) {n : Nat} (proper : n < (frameWire f).length) :
    Unclosed ((frameWire f).take n) := by
  have size : ((frameWire f).take n).length = n := List.length_take_of_le proper.le
  rw [frameWire_length f] at proper
  unfold Unclosed
  rw [size]
  by_cases few : n < 3
  · exact .inl few
  · rw [payByte_take (by omega), frameWire_lengthByte short]
    omega

theorem runs_cons_of_next {c : Instr} {t : State} (first : exec c s = .next t) (rest : List Instr) : runs (c :: rest) s = runs rest t := by
  rw [runs, first]

theorem runs_append (a b : List Instr) (s : State) : runs (a ++ b) s = (runs a s).bind (runs b) := by
  induction a generalizing s with
  | nil => rfl
  | cons c a ih =>
    rw [List.cons_append, runs, runs]
    cases exec c s with
    | next t => exact ih t
    | fault r => rfl
    | refused r => rfl

/-- The next byte of a frame reaches the receiver behind those before it. -/
theorem runs_collected_succ {bytes : List Byte} {n : Nat} (within : n < bytes.length) {t : State}
    (before : runs (received (bytes.take n)) s = some (t.collected (bytes.take n))) (silent : t.linkDe = false) :
    runs (received (bytes.take (n + 1))) s = some ((t.collected (bytes.take n)).collect (bytes.take (n + 1))) := by
  have next : exec (.linkByte bytes[n]) (t.collected (bytes.take n)) =
      .next ((t.collected (bytes.take n)).collect (bytes.take n ++ [bytes[n]])) :=
    exec_linkByte_collecting (s := t.collected (bytes.take n)) silent rfl _
  rw [← List.take_append_getElem within, received, List.map_append, runs_append, ← received, before]
  exact runs_cons_of_next next []

/-- A beginning of a frame's bytes is collected in its order. -/
theorem runs_collects {f : Frame} (short : f.payload.length ≤ 240) (silent : s.linkDe = false) {n : Nat}
    (proper : n < (frameWire f).length) :
    runs (received ((frameWire f).take n)) (s.collected []) = some (s.collected ((frameWire f).take n)) := by
  induction n with
  | zero => rfl
  | succ n ih =>
    rw [runs_collected_succ (by omega) (ih (by omega)) silent, State.collect_unclosed (unclosed_take_frameWire short proper)]
    rfl

/-- A frame's bytes behind 0xA5 close that frame. -/
theorem runs_closes {f : Frame} (short : f.payload.length ≤ 240) (silent : s.linkDe = false) :
    ∃ bytes, runs (received (frameWire f)) (s.collected []) = some ((s.collected bytes).frameIn f) := by
  have length := frameWire_length f
  obtain ⟨n, size⟩ : ∃ n, (frameWire f).length = n + 1 := ⟨4 + f.payload.length, by omega⟩
  have last := runs_collected_succ (by omega) (runs_collects short silent (n := n) (by omega)) silent
  rw [← size, List.take_length] at last
  refine ⟨(frameWire f).take n, ?_⟩
  rw [last, State.collect_closed (by omega) (by rw [frameWire_lengthByte short, length]), frameWire, State.closeFrame_correct]
  rfl

/-! ## The frame at the port (R192, R193) -/

/-- A broadcast that R193 takes: outside INIT, TIME SET with 4 bytes or LINE HOLD with 2. -/
def State.TakesBroadcast (s : State) (f : Frame) : Prop :=
  s.line.state ≠ .init ∧ ((f.code = 0x03 ∧ f.payload.length = 4) ∨ (f.code = 0x11 ∧ f.payload.length = 2))

theorem broadcastable_iff (f : Frame) : broadcastable f = true ↔
    (f.code = 0x03 ∧ f.payload.length = 4) ∨ (f.code = 0x11 ∧ f.payload.length = 2) := by
  simp only [broadcastable, Bool.or_eq_true, Bool.and_eq_true, beq_iff_eq]

theorem State.ignoresFrame_broadcast {f : Frame} (broadcast : f.address = 0) :
    s.ignoresFrame f = true ↔ ¬ s.TakesBroadcast f := by
  rw [State.ignoresFrame, if_pos broadcast, Bool.or_eq_true, beq_iff_eq, Bool.not_eq_true', ← Bool.not_eq_true, broadcastable_iff,
    State.TakesBroadcast, not_and_or, not_not]

theorem State.ignoresFrame_addressed {f : Frame} (addressed : f.address ≠ 0) :
    s.ignoresFrame f = true ↔ f.address.toNat ≠ s.link.address.toNat := by
  rw [State.ignoresFrame, if_neg addressed, bne_iff_ne]

/-- A broadcast that is ignored as it is received is ignored at its turn as well. -/
theorem State.takeFrame_untaken {f : Frame} (broadcast : f.address = 0) (untaken : ¬ s.TakesBroadcast f) : s.takeFrame f = s.hunt := by
  rw [State.takeFrame, if_pos broadcast]
  by_cases init : s.line.state = .init
  · exact if_pos init
  · have untaken := not_or.mp fun listed => untaken ⟨init, listed⟩
    exact (if_neg init).trans ((if_neg untaken.1).trans (if_neg untaken.2))

/-- A frame for this node is taken by an idle port as it completes, from a receiver that hunts again. -/
theorem State.frameIn_idle {f : Frame} (idle : s.link.port = .idle) (forNode : f.address = 0 ∨ f.address.toNat = s.link.address.toNat) :
    s.frameIn f = s.hunt.takeFrame f := by
  have taken (h : s.ignoresFrame f = false) : s.frameIn f = s.hunt.takeFrame f := by
    rw [State.frameIn, if_neg (ne_true_of_eq_false h), idle]
  by_cases broadcast : f.address = 0
  · by_cases takes : s.TakesBroadcast f
    · exact taken (Bool.eq_false_iff.mpr fun h => (State.ignoresFrame_broadcast broadcast).mp h takes)
    · rw [s.frameIn_ignored f ((State.ignoresFrame_broadcast broadcast).mpr takes)]
      exact (State.takeFrame_untaken (s := s.hunt) broadcast takes).symm
  · exact taken (Bool.eq_false_iff.mpr fun h => (State.ignoresFrame_addressed broadcast).mp h (forNode.resolve_left broadcast))

theorem State.frameIn_sending {r : Reply} (sending : s.link.port = .sending r) (f : Frame) :
    s.frameIn f = { s with link := s.link.hunting } := by
  rw [State.frameIn, sending]
  exact ite_self _

/-- With a request held, a frame that completes is dropped. -/
theorem State.frameIn_full {r : Reply} {w : Nat} {g : Frame} (preparing : s.link.port = .preparing r w) (held : s.link.held = some g)
    (f : Frame) : s.frameIn f = { s with link := s.link.hunting } := by
  rw [State.frameIn, preparing, held]
  exact ite_self _

theorem exec_frameHeldPending {f : Frame} (short : f.payload.length ≤ 240) (s : State) :
    exec (.frameHeldPending f) s = .next (s.frameIn f) := if_pos short

end

/-! ## The obligations of a whole frame -/

/-- Settles O9: the receiver collects the frame's bytes in order, and the byte that closes it hands the frame to the idle port. -/
theorem receivedBytesAreTheFrame : Obligations.ReceivedBytesAreTheFrame := by
  intro f s short hunting idle forNode
  have silent : s.linkDe = false := by rw [State.linkDe, idle]
  have start : exec (.linkByte 0xA5) s = .next (s.collected []) := exec_linkByte_hunting silent hunting 0xA5
  obtain ⟨bytes, closes⟩ := runs_closes short silent
  have hunts : (s.collected bytes).hunt = s := by
    have same : { s.link with receiver := .hunting } = s.link := by rw [← hunting]
    exact congrArg s.setLink same
  rw [requestBytes_eq, received, List.map_cons, runs_cons_of_next start, ← received, closes,
    State.frameIn_idle (s := s.collected bytes) idle forNode, hunts]

/-- Settles O12: what a frame finds at the port when it completes. -/
theorem busyPortHoldsOneRequest : Obligations.BusyPortHoldsOneRequest := by
  intro f s short taken
  rw [exec_frameHeldPending short]
  refine ⟨fun broadcast untaken => ?_, fun r w preparing forNode free => ?_, fun r w g preparing held => ?_, fun r sending => ?_,
    fun addressed other => ?_, fun code outside => ?_⟩
  · exact congrArg Host.Outcome.next (s.frameIn_ignored f ((State.ignoresFrame_broadcast broadcast).mpr untaken))
  · have heard : s.ignoresFrame f = false := Bool.eq_false_iff.mpr fun ignored => by
      rcases forNode with ⟨broadcast, takes⟩ | ⟨addressed, here⟩
      · exact (State.ignoresFrame_broadcast broadcast).mp ignored takes
      · exact (State.ignoresFrame_addressed addressed).mp ignored here
    rw [s.frameIn_busy f r w heard preparing, free]
    rfl
  · rw [State.frameIn_full preparing held]
  · rw [State.frameIn_sending sending]
  · exact congrArg Host.Outcome.next (s.frameIn_ignored f ((State.ignoresFrame_addressed addressed).mpr other))
  · exact if_pos (Option.isNone_iff_eq_none.mpr outside)

end Sys2Proof.Machine
end


section
/-! TIME SET, TIME READ, IDENTIFY and STATUS (R193, R195 to R197). -/

namespace Sys2Proof.Machine

/-! ## Requests that every line state takes -/

/-- A request that its block answers OK in every line state is a reading of the payload. -/
theorem reads_of_serveAlways {s : State} {c : Instr} {code : Byte} {op : State → State × Answer} {payload : List Byte} {n : Nat}
    {holds : List Byte → Prop} (served : exec c s = .next (s.serveAlways code op)) (answer : op s = (s, .ok payload))
    (length : payload.length = n) (fields : holds payload) : Reads s c code n holds := by
  refine ⟨payload, ?_, length, fields⟩
  rw [served, State.serveAlways, answer]
  rfl

/-! ## The line clock (R197) -/

theorem be32_eq_spell (v : Word32) : be32 v = spell [(4, v.toNat)] := rfl

theorem be32_length (v : Word32) : (be32 v).length = 4 := rfl

theorem be32_holds (v : Word32) : HasField (be32 v) 0 4 v.toNat := (be32_eq_spell v ▸ holds_spell [(4, v.toNat)]).1

/-! ## IDENTIFY (R195) -/

/-- What IDENTIFY gives behind its text: revision, address, rate, capacities. -/
def State.identityFields (s : State) : List (Nat × Nat) :=
  [(1, 1), (1, s.link.address.toNat), (1, s.link.rate.toNat), (2, 4096), (1, 16), (2, 256), (1, 8), (1, 10), (1, 11), (1, 4), (1, 8),
    (2, 4000)]

theorem identifyOp_eq (s : State) : identifyOp s = (s, .ok (identityText ++ spell s.identityFields)) := by
  simp only [identifyOp, capacities, State.identityFields, spell_cons, spell_nil, List.append_assoc, List.append_nil]

/-! ## STATUS (R196) -/

/-- The fields of the STATUS reply (R198). -/
def State.statusFields (s : State) : List (Nat × Nat) :=
  [(1, s.line.state.code), (1, (s.line.phase.map StartPhase.code).getD 0), (2, s.line.holdMask.toNat), (1, s.line.holdOrigin.code),
    (4, s.line.entered.toNat), (4, s.clock.toNat), (1, s.link.lastResetKind.code), (4, s.link.lastResetTime.toNat),
    (1, s.enabledPending), (1, s.disabledPending), (2, s.reports.reports.length), (4, s.openLotId.toNat),
    (1, (s.store.job.map (·.block)).getD 0xFF), (1, s.preSeq.state.code), (1, s.mainSeq.state.code),
    (1, if s.spreaderHold then 1 else 0)]

theorem phaseCode_eq (phase : Option StartPhase) : phaseCode phase = (phase.map StartPhase.code).getD 0 := by cases phase <;> rfl

theorem State.statusImage_eq (s : State) : s.statusImage = spell s.statusFields := by
  unfold State.statusImage
  rw [phaseCode_eq, flagByte_eq]
  simp only [State.statusFields, be32, spell_cons, spell_nil, List.append_assoc, List.append_nil]
  cases s.store.job <;> rfl

theorem statusOp_eq (s : State) : statusOp s = (s, .ok (spell s.statusFields)) := by rw [statusOp, State.statusImage_eq]

theorem State.width_statusFields (s : State) : width s.statusFields = 30 := by
  simp only [State.statusFields, width, List.map_cons, List.map_nil, List.sum_cons, List.sum_nil, Nat.reduceAdd]

/-! ## The obligation -/

/-- Settles O13: the clock alone is set, and each reply is its row of fields. -/
theorem partLevelRequests : Obligations.PartLevelRequests := by
  intro v s
  refine ⟨fun ready => ⟨be32 v, ?_, be32_length v, be32_holds v⟩, fun ready => congrArg Host.Outcome.next (if_neg ready),
    reads_of_serveAlways (op := timeReadOp) rfl rfl (be32_length s.clock) (be32_holds s.clock), ?_, ?_⟩
  · show Host.Outcome.next (s.serve 0x03 (timeSetOp v)) = _
    rw [s.serve_ready 0x03 _ ready]
    rfl
  · refine reads_of_serveAlways (op := identifyOp) rfl (identifyOp_eq s) ?_ ⟨List.take_left' rfl, ?_⟩
    · rw [List.length_append, spell_length]
      rfl
    · have fields := holds_append identityText [] s.identityFields
      rw [List.append_nil] at fields
      obtain ⟨revision, address, rate, rods, lots, reports, profiles, zones, probes, landing, buffer, positions, -⟩ := fields
      exact ⟨revision, address, rate, rods, lots, reports, profiles, zones, probes, landing, buffer, positions⟩
  · refine reads_of_serveAlways (op := statusOp) rfl (statusOp_eq s) ((spell_length _).trans s.width_statusFields) ?_
    obtain ⟨line, phase, mask, origin, entered, clock, resetKind, resetTime, enabled, disabled, reports, lot, job, pre, main, spreader,
      -⟩ := holds_spell s.statusFields
    exact ⟨line, phase, mask, origin, entered, clock, resetKind, resetTime, enabled, disabled, reports, lot, job, pre, main, spreader⟩

end Sys2Proof.Machine
end


section
/-! The step on a queue with a command at its front, the values of the reset tables, and the laws at reset. -/

namespace Sys2Proof.Machine

/-! ## The step on a command -/

theorem step_of_pending {s : State} {c : Instr} {rest : List Instr} (front : s.pending = c :: rest) :
    step s = exec c { s with pending := rest } := by rw [step, front]

/-- Settles O1: the front of the queue is the command of the step. -/
theorem stepRunsTheFrontCommand : Obligations.StepRunsTheFrontCommand := fun _ _ _ => step_of_pending rfl

/-! ## Outputs at rest -/

/-- The spreader is held in every line state but RUNNING (R41). -/
theorem State.spreaderHold_of_not_running {s : State} (still : s.line.state ≠ .running) : s.spreaderHold = true :=
  s.spreaderHold_iff.mpr (.inl still)

/-- Without a notice record no kind drives ATTENTION (R181). -/
theorem State.attention_of_no_record {s : State} (nothing : ∀ n, some n ∉ s.notices.records) : s.attention = false := by
  refine Bool.eq_false_iff.mpr fun driven => ?_
  obtain ⟨k, n, pending, -⟩ := State.attention_iff.mp driven
  exact nothing n (List.mem_of_getElem? pending)

/-- Beyond the zone count no line heats or vents (spec/00_scope.md, Signals). -/
theorem State.outputs_beyond {s : State} {n : Nat} (beyond : s.zones.length ≤ n) : s.heat n = false ∧ s.vent n = false := by
  rw [State.heat, State.vent, List.getElem?_eq_none beyond]
  exact ⟨rfl, rfl⟩

/-! ## The values of the reset tables -/

theorem State.reset_seq (c : Chain) : State.reset.seq c = Sequencer.atReset 0 := by cases c <;> rfl

theorem State.reset_positions (c : Chain) : State.reset.positions c = [] := by cases c <;> rfl

theorem State.reset_stepOut (c : Chain) : State.reset.stepOut c = false := by
  rw [State.stepOut, State.reset_seq]
  rfl

theorem State.reset_attention : State.reset.attention = false :=
  State.attention_of_no_record fun _ listed => nomatch List.eq_of_mem_replicate listed

/-- Settles O3: each block's register values are those of its reset table, and the outputs follow from them. -/
theorem resetLeavesTheResetValues : Obligations.ResetLeavesTheResetValues := by
  have spreader : State.reset.spreaderHold = true := State.spreaderHold_of_not_running (by decide)
  have chains (c : Chain) : State.reset.positions c = [] ∧ State.reset.seq c = Sequencer.atReset 0 :=
    ⟨State.reset_positions c, State.reset_seq c⟩
  have outputs (n : Nat) : State.reset.heat n = false ∧ State.reset.vent n = false := State.outputs_beyond (Nat.zero_le n)
  exact ⟨rfl, rfl, rfl, rfl, rfl, rfl, chains, rfl, rfl, rfl, rfl, rfl, rfl, rfl, rfl, rfl, rfl, rfl, rfl, spreader,
    State.reset_attention, rfl, State.reset_stepOut, outputs, rfl, rfl, rfl, rfl, rfl, rfl, rfl, rfl, rfl, rfl, rfl, rfl, rfl, rfl⟩

/-! ## The laws at reset -/

/-- Without a layout there is no zone to ramp, wait or be in motion. -/
theorem arbiterLaw_of_no_layout {s : State} (layout : s.store.layout = none) (zones : s.zones = []) (queue : s.arbiter.queue = []) :
    ArbiterLaw s := by
  have no_layout (l : Layout) : s.store.layout ≠ some l := by simp [layout]
  have no_zone (zn : Zone) : zn ∉ s.zones := by simp [zones]
  have none_waits (z : Nat) : z ∈ s.arbiter.queue ↔ s.zoneState z = some .waiting := by simp [State.zoneState, queue, zones]
  exact ⟨queue ▸ List.nodup_nil, none_waits, fun l h => absurd h (no_layout l), fun _ => zones, fun l h => absurd h (no_layout l),
    fun _ zn h => absurd h (no_zone zn), fun zn h => absurd h (no_zone zn), fun _ zn h => absurd h (no_zone zn)⟩

theorem spacingLaw_of_stopped {s : State} (stopped : s.arbiter.spacing = none) : SpacingLaw s :=
  ⟨fun _ => stopped, fun _ _ _ => stopped⟩

theorem orderLaw_of_empty {s : State} (counter : s.capture.rodCounter ≠ 0) (empty : s.rodNumbers = []) : OrderLaw s := by
  refine ⟨counter, ?_, ?_⟩ <;> rw [empty]
  · exact fun _ h => absurd h List.not_mem_nil
  · exact List.Pairwise.nil

/-- The state right after reset is that of a power-on reset with the pins undriven and nothing commanded. -/
theorem State.reset_eq_atReset : State.reset = State.reset.atReset .powerOn 0 (BitVec.allOnes 20) := rfl

/-- Settles O56: modes, capacities, train and lots as after every reset; the arbiter, its timer and the order by the empty blocks. -/
theorem resetMeetsTheLaws : Obligations.ResetMeetsTheLaws := by
  have lawful : Lawful State.reset := State.reset_eq_atReset ▸ State.reset.atReset_lawful _ _ _
  have lots : LotLaw State.reset := State.reset_eq_atReset ▸ State.reset.atReset_lotLaw _ _ _
  obtain ⟨modes, capacities, train⟩ := lawful_iff.mp lawful
  have first : State.reset.capture.rodCounter ≠ 0 := by decide
  exact ⟨modes, capacities, arbiterLaw_of_no_layout rfl rfl rfl, spacingLaw_of_stopped rfl, train, orderLaw_of_empty first rfl, lots⟩

end Sys2Proof.Machine
end
